-- ==== Sys2Proof/Word.lean ====
section
/-! DEFINITION. The plainest types of the model: bytes, station addresses, the index types of Table 1
of the scope chapter, and tables of a fixed number of like things. -/

namespace Sys2Proof

/-- A byte of a frame, of an identity block or of a link character. -/
abbrev Byte := BitVec 8

/-- A 48-bit station address, compared as an unsigned integer (scope, section 4.3). -/
abbrev Addr := BitVec 48

/-- A frame as its bytes, from the first byte of the destination address to the last byte of the
payload. The check sequence is the port's and is not part of it (R134, R194). -/
abbrev Frame := List Byte

/-- Blade bays B0 to B13. -/
abbrev BayIx := Fin 14
/-- Power supplies S0 to S5. -/
abbrev SupIx := Fin 6
/-- Cooling zones Z0 to Z2. -/
abbrev ZoneIx := Fin 3
/-- Fans F0 to F5. -/
abbrev FanIx := Fin 6
/-- Thermal sensor channels T0 to T11. -/
abbrev ChanIx := Fin 12
/-- Network uplinks U0 to U3. -/
abbrev UplinkIx := Fin 4
/-- Frame watch units W0 to W7. -/
abbrev UnitIx := Fin 8
/-- Watch composites C0 and C1. -/
abbrev CompIx := Fin 2
/-- Traffic groups 0 to 15. -/
abbrev GroupIx := Fin 16
/-- Indices of the station table. -/
abbrev StationIx := Fin 256
/-- The four inrush classes. -/
abbrev ClassIx := Fin 4

/-- A table of exactly `n` entries. The length travels with the data, so an entry is read and written
at an index that cannot fall outside it. -/
structure Tab (α : Type) (n : Nat) where
  items : List α
  len : items.length = n
  deriving DecidableEq, Repr

/-- The entry at index `i`. -/
def Tab.get {α : Type} {n : Nat} (t : Tab α n) (i : Fin n) : α :=
  t.items[i.val]'(by rw [t.len]; exact i.isLt)

/-- The table with entry `i` replaced. -/
def Tab.set {α : Type} {n : Nat} (t : Tab α n) (i : Fin n) (x : α) : Tab α n :=
  ⟨t.items.set i.val x, by rw [List.length_set]; exact t.len⟩

/-- The table with every entry replaced by its image. -/
def Tab.map {α β : Type} {n : Nat} (t : Tab α n) (f : α → β) : Tab β n :=
  ⟨t.items.map f, by rw [List.length_map]; exact t.len⟩

/-- The table of `n` equal entries. -/
def Tab.fill {α : Type} (n : Nat) (x : α) : Tab α n :=
  ⟨List.replicate n x, List.length_replicate⟩

/-- The images of the entries, each with its index, counted from `i`. -/
def mapFrom {α β : Type} (f : Nat → α → β) : Nat → List α → List β
  | _, [] => []
  | i, x :: xs => f i x :: mapFrom f (i + 1) xs

theorem mapFrom_length {α β : Type} (f : Nat → α → β) (i : Nat) (l : List α) :
    (mapFrom f i l).length = l.length := by
  induction l generalizing i with
  | nil => rfl
  | cons x xs ih => simp [mapFrom, ih]

/-- The table with every entry replaced by its image under its index. -/
def Tab.mapIdx {α β : Type} {n : Nat} (t : Tab α n) (f : Nat → α → β) : Tab β n :=
  ⟨mapFrom f 0 t.items, by rw [mapFrom_length]; exact t.len⟩

theorem filter_append_length {α : Type} (p : α → Bool) (l : List α) :
    (l.filter p ++ l.filter fun x => !p x).length = l.length := by
  induction l with
  | nil => rfl
  | cons x xs ih =>
    rw [List.length_append] at ih ⊢
    cases h : p x <;> simp [h] <;> omega

/-- The table with the selected entries moved to the front, each part in its order. -/
def Tab.gather {α : Type} {n : Nat} (t : Tab α n) (p : α → Bool) : Tab α n :=
  ⟨t.items.filter p ++ t.items.filter fun x => !p x, by rw [filter_append_length]; exact t.len⟩

/-- All bays in index order. -/
def allBays : List BayIx := [0, 1, 2, 3, 4, 5, 6, 7, 8, 9, 10, 11, 12, 13]
/-- All supplies in index order. -/
def allSupplies : List SupIx := [0, 1, 2, 3, 4, 5]
/-- All zones in index order. -/
def allZones : List ZoneIx := [0, 1, 2]
/-- All fans in index order. -/
def allFans : List FanIx := [0, 1, 2, 3, 4, 5]
/-- All sensor channels in index order. -/
def allChans : List ChanIx := [0, 1, 2, 3, 4, 5, 6, 7, 8, 9, 10, 11]
/-- All uplinks in index order. -/
def allUplinks : List UplinkIx := [0, 1, 2, 3]
/-- All watch units in index order. -/
def allUnits : List UnitIx := [0, 1, 2, 3, 4, 5, 6, 7]
/-- Both composites. -/
def allComps : List CompIx := [0, 1]
/-- All traffic groups in index order. -/
def allGroups : List GroupIx := [0, 1, 2, 3, 4, 5, 6, 7, 8, 9, 10, 11, 12, 13, 14, 15]

end Sys2Proof
end

