-- ==== Sys2Proof/Syntax.lean ====
section
/-! DEFINITION. The commands of the block: one constructor of `Instr` for each row of
spec/opcode_table.json, with the row's operands. Event rows carry what their input line, port or timer
delivers. Request rows carry the fields of the request body of Table 11-4, at their full width. -/

namespace Sys2Proof

/-- The serial links on which the part is the initiator: one for each bay, one shared by the supplies. -/
inductive Link where
  /-- the bay link of one bay -/
  | bay (b : BayIx)
  /-- the supply link -/
  | supply
  deriving DecidableEq, Repr

/-- A character as a link receiver delivers it (section 2.2.2, Table 11-11): eight data bits, the
parity bit, and whether its stop bit was found. -/
structure LinkChar where
  data : Byte
  parity : Bool
  stop : Bool
  deriving DecidableEq, Repr

/-- The thirteen values a SET_ZONE body carries, in the order of Table 6-4. -/
structure ZoneValues where
  cooling0 : BitVec 16
  cooling1 : BitVec 16
  cooling2 : BitVec 16
  critLimit : BitVec 16
  minDuty : BitVec 16
  failsafe : BitVec 16
  missingDuty : BitVec 16
  feedforward : BitVec 16
  slewUp : BitVec 16
  slewDown : BitVec 16
  period : BitVec 16
  controlPeriod : BitVec 16
  stall : BitVec 16
  deriving DecidableEq, Repr

/-- The commands, in the order of spec/opcode_table.json (TACH_PULSE is its last row). -/
inductive Instr where
  /-- POWER_ON_RESET: `porst = false` is PORST_N low (or the part's supply rising), `porst = true` the
  rising edge, with the strap levels and the fan presence samples taken at it (bit n is Fn). -/
  | powerOnReset (porst : Bool) (straps : BitVec 4) (fansPresent : BitVec 6)
  | presenceSample (bay : BayIx) (present : Bool)
  | attentionSample (bay : BayIx) (pressed : Bool)
  | pgoodSample (bay : BayIx) (high : Bool)
  | rampTimerExpiry
  | settleTimerExpiry
  | stopTimerExpiry (bay : BayIx)
  | shedTimerExpiry (bay : BayIx)
  | capTimerExpiry (bay : BayIx)
  | pollTimerExpiry (bay : BayIx)
  | roundTimerExpiry
  | requestSent (link : Link)
  | responseTimerExpiry (link : Link)
  | completionWindowExpiry (link : Link)
  | linkCharacter (link : Link) (char : LinkChar)
  | quietEnd (link : Link)
  | supplyPresenceSample (supply : SupIx) (present : Bool)
  | dcOkSample (supply : SupIx) (high : Bool)
  | conversionSlotEnd (code : BitVec 12)
  | controlPeriodExpiry (zone : ZoneIx)
  | tachWindowEnd
  | fanPresenceSample (fan : FanIx) (present : Bool)
  | uplinkLinkReport (uplink : UplinkIx) (up : Bool)
  | holdTimerExpiry (uplink : UplinkIx)
  | agingTimerExpiry
  | bayPortFrame (bay : BayIx) (frame : Frame)
  | uplinkFrame (uplink : UplinkIx) (frame : Frame)
  | silenceTimerExpiry
  | controlFrameExecution
  | queryChassis
  | setManagers (sel count : Byte) (timeout : BitVec 16) (addrs : List Addr)
  | clearStations
  | clearCounters
  | clearEvents
  | queryBay (bay : Byte)
  | setBay (bay sel priority autoPower pressToStart zone primary alternate group : Byte)
  | bayActionOn (bay : Byte)
  | bayActionStop (bay : Byte)
  | bayActionForceOff (bay : Byte)
  | bayActionClearFault (bay : Byte)
  | bayActionRecheck (bay : Byte)
  | readIdentity (cls index first count : Byte)
  | setSupply (supply : Byte) (override : BitVec 16)
  | setPowerPolicy (sel mode : Byte) (overhead capTimeout : BitVec 16)
  | queryPower
  | setRamp (sel : Byte) (code0 code1 code2 code3 rampTimeout settle stopTimeout shedGrace : BitVec 16)
  | setZone (zone : Byte) (sel : BitVec 16) (values : ZoneValues)
  | loadCurve (zone count : Byte) (points : List (BitVec 16 × BitVec 16))
  | setSensor (chan sel : Byte) (gain offset : BitVec 16) (zone : Byte) (warn crit : BitVec 16) (enabled : Byte)
  | queryThermal
  | setUplink (uplink sel trusted : Byte) (hold aging : BitVec 16)
  | setGroup (group : Byte) (tag : BitVec 16)
  | addStation (addr : Addr) (bay : Byte)
  | removeStation (addr : Addr)
  | readStations (first count : BitVec 16)
  | queryTraffic
  | setWatch (unit selector negate direction enabled : Byte) (lo hi : BitVec 48)
  | setComposite (comp mask mode drop copy : Byte) (threshold : BitVec 16)
  | armComposite (comp : Byte)
  | queryWatch
  | readEvents (count : Byte)
  | readConditions
  | ackCondition (kind index : Byte)
  | setEventLimit (limit : Byte)
  | tachPulse (fan : FanIx)
  deriving DecidableEq, Repr

end Sys2Proof
end

