-- ==== Sys2Proof/Decode.lean ====
section
/-! DEFINITION. The command a word spells by the bits of spec/opcode_table.json. No row of the table
gives bits (the reader's count in 98_reader.md: n_rows_with_fixed 0), so no word spells a command.
Request records are decoded from the bytes of a control frame in Machine/Agent.lean. -/

namespace Sys2Proof

/-- The command spelled by the low `nbits` bits of `w`: none, since the table gives no row any bits. -/
def decodeTableWord (_nbits _w : Nat) : Option Instr := none

end Sys2Proof
end

