-- ==== Sys2Proof/Machine/State.lean ====
section
/-! DEFINITION. Everything the manual gives the part to hold, as plain data, and its value right after
power-on reset. Each structure names the table or rule it follows. Times are milliseconds of the
model's clock since power-on (log 1), and a timer that runs holds its deadline. -/

namespace Sys2Proof.Machine

/-! ### Enumerations -/

/-- The eleven bay states (Table 1-3). -/
inductive BayState where
  | empty | settling | ident | off | waiting | admitted | powering | online | stopping | shedding | fault
  deriving DecidableEq, Repr

/-- The run state a blade reports (Table 2-1). -/
inductive RunState where
  | running | stopping | readyOff
  deriving DecidableEq, Repr

/-- The cause kept in a FAULT bay's record (R7). -/
inductive FaultCause where
  | identHeader | identFormat | cannotFit | powerGoodTimeout | powerLost
  deriving DecidableEq, Repr

/-- The kinds of a link failure (Table 2-4), and BAD_BLOCK of R43. -/
inductive FailKind where
  | noResponse | parity | framing | overrun | badCheck | badBlock
  deriving DecidableEq, Repr

/-- The states of a link engine (Table 2-2, Table 2-5). -/
inductive EngineState where
  | idle | sending | awaitStart | receiving | quiet
  deriving DecidableEq, Repr

/-- The phases of an identity read (Table 3-3). -/
inductive ReadPhase where
  | header | pass1 | pass2
  deriving DecidableEq, Repr

/-- The state of an inventory record (R50). -/
inductive RecordState where
  | complete | partialRecord | notStored
  deriving DecidableEq, Repr

/-- The content of an inventory slot (Table 3-4). -/
inductive SlotContent where
  | reading | valid | invalid
  deriving DecidableEq, Repr

/-- The supply states (Table 4-2). -/
inductive SupplyState where
  | absent | ident | active | failed | unread
  deriving DecidableEq, Repr

/-- The redundancy modes (Table 4-5). -/
inductive RedundancyMode where
  | none | nPlus1 | grid
  deriving DecidableEq, Repr

/-- The thermal states of a zone (Table 6-3). -/
inductive ThermalState where
  | normal | warm | critical
  deriving DecidableEq, Repr

/-- The status of a sensor channel (Table 6-2). -/
inductive SensorStatus where
  | initial | valid | faulted | disabled
  deriving DecidableEq, Repr

/-- The health states of a fan (Table 6-6). -/
inductive FanHealth where
  | healthy | stalled | absent | returning
  deriving DecidableEq, Repr

/-- The state a fan entered when it last left HEALTHY (R121). -/
inductive FanDetail where
  | stall | absent
  deriving DecidableEq, Repr

/-- The field selectors of a watch unit (Table 8-2). -/
inductive Selector where
  | destAddr | srcAddr | group | length | typeCode | bay | uplink
  deriving DecidableEq, Repr

/-- The directions a watch unit may name (Table 8-1). -/
inductive WatchDir where
  | up | down | both
  deriving DecidableEq, Repr

/-- The modes of a composite (Table 8-3). -/
inductive CompositeMode where
  | any | all
  deriving DecidableEq, Repr

/-- The event kinds (Table 10-2). -/
inductive EventKind where
  | bayInserted | bayRemoved | bayIdentified | bayIdentFailed | bayOnline | bayOff | bayFault | bayCapped
  | bayShed | attnPress | attnHold | linkLost | linkRestored | supplyChange | budgetChange | inventoryFull
  | fanFault | fanRestored | sensorFault | sensorRestored | zoneNormal | zoneWarm | zoneCritical
  | uplinkDown | uplinkUp | failover | failback | stationConflict | stationFull | watchHit
  | managerLost | managerRestored
  deriving DecidableEq, Repr

/-- What an event is about: the subject class with the index within it (R184). -/
inductive Subject where
  | chassis
  | bay (b : BayIx)
  | supply (i : SupIx)
  | zone (z : ZoneIx)
  | fan (f : FanIx)
  | sensor (c : ChanIx)
  | uplink (u : UplinkIx)
  | composite (c : CompIx)
  deriving DecidableEq, Repr

/-- A condition kind with its subject (Table 10-3). -/
inductive CondKey where
  | bayFault (b : BayIx)
  | zoneCritical (z : ZoneIx)
  | fanFault (f : FanIx)
  | supplyFailed (i : SupIx)
  | sensorFault (c : ChanIx)
  deriving DecidableEq, Repr

/-- The response statuses (Table 9-3). -/
inductive Status where
  | ok | clamped | truncated | busy | wrongState | notPresent | outOfRange | badValue | badKind | badLength | full
  deriving DecidableEq, Repr

/-- Whose identity store a read or an inventory record belongs to (Table 3-3, Table 3-4). -/
inductive Owner where
  | bay (b : BayIx)
  | supply (i : SupIx)
  deriving DecidableEq, Repr

/-! ### Link engines (chapter 2) -/

/-- The five sticky link error flags (R29). -/
structure Sticky where
  parity : Bool
  framing : Bool
  overrun : Bool
  noResponse : Bool
  badCheck : Bool
  deriving DecidableEq, Repr

/-- A link transaction with its argument (Table 2-1), and for a CAP its retried mark. -/
inductive Txn where
  | readBlock (index : Nat)
  | status
  | cap (level : Nat) (retried : Bool)
  | stop
  | supplyReadBlock (addr : SupIx) (index : Nat)
  | supplyStatus (addr : SupIx)
  deriving DecidableEq, Repr

/-- What every link engine holds: its state, the transaction in flight, its timers, and the part of the
response received so far (R25 to R28). -/
structure Engine where
  state : EngineState
  inFlight : Option Txn
  /-- set once the bay has left the polled states with the transaction in flight (R36, R39) -/
  stale : Bool
  /-- the response timer in AWAIT_START, the completion window in RECEIVING, the 50 ms bound in QUIET -/
  timer : Option Nat
  /-- in QUIET, when 2 ms without a character will have passed -/
  silence : Option Nat
  /-- in RECEIVING, the length byte once it has arrived -/
  rxLength : Option Byte
  /-- in RECEIVING, the payload bytes received so far -/
  rx : List Byte
  deriving DecidableEq, Repr

/-- A cap level waiting to be sent (Table 2-2). -/
structure CapSlot where
  level : Nat
  retried : Bool
  deriving DecidableEq, Repr

/-- A bay link engine with its work (Table 2-2) and its poll timer (R36). -/
structure BayLink where
  engine : Engine
  slot : Option CapSlot
  pendingStop : Bool
  identRequest : Option Nat
  pollDue : Bool
  failedPolls : Nat
  pollTimer : Option Nat
  deriving DecidableEq, Repr

/-- The supply link engine with its work (Table 2-5) and its round timer (R40). -/
structure SupplyLink where
  engine : Engine
  identRequests : Tab (Option Nat) 6
  /-- the round's next address while a round is running -/
  round : Option Nat
  roundDue : Bool
  roundTimer : Nat
  deriving DecidableEq, Repr

/-! ### Identity reads and the inventory store (chapter 3) -/

/-- An identity read in flight (Table 3-3). Its owner is where it is held. -/
structure IdRead where
  phase : ReadPhase
  attempts : Nat
  blockCount : Option Nat
  nextBlock : Nat
  retry : List Nat
  invalidCount : Nat
  stored : Bool
  deriving DecidableEq, Repr

/-- An inventory slot (Table 3-4). -/
structure Slot where
  owner : Option Owner
  block : Nat
  cont : Bool
  content : SlotContent
  data : List Byte
  deriving DecidableEq, Repr

/-- The inventory store: 128 slots and the compaction count (R52). -/
structure Store where
  slots : Tab Slot 128
  compactions : Nat
  deriving DecidableEq, Repr

/-! ### Bays (chapter 1) -/

/-- The slot settings of a bay (Table 1-1). -/
structure BaySettings where
  priority : Nat
  autoPower : Bool
  pressToStart : Bool
  zone : ZoneIx
  primary : UplinkIx
  alternate : Option UplinkIx
  group : GroupIx
  deriving DecidableEq, Repr

/-- The power header of a blade (Table 1-2, Table 3-1). -/
structure PowerHeader where
  maxWatts : Nat
  floorWatts : Nat
  cappable : Bool
  inrushClass : ClassIx
  deriving DecidableEq, Repr

/-- The attention history and the hold count (Table 1-2, R13). -/
structure Attention where
  pressedRun : Nat
  releasedRun : Nat
  pressed : Bool
  timeHeld : Nat
  holdCount : Nat
  deriving DecidableEq, Repr

/-- The frame counters of a bay (Table 7-6). -/
structure BayCounters where
  framesUp : Nat
  framesDown : Nat
  blocked : Nat
  noUplink : Nat
  tagViolation : Nat
  watchDrop : Nat
  stationConflict : Nat
  notActive : Nat
  groupMismatch : Nat
  deriving DecidableEq, Repr

/-- A bay: its record (Tables 1-1 and 1-2), samplers, enables, LED phase, cap record (R68), link engine,
identity read, inventory record state and frame counters. -/
structure Bay where
  settings : BaySettings
  state : BayState
  presentRun : Nat
  absentRun : Nat
  /-- the presence line as last sampled, none until the first sample (R3) -/
  presenceLine : Option Bool
  attention : Attention
  header : Option PowerHeader
  alloc : Nat
  admissionStamp : Option Nat
  waitingStamp : Option Nat
  stopRequested : Bool
  activeUplink : Option UplinkIx
  linkLost : Bool
  sticky : Sticky
  inlet : Option Int
  runState : Option RunState
  faultCause : Option FaultCause
  /-- the operation deadline: of the ramp, stop or shed timer by state (Table 1-2) -/
  deadline : Option Nat
  pgoodHigh : Nat
  pgoodLow : Nat
  standbyEnable : Bool
  mainEnable : Bool
  /-- when the present LED pattern began (R23) -/
  ledSince : Nat
  lastDecided : Option Nat
  applied : Option Nat
  capTimer : Option Nat
  link : BayLink
  read : Option IdRead
  /-- the state of the blade's inventory record, none while there is none (R50, R54) -/
  record : Option RecordState
  counters : BayCounters
  deriving DecidableEq, Repr

/-! ### Power (chapters 4 and 5) -/

/-- A supply record (Table 4-1) with its samplers, identity read and inventory record state. -/
structure Supply where
  state : SupplyState
  highLine : Option Nat
  lowLine : Option Nat
  override : Nat
  lineLow : Bool
  dcOk : Bool
  /-- consecutive DC-OK samples of the level other than `dcOk` (R59) -/
  dcOkRun : Nat
  presentRun : Nat
  absentRun : Nat
  sticky : Sticky
  counted : Nat
  read : Option IdRead
  record : Option RecordState
  deriving DecidableEq, Repr

/-- The power allocator's own state (Table 4-0), less the supplies, the zone limits and the per-bay
records, which stand with their supply, zone and bay. -/
structure Allocator where
  mode : RedundancyMode
  overhead : Nat
  /-- the cap timeout in seconds -/
  capTimeout : Nat
  raw : Nat
  budget : Nat
  waiting : List BayIx
  /-- the next stamp to issue: the order does not wrap (R69) -/
  nextStamp : Nat
  deriving DecidableEq, Repr

/-- The ramp channel's state (R88). -/
inductive ChannelState where
  | idle
  | ramping (b : BayIx)
  | settling
  deriving DecidableEq, Repr

/-- The ramp channel (Table 5-1) with the stop timeout and the shed grace (R88). -/
structure RampChannel where
  state : ChannelState
  queue : List BayIx
  iref : Nat
  rampTimer : Option Nat
  settleTimer : Option Nat
  classCodes : Tab Nat 4
  /-- milliseconds -/
  rampTimeout : Nat
  /-- milliseconds -/
  settleTime : Nat
  /-- seconds -/
  stopTimeout : Nat
  /-- seconds -/
  shedGrace : Nat
  deriving DecidableEq, Repr

/-! ### Thermal sensing and fans (chapter 6) -/

/-- A sensor channel: settings (Table 6-1), status (Table 6-2), last code, reading, run counts. The
reading is valid only in VALID. -/
structure Sensor where
  gain : Nat
  offset : Int
  zone : ZoneIx
  warn : Int
  crit : Int
  enabled : Bool
  status : SensorStatus
  lastCode : BitVec 12
  reading : Int
  railRun : Nat
  inRangeRun : Nat
  deriving DecidableEq, Repr

/-- The converter (R106): the channel of the slot in progress, whether that conversion has been
discarded, the channel of the last slot, and the end of the slot. -/
structure Converter where
  converting : Option ChanIx
  discarded : Bool
  lastChan : ChanIx
  slotEnd : Nat
  deriving DecidableEq, Repr

/-- The settings of a zone (Table 6-4). -/
structure ZoneSettings where
  cooling0 : Nat
  cooling1 : Nat
  cooling2 : Nat
  critLimit : Nat
  minDuty : Nat
  failsafe : Nat
  missingDuty : Nat
  feedforward : Nat
  slewUp : Nat
  slewDown : Nat
  period : Nat
  controlPeriod : Nat
  stall : Nat
  deriving DecidableEq, Repr

/-- A point of a fan curve (R111). -/
structure CurvePoint where
  temp : Int
  duty : Nat
  deriving DecidableEq, Repr

/-- The demand of a zone's last update and the contributions reported with it (R116, R128). -/
structure Contributions where
  demand : Nat
  sensor : Option Nat
  inlet : Option Nat
  missing : Bool
  feedforward : Nat
  deriving DecidableEq, Repr

/-- A cooling zone: settings, limit L_z (R66), thermal state (R109), curve (R111), output, compare count
(R117), last update and control period timer (R114). -/
structure Zone where
  settings : ZoneSettings
  limit : Nat
  thermal : ThermalState
  curve : List CurvePoint
  output : Nat
  compare : Nat
  lastUpdate : Option Contributions
  controlTimer : Nat
  deriving DecidableEq, Repr

/-- A fan record (section 6.6) with its presence sampler. -/
structure Fan where
  present : Bool
  /-- consecutive FAN_PRES samples of the level other than `present` (R118) -/
  presenceRun : Nat
  pulses : Nat
  rpm : Nat
  lowRun : Nat
  goodRun : Nat
  health : FanHealth
  /-- the state the fan entered when it last left HEALTHY, kept until it is HEALTHY again (R121) -/
  leftAs : Option FanDetail
  deriving DecidableEq, Repr

/-! ### Forwarding (chapter 7) -/

/-- The frame counters of an uplink (Table 7-6). -/
structure UplinkCounters where
  framesIn : Nat
  framesOut : Nat
  controlAccepted : Nat
  controlRejected : Nat
  ownAddress : Nat
  unknownGroup : Nat
  watchDrop : Nat
  noBay : Nat
  deriving DecidableEq, Repr

/-- An uplink record (Table 7-1). -/
structure Uplink where
  up : Bool
  trusted : Bool
  /-- the failback hold in seconds -/
  hold : Nat
  holdTimer : Option Nat
  counters : UplinkCounters
  deriving DecidableEq, Repr

/-- The kind of a station entry, with the field that kind alone has: a LEARNED entry's age, a STATIC
entry's conflict mark (Table 7-4a). -/
inductive StationKind where
  | fixed (mark : Option BayIx)
  | learned (age : Nat)
  deriving DecidableEq, Repr

/-- A station table entry (Table 7-4a). -/
structure Station where
  addr : Addr
  bay : BayIx
  kind : StationKind
  deriving DecidableEq, Repr

/-- The station table (Table 7-4b). -/
structure StationTable where
  entries : Tab (Option Station) 256
  /-- seconds -/
  agingInterval : Nat
  agingTimer : Nat
  fullMark : Bool
  learnFail : Nat
  moves : Nat
  deriving DecidableEq, Repr

/-! ### Watch units (chapter 8) -/

/-- A watch unit record (Table 8-1). -/
structure WatchUnit where
  selector : Selector
  lo : Nat
  hi : Nat
  negate : Bool
  direction : WatchDir
  enabled : Bool
  deriving DecidableEq, Repr

/-- A composite record (Table 8-3). -/
structure Composite where
  mask : BitVec 8
  mode : CompositeMode
  drop : Bool
  copy : Bool
  threshold : Nat
  hitCounter : Nat
  totalHits : Nat
  latched : Bool
  lastMatch : BitVec 8
  deriving DecidableEq, Repr

/-! ### Management agent (chapter 9) -/

/-- The current manager: source address, arrival uplink, and tag value or untagged (Table 9-1). -/
structure Manager where
  addr : Addr
  uplink : UplinkIx
  tag : Option (BitVec 12)
  deriving DecidableEq, Repr

/-- An accepted control frame with its arrival uplink. -/
structure ControlFrame where
  frame : Frame
  uplink : UplinkIx
  deriving DecidableEq, Repr

/-- The frame in execution: where its next record begins in the payload, how many records have been
answered, and the response records so far. -/
structure Execution where
  control : ControlFrame
  offset : Nat
  answered : Nat
  records : List Byte
  deriving DecidableEq, Repr

/-- The management agent (Table 9-1). -/
structure Agent where
  managed : Bool
  managers : List Addr
  /-- seconds, 0 for disabled -/
  silenceTimeout : Nat
  silenceTimer : Option Nat
  manager : Option Manager
  queue : List ControlFrame
  execution : Option Execution
  straps : BitVec 4
  /-- when the present or last UNMANAGED period began (R169) -/
  unmanagedSince : Nat
  deriving DecidableEq, Repr

/-! ### Events and conditions (chapter 10) -/

/-- An event record (R184). -/
structure Event where
  kind : EventKind
  subject : Subject
  detail : Byte
  time : BitVec 32
  data : BitVec 32
  deriving DecidableEq, Repr

/-- The event queue (Table 10-1). -/
structure EventQueue where
  queue : List Event
  limit : Nat
  lost : Nat
  deriving DecidableEq, Repr

/-- An entry of the condition set (R187). -/
structure Condition where
  key : CondKey
  active : Bool
  acked : Bool
  time : BitVec 32
  deriving DecidableEq, Repr

/-! ### The machine -/

/-- A frame the part has put on a network lane. -/
inductive Sent where
  | uplink (u : UplinkIx) (f : Frame)
  | bay (b : BayIx) (f : Frame)
  deriving DecidableEq, Repr

/-- What the last executed request was answered with: status and response body. The model's own field
(log 4): a control frame's answers go on into its response frame. -/
structure Answer where
  status : Status
  body : List Byte
  deriving DecidableEq, Repr

/-- The whole part. -/
structure State where
  /-- milliseconds since power-on (log 1) -/
  now : Nat
  /-- PORST_N is low (R196) -/
  porstLow : Bool
  bays : Tab Bay 14
  supplyLink : SupplyLink
  store : Store
  supplies : Tab Supply 6
  alloc : Allocator
  ramp : RampChannel
  sensors : Tab Sensor 12
  converter : Converter
  zones : Tab Zone 3
  fans : Tab Fan 6
  /-- the end of the tachometer window in progress (R119) -/
  tachWindow : Nat
  uplinks : Tab Uplink 4
  groups : Tab Nat 16
  stations : StationTable
  units : Tab WatchUnit 8
  composites : Tab Composite 2
  agent : Agent
  events : EventQueue
  conditions : List Condition
  /-- FAULT_IND is lit (R192) -/
  faultInd : Bool
  /-- the frames put on the network lanes since power-on, oldest first (the model's own, log 4) -/
  sent : List Sent
  /-- the answer to the last executed request (the model's own, log 4) -/
  answer : Option Answer
  /-- how many free values have been drawn (the model's own, log 10) -/
  draws : Nat
  /-- the commands waiting, first in first out (the model's own, log 5) -/
  pending : List Instr
  deriving DecidableEq, Repr

/-- What could stop the part. No rule of the manual stops it: every event and request has an effect or
leaves the state as it is, so there is no constructor. Nobody raises a fault. -/
inductive Fault where
  deriving DecidableEq, Repr

/-- Why a command could be rejected. -/
inductive Refusal where
  /-- The command has no meaning in the model yet; only an arm of `exec` answers with it. Safe: nothing
  is claimed of such a command. -/
  | notModelled (mnemonic : String)
  deriving DecidableEq, Repr

/-! ### Power-on reset -/

/-- No sticky flag set. -/
def Sticky.clear : Sticky := ⟨false, false, false, false, false⟩

/-- An engine with nothing in flight (R24, R40). -/
def Engine.reset : Engine := ⟨.idle, none, false, none, none, none, []⟩

/-- A bay link engine at reset and at each entry of its bay to EMPTY (R24). -/
def BayLink.reset : BayLink := ⟨Engine.reset, none, false, none, false, 0, none⟩

/-- The attention history of Table 1-2. -/
def Attention.clear : Attention := ⟨0, 0, false, 0, 0⟩

/-- The power-on slot settings of bay `b` (Table 1-1). -/
def BaySettings.default (b : BayIx) : BaySettings :=
  { priority := 4, autoPower := true, pressToStart := true
    zone := if b.val ≤ 4 then 0 else if b.val ≤ 9 then 1 else 2
    primary := if b.val % 2 = 0 then 0 else 1
    alternate := some (if b.val % 2 = 0 then 1 else 0)
    group := 0 }

/-- Bay `b` at power-on (R3). The manual gives its two PGOOD sample counts no power-on value: both are 0 (log 25). -/
def Bay.reset (b : BayIx) : Bay :=
  { settings := .default b, state := .empty, presentRun := 0, absentRun := 0, presenceLine := none
    attention := .clear, header := none, alloc := 0, admissionStamp := none, waitingStamp := none
    stopRequested := false, activeUplink := none, linkLost := false, sticky := .clear, inlet := none
    runState := none, faultCause := none, deadline := none, pgoodHigh := 0, pgoodLow := 0
    standbyEnable := false, mainEnable := false, ledSince := 0, lastDecided := none, applied := none
    capTimer := none, link := .reset, read := none, record := none
    counters := ⟨0, 0, 0, 0, 0, 0, 0, 0, 0⟩ }

/-- A supply at power-on (R57). -/
def Supply.reset : Supply :=
  { state := .absent, highLine := none, lowLine := none, override := 0, lineLow := false, dcOk := false
    dcOkRun := 0, presentRun := 0, absentRun := 0, sticky := .clear, counted := 0, read := none
    record := none }

/-- A free slot with its power-on content (R52). -/
def Slot.free : Slot := ⟨none, 0, false, .reading, List.replicate 16 0⟩

/-- Sensor channel `c` at power-on (R105). -/
def Sensor.reset (c : ChanIx) : Sensor :=
  { gain := 400, offset := -500, zone := if c.val ≤ 3 then 0 else if c.val ≤ 7 then 1 else 2
    warn := 450, crit := 600, enabled := true, status := .initial, lastCode := 0, reading := 0
    railRun := 0, inRangeRun := 0 }

/-- The power-on settings of a zone (Table 6-4). -/
def ZoneSettings.default : ZoneSettings :=
  { cooling0 := 0, cooling1 := 1800, cooling2 := 3600, critLimit := 1200, minDuty := 300, failsafe := 600
    missingDuty := 700, feedforward := 100, slewUp := 1000, slewDown := 50, period := 250
    controlPeriod := 1000, stall := 600 }

/-- A zone at power-on with both fans present (R66, R111, R115, R117). -/
def Zone.reset : Zone :=
  { settings := .default, limit := 3600, thermal := .normal
    curve := [⟨250, 300⟩, ⟨350, 450⟩, ⟨450, 700⟩, ⟨550, 1000⟩]
    output := 600, compare := 150, lastUpdate := none, controlTimer := 1000 }

/-- A fan present at reset (R118). -/
def Fan.reset : Fan :=
  { present := true, presenceRun := 0, pulses := 0, rpm := 0, lowRun := 0, goodRun := 0
    health := .healthy, leftAs := none }

/-- Uplink `u` at power-on (R129). -/
def Uplink.reset (u : UplinkIx) : Uplink :=
  { up := false, trusted := u.val = 0, hold := 10, holdTimer := none
    counters := ⟨0, 0, 0, 0, 0, 0, 0, 0⟩ }

/-- A watch unit at power-on (R155). -/
def WatchUnit.reset : WatchUnit :=
  { selector := .destAddr, lo := 0, hi := 0, negate := false, direction := .both, enabled := false }

/-- A composite at power-on (R157). -/
def Composite.reset : Composite :=
  { mask := 0, mode := .any, drop := false, copy := false, threshold := 1, hitCounter := 0
    totalHits := 0, latched := false, lastMatch := 0 }

/-- The part right after reset, with straps at 0 and every fan present, the inputs for which the manual
states no value (log 2). `powerOn` of Machine/Reset.lean gives the state for any straps and fans. -/
def State.reset : State :=
  { now := 0, porstLow := false
    bays := ⟨allBays.map Bay.reset, rfl⟩
    supplyLink := { engine := .reset, identRequests := .fill 6 none, round := none, roundDue := false
                    roundTimer := 1000 }
    store := ⟨.fill 128 .free, 0⟩
    supplies := .fill 6 .reset
    alloc := { mode := .nPlus1, overhead := 600, capTimeout := 5, raw := 0, budget := 0, waiting := []
               nextStamp := 0 }
    ramp := { state := .idle, queue := [], iref := 0, rampTimer := none, settleTimer := none
              classCodes := ⟨[40, 60, 80, 120], rfl⟩, rampTimeout := 1500, settleTime := 250
              stopTimeout := 120, shedGrace := 30 }
    sensors := ⟨allChans.map Sensor.reset, rfl⟩
    converter := ⟨some 0, false, 0, 10⟩
    zones := .fill 3 .reset
    fans := .fill 6 .reset
    tachWindow := 1000
    uplinks := ⟨allUplinks.map Uplink.reset, rfl⟩
    groups := .fill 16 0
    stations := { entries := .fill 256 none, agingInterval := 300, agingTimer := 300000, fullMark := false
                  learnFail := 0, moves := 0 }
    units := .fill 8 .reset
    composites := .fill 2 .reset
    agent := { managed := false, managers := [], silenceTimeout := 30, silenceTimer := none, manager := none
               queue := [], execution := none, straps := 0, unmanagedSince := 0 }
    events := ⟨[], 64, 0⟩
    conditions := []
    faultInd := false
    sent := []
    answer := none
    draws := 0
    pending := [] }

end Sys2Proof.Machine
end

