-- ==== Sys2Proof/Machine/Operands.lean ====
section
/-! DEFINITION. How operands are read and responses written: byte order and widths (R193, Table 11-1),
the fields of a frame (R134, R138), selections, codes and clamps. -/

namespace Sys2Proof.Machine

/-! ### Writing fields (R193) -/

/-- One byte. -/
def u8 (n : Nat) : List Byte := [BitVec.ofNat 8 n]

/-- Two bytes, most significant first. -/
def u16 (n : Nat) : List Byte := [BitVec.ofNat 8 (n / 256), BitVec.ofNat 8 n]

/-- Four bytes, most significant first. -/
def u32 (n : Nat) : List Byte := u16 (n / 65536) ++ u16 (n % 65536)

/-- A station address or watch bound: six bytes, most significant first. -/
def u48 (n : Nat) : List Byte := u16 (n / 4294967296) ++ u32 (n % 4294967296)

/-- A signed two-byte field, two's complement. -/
def i16 (x : Int) : List Byte := u16 (BitVec.ofInt 16 x).toNat

/-- An on/off field. -/
def flag (b : Bool) : List Byte := u8 b.toNat

/-- A one-byte field that may be absent (all ones). -/
def optU8 : Option Nat → List Byte
  | none => [0xFF]
  | some n => u8 n

/-- A two-byte field that may be absent (all ones). -/
def optU16 : Option Nat → List Byte
  | none => [0xFF, 0xFF]
  | some n => u16 n

/-- A four-byte field that may be absent (all ones). -/
def optU32 : Option Nat → List Byte
  | none => [0xFF, 0xFF, 0xFF, 0xFF]
  | some n => u32 n

/-- A temperature, −32768 when missing. -/
def temp : Option Int → List Byte
  | none => i16 (-32768)
  | some t => i16 t

/-- A list in a response body: a one-byte count, then the entries (R193, Lists). -/
def counted {α : Type} (l : List α) (f : α → List Byte) : List Byte := u8 l.length ++ l.flatMap f

/-! ### Reading fields (R193) -/

/-- The byte at an offset. -/
def byteAt (l : List Byte) (i : Nat) : Byte := l.getD i 0

/-- The big-endian two-byte field at an offset. -/
def wordAt (l : List Byte) (i : Nat) : BitVec 16 := byteAt l i ++ byteAt l (i + 1)

/-- The big-endian six-byte field at an offset. -/
def addrAt (l : List Byte) (i : Nat) : Addr := wordAt l i ++ wordAt l (i + 2) ++ wordAt l (i + 4)

/-- The index a numeric field names, if it is below the count. -/
def toIx (n x : Nat) : Option (Fin n) := if h : x < n then some ⟨x, h⟩ else none

/-- An on/off code: 0 for off, 1 for on, any other is no code (R193). -/
def onOff (b : Byte) : Option Bool :=
  if b = 0 then some false else if b = 1 then some true else none

/-- An alternate uplink code: 0xFF for none (Table 11-4). -/
def alternateCode (b : Byte) : Option (Option UplinkIx) :=
  if b = 0xFF then some none else (toIx 4 b.toNat).map some

/-- A value clamped to a range. -/
def clampNat (lo hi x : Nat) : Nat := max lo (min hi x)

/-- A signed value clamped to a range. -/
def clampInt (lo hi x : Int) : Int := max lo (min hi x)

/-- A selected setting takes the carried value, an unselected one keeps its own. -/
def pick {α : Type} (selected : Bool) (carried kept : α) : α := if selected then carried else kept

/-- The status of a setting request whose checks passed (Table 9-3). -/
def clampStatus (clamped : Bool) : Status := if clamped then .clamped else .ok

/-! ### Station addresses (scope, section 4.3) -/

/-- The group bit: the least significant bit of the address's first pair. -/
def isGroup (a : Addr) : Bool := a.getLsbD 40

/-- The part's station address 02-4F-56-00-00-xx, xx from the straps (R167). -/
def stationAddr (straps : BitVec 4) : Addr := 0x024F560000#40 ++ (0#4 ++ straps)

/-- The control group address 03-4F-56-00-00-FF. -/
def controlGroupAddr : Addr := 0x034F560000FF#48

/-- The control type code. -/
def controlType : BitVec 16 := 0xA7C4#16

/-! ### Frames (R134, R138) -/

/-- The frame's destination address. -/
def frameDst (f : Frame) : Addr := addrAt f 0

/-- The frame's source address. -/
def frameSrc (f : Frame) : Addr := addrAt f 6

/-- The frame carries a tag: the two bytes after its source address hold 0x8100. -/
def frameTagged (f : Frame) : Bool := wordAt f 12 == 0x8100#16

/-- The tag value of a frame that carries a tag: the low 12 bits of the tag's second pair. -/
def frameTag (f : Frame) : Option (BitVec 12) :=
  if frameTagged f then some ((wordAt f 14).setWidth 12) else none

/-- The type code, read past any tag. -/
def frameType (f : Frame) : BitVec 16 := wordAt f (if frameTagged f then 16 else 12)

/-- The payload after the type code. -/
def framePayload (f : Frame) : List Byte := f.drop (if frameTagged f then 18 else 14)

/-- The frame is whole as far as its type code: a port hands the engine no other frame (R134). -/
def frameWhole (f : Frame) : Bool := (if frameTagged f then 18 else 14) ≤ f.length

/-- LENGTH of Table 7-3: to the last byte of the check sequence, whose four bytes are the port's. -/
def frameLength (f : Frame) : Nat := f.length + 4

/-- The tag with value `v`, upper four bits zero. -/
def tagBytes (v : Nat) : List Byte := [0x81#8, 0x00#8] ++ u16 v

/-- The frame with a tag of value `v` placed directly after its source address (R134). -/
def insertTag (v : Nat) (f : Frame) : Frame := f.take 12 ++ tagBytes v ++ f.drop 12

/-- The frame with its tag removed, if it carries one (R134). -/
def stripTag (f : Frame) : Frame := if frameTagged f then f.take 12 ++ f.drop 16 else f

/-- A frame of the agent: addresses, the tag if any, the control type code, and the payload padded
with zero bytes to the Ethernet minimum of 46 (R194). -/
def agentFrame (dst src : Addr) (tag : Option (BitVec 12)) (payload : List Byte) : Frame :=
  u48 dst.toNat ++ u48 src.toNat
    ++ (match tag with
        | none => []
        | some v => tagBytes v.toNat)
    ++ u16 controlType.toNat ++ payload ++ List.replicate (46 - payload.length) 0

/-! ### Request bodies -/

/-- The thirteen words of a SET_ZONE body from an offset (Table 11-4). -/
def zoneValuesAt (l : List Byte) (i : Nat) : ZoneValues :=
  ⟨wordAt l i, wordAt l (i + 2), wordAt l (i + 4), wordAt l (i + 6), wordAt l (i + 8), wordAt l (i + 10),
   wordAt l (i + 12), wordAt l (i + 14), wordAt l (i + 16), wordAt l (i + 18), wordAt l (i + 20),
   wordAt l (i + 22), wordAt l (i + 24)⟩

/-- The `n` addresses of a SET_MANAGERS body from an offset. -/
def addrsAt (l : List Byte) : Nat → Nat → List Addr
  | _, 0 => []
  | i, n + 1 => addrAt l i :: addrsAt l (i + 6) n

/-- The `n` points of a LOAD_CURVE body from an offset. -/
def pointsAt (l : List Byte) : Nat → Nat → List (BitVec 16 × BitVec 16)
  | _, 0 => []
  | i, n + 1 => (wordAt l i, wordAt l (i + 2)) :: pointsAt l (i + 4) n

end Sys2Proof.Machine
end

