-- ==== Sys2Proof/Machine/Flags.lean ====
section
/-! DEFINITION. Flags and codes: the sticky link error flags, the sets of bay states that the rules gate
on, and the codes of Tables 11-3 to 11-9. -/

namespace Sys2Proof.Machine

/-! ### Bay state sets -/

/-- Standby enable is asserted in every state except EMPTY and SETTLING (R4). -/
def BayState.standby : BayState → Bool
  | .empty | .settling => false
  | _ => true

/-- Main enable is asserted in the main-powered states (R4). -/
def BayState.mainPowered : BayState → Bool
  | .powering | .online | .stopping | .shedding => true
  | _ => false

/-- ONLINE, STOPPING and SHEDDING: the port is open, STATUS is polled, the inlet and the running
allocation count (R5, R36, R112, R131). -/
def BayState.forwarding : BayState → Bool
  | .online | .stopping | .shedding => true
  | _ => false

/-- The states in which a bay holds an allocation (R67). -/
def BayState.allocated : BayState → Bool
  | .admitted | .powering | .online | .stopping | .shedding => true
  | _ => false

/-- The states in which a selected zone change is accepted (R20). -/
def BayState.zoneChangeable : BayState → Bool
  | .empty | .settling | .ident | .off | .fault => true
  | _ => false

/-! ### Bay LED (R23) -/

/-- The LED patterns of Table 1-8. -/
inductive LedPattern where
  | dark | slowBlink | fastBlink | steady | doubleFlash
  deriving DecidableEq, Repr

/-- The pattern a bay state selects. -/
def BayState.led : BayState → LedPattern
  | .empty | .off => .dark
  | .settling | .ident | .waiting | .admitted => .slowBlink
  | .powering | .stopping | .shedding => .fastBlink
  | .online => .steady
  | .fault => .doubleFlash

/-- Whether a pattern is lit some milliseconds after it began. -/
def LedPattern.lit (p : LedPattern) (elapsed : Nat) : Bool :=
  match p with
  | .dark => false
  | .slowBlink => elapsed % 1000 < 500
  | .fastBlink => elapsed % 250 < 125
  | .steady => true
  | .doubleFlash => elapsed % 2000 < 200 || (400 ≤ elapsed % 2000 && elapsed % 2000 < 600)

/-! ### Sticky link error flags (R29) -/

/-- The flags with the one that bears a failure's name set. A BAD_BLOCK sets none (R43). -/
def Sticky.set (f : Sticky) : FailKind → Sticky
  | .parity => { f with parity := true }
  | .framing => { f with framing := true }
  | .overrun => { f with overrun := true }
  | .noResponse => { f with noResponse := true }
  | .badCheck => { f with badCheck := true }
  | .badBlock => f

/-- The flags as one byte (R193, Flag sets). -/
def Sticky.code (f : Sticky) : Nat :=
  f.parity.toNat + 2 * f.framing.toNat + 4 * f.overrun.toNat + 8 * f.noResponse.toNat + 16 * f.badCheck.toNat

/-! ### Codes -/

/-- Table 11-9, bay state. -/
def BayState.code : BayState → Nat
  | .empty => 0 | .settling => 1 | .ident => 2 | .off => 3 | .waiting => 4 | .admitted => 5
  | .powering => 6 | .online => 7 | .stopping => 8 | .shedding => 9 | .fault => 10

/-- Table 11-9, record state. -/
def RecordState.code : RecordState → Nat
  | .complete => 0 | .partialRecord => 1 | .notStored => 2

/-- Table 11-9, fault cause. -/
def FaultCause.code : FaultCause → Nat
  | .identHeader => 1 | .identFormat => 2 | .cannotFit => 3 | .powerGoodTimeout => 4 | .powerLost => 5

/-- Table 11-9, failure kind. -/
def FailKind.code : FailKind → Nat
  | .noResponse => 1 | .parity => 2 | .framing => 3 | .overrun => 4 | .badCheck => 5 | .badBlock => 6

/-- Table 11-9, supply state. -/
def SupplyState.code : SupplyState → Nat
  | .absent => 0 | .ident => 1 | .active => 2 | .failed => 3 | .unread => 4

/-- Table 11-9, redundancy mode. -/
def RedundancyMode.code : RedundancyMode → Nat
  | .none => 0 | .nPlus1 => 1 | .grid => 2

/-- The redundancy mode of a code. -/
def RedundancyMode.ofCode (b : Byte) : Option RedundancyMode :=
  if b = 0 then some .none else if b = 1 then some .nPlus1 else if b = 2 then some .grid else Option.none

/-- Table 11-9, thermal state. -/
def ThermalState.code : ThermalState → Nat
  | .normal => 0 | .warm => 1 | .critical => 2

/-- Table 11-9, fan health state. -/
def FanHealth.code : FanHealth → Nat
  | .healthy => 0 | .stalled => 1 | .absent => 2 | .returning => 3

/-- Table 11-9, fan detail. -/
def FanDetail.code : FanDetail → Nat
  | .stall => 0 | .absent => 1

/-- Table 11-9, sensor status. -/
def SensorStatus.code : SensorStatus → Nat
  | .initial => 0 | .valid => 1 | .faulted => 2 | .disabled => 3

/-- Table 11-9, run state. -/
def RunState.code : RunState → Nat
  | .running => 0 | .stopping => 1 | .readyOff => 2

/-- The run state of a code: any other is a BAD_CHECK (R27). -/
def RunState.ofCode (b : Byte) : Option RunState :=
  if b = 0 then some .running else if b = 1 then some .stopping else if b = 2 then some .readyOff else none

/-- Table 11-9, ramp channel state. -/
def ChannelState.code : ChannelState → Nat
  | .idle => 0 | .ramping _ => 1 | .settling => 2

/-- Table 11-5. -/
def Selector.code : Selector → Nat
  | .destAddr => 0 | .srcAddr => 1 | .group => 2 | .length => 3 | .typeCode => 4 | .bay => 5 | .uplink => 6

/-- The selector of a code. -/
def Selector.ofCode (b : Byte) : Option Selector :=
  if b = 0 then some .destAddr else if b = 1 then some .srcAddr else if b = 2 then some .group
  else if b = 3 then some .length else if b = 4 then some .typeCode else if b = 5 then some .bay
  else if b = 6 then some .uplink else none

/-- The highest value a selector's field takes (Table 8-2). -/
def Selector.highest : Selector → Nat
  | .destAddr | .srcAddr => 281474976710655
  | .group => 15
  | .length | .typeCode => 65535
  | .bay => 13
  | .uplink => 3

/-- The code of a watch direction (Table 11-4). -/
def WatchDir.code : WatchDir → Nat
  | .up => 0 | .down => 1 | .both => 2

/-- The watch direction of a code. -/
def WatchDir.ofCode (b : Byte) : Option WatchDir :=
  if b = 0 then some .up else if b = 1 then some .down else if b = 2 then some .both else none

/-- The code of a composite mode (Table 11-4). -/
def CompositeMode.code : CompositeMode → Nat
  | .any => 0 | .all => 1

/-- The composite mode of a code. -/
def CompositeMode.ofCode (b : Byte) : Option CompositeMode :=
  if b = 0 then some .any else if b = 1 then some .all else none

/-- Table 11-8. -/
def EventKind.code : EventKind → Nat
  | .bayInserted => 1 | .bayRemoved => 2 | .bayIdentified => 3 | .bayIdentFailed => 4 | .bayOnline => 5
  | .bayOff => 6 | .bayFault => 7 | .bayCapped => 8 | .bayShed => 9 | .attnPress => 10 | .attnHold => 11
  | .linkLost => 12 | .linkRestored => 13 | .supplyChange => 14 | .budgetChange => 15
  | .inventoryFull => 16 | .fanFault => 17 | .fanRestored => 18 | .sensorFault => 19
  | .sensorRestored => 20 | .zoneNormal => 21 | .zoneWarm => 22 | .zoneCritical => 23 | .uplinkDown => 24
  | .uplinkUp => 25 | .failover => 26 | .failback => 27 | .stationConflict => 28 | .stationFull => 29
  | .watchHit => 30 | .managerLost => 31 | .managerRestored => 32

/-- The subject class of Table 11-7. -/
def Subject.classCode : Subject → Nat
  | .chassis => 0 | .bay _ => 1 | .supply _ => 2 | .zone _ => 3 | .fan _ => 4 | .sensor _ => 5
  | .uplink _ => 6 | .composite _ => 7

/-- The subject index, 0 for CHASSIS (R184). -/
def Subject.index : Subject → Nat
  | .chassis => 0 | .bay b => b.val | .supply i => i.val | .zone z => z.val | .fan f => f.val
  | .sensor c => c.val | .uplink u => u.val | .composite c => c.val

/-- The condition kind code of Table 11-6. -/
def CondKey.kindCode : CondKey → Nat
  | .bayFault _ => 1 | .zoneCritical _ => 2 | .fanFault _ => 3 | .supplyFailed _ => 4 | .sensorFault _ => 5

/-- The subject index of a condition. -/
def CondKey.index : CondKey → Nat
  | .bayFault b => b.val | .zoneCritical z => z.val | .fanFault f => f.val | .supplyFailed i => i.val
  | .sensorFault c => c.val

/-- What an ACK_CONDITION's kind and subject index name: `none` for an unknown kind (BAD_VALUE),
`some none` for an index beyond the kind's count (OUT_OF_RANGE), R190. -/
def CondKey.ofCodes (kind index : Byte) : Option (Option CondKey) :=
  if kind = 1 then some ((toIx 14 index.toNat).map .bayFault)
  else if kind = 2 then some ((toIx 3 index.toNat).map .zoneCritical)
  else if kind = 3 then some ((toIx 6 index.toNat).map .fanFault)
  else if kind = 4 then some ((toIx 6 index.toNat).map .supplyFailed)
  else if kind = 5 then some ((toIx 12 index.toNat).map .sensorFault)
  else none

/-- Table 11-3. -/
def Status.code : Status → Nat
  | .ok => 0 | .clamped => 1 | .truncated => 2 | .busy => 3 | .wrongState => 4 | .notPresent => 5
  | .outOfRange => 6 | .badValue => 7 | .badKind => 8 | .badLength => 9 | .full => 10

/-- The statuses that end processing under stop-on-error (R173). -/
def Status.stops : Status → Bool
  | .ok | .clamped | .truncated => false
  | _ => true

/-- BAY_OFF details. -/
def offReady : Nat := 0
/-- BAY_OFF details. -/
def offForced : Nat := 1

/-- BAY_SHED details (Table 11-9). -/
def shedAdmitted : Nat := 0
def shedStopping : Nat := 1
def shedPowering : Nat := 2
def shedOnline : Nat := 3
def shedCapFailure : Nat := 4

/-- One more on a 32-bit count that stops at its highest value (R153, R159). -/
def sat32 (n : Nat) : Nat := min (n + 1) 4294967295

end Sys2Proof.Machine
end

