-- ==== Sys2Proof/Machine/Ops.lean ====
section
/-! DEFINITION. The shared operations on the state: reading and updating one entry of a table, the clock,
raising events, the condition set with the fault indicator, changing a bay's state, and answering a
request. -/

namespace Sys2Proof.Machine

/-! ### Table entries -/

/-- The bay. -/
def State.bay (s : State) (b : BayIx) : Bay := s.bays.get b
/-- The supply. -/
def State.supply (s : State) (i : SupIx) : Supply := s.supplies.get i
/-- The sensor channel. -/
def State.sensor (s : State) (c : ChanIx) : Sensor := s.sensors.get c
/-- The zone. -/
def State.zone (s : State) (z : ZoneIx) : Zone := s.zones.get z
/-- The fan. -/
def State.fan (s : State) (f : FanIx) : Fan := s.fans.get f
/-- The uplink. -/
def State.uplink (s : State) (u : UplinkIx) : Uplink := s.uplinks.get u

/-- The state with one bay changed. -/
def State.modBay (s : State) (b : BayIx) (f : Bay → Bay) : State :=
  { s with bays := s.bays.set b (f (s.bay b)) }
/-- The state with one supply changed. -/
def State.modSupply (s : State) (i : SupIx) (f : Supply → Supply) : State :=
  { s with supplies := s.supplies.set i (f (s.supply i)) }
/-- The state with one sensor channel changed. -/
def State.modSensor (s : State) (c : ChanIx) (f : Sensor → Sensor) : State :=
  { s with sensors := s.sensors.set c (f (s.sensor c)) }
/-- The state with one zone changed. -/
def State.modZone (s : State) (z : ZoneIx) (f : Zone → Zone) : State :=
  { s with zones := s.zones.set z (f (s.zone z)) }
/-- The state with one fan changed. -/
def State.modFan (s : State) (n : FanIx) (f : Fan → Fan) : State :=
  { s with fans := s.fans.set n (f (s.fan n)) }
/-- The state with one uplink changed. -/
def State.modUplink (s : State) (u : UplinkIx) (f : Uplink → Uplink) : State :=
  { s with uplinks := s.uplinks.set u (f (s.uplink u)) }

/-- The state with one bay's link engine and work changed. -/
def State.modLink (s : State) (b : BayIx) (f : BayLink → BayLink) : State :=
  s.modBay b fun y => { y with link := f y.link }
/-- The state with one uplink's counters changed. -/
def State.countUplink (s : State) (u : UplinkIx) (f : UplinkCounters → UplinkCounters) : State :=
  s.modUplink u fun x => { x with counters := f x.counters }
/-- The state with one bay's counters changed. -/
def State.countBay (s : State) (b : BayIx) (f : BayCounters → BayCounters) : State :=
  s.modBay b fun y => { y with counters := f y.counters }

/-! ### The clock -/

/-- Whole seconds since power-on on the 32-bit clock that wraps to 0 (R184). -/
def State.seconds (s : State) : BitVec 32 := BitVec.ofNat 32 (s.now / 1000)

/-- The clock at an expiry: a timer that expires has reached its deadline (log 1). -/
def State.reach (s : State) (deadline : Nat) : State := { s with now := max s.now deadline }

/-- The milliseconds left until a deadline. -/
def State.left (s : State) (deadline : Nat) : Nat := deadline - s.now

/-- One millisecond passes with no command waiting (log 5). While PORST_N is low the clock, which counts
from power-on, stands. -/
def tick (s : State) : State := if s.porstLow then s else { s with now := s.now + 1 }

/-! ### Events (R183, R184) -/

/-- Raises an event: appended at the tail, or discarded and counted when the queue is at its limit. -/
def raise (kind : EventKind) (subject : Subject) (detail : Nat) (data : Int) (s : State) : State :=
  if s.events.queue.length < s.events.limit then
    { s with events := { s.events with
        queue := s.events.queue ++
          [⟨kind, subject, BitVec.ofNat 8 detail, s.seconds, BitVec.ofInt 32 data⟩] } }
  else { s with events := { s.events with lost := min (s.events.lost + 1) 65535 } }

/-! ### The condition set and the fault indicator (R187 to R192) -/

/-- The number of entries whose acknowledged flag is clear. -/
def State.unacked (s : State) : Nat := (s.conditions.filter fun c => !c.acked).length

/-- The condition set changed, with FAULT_IND judged again (R192). -/
def setConditions (cs : List Condition) (s : State) : State :=
  { s with conditions := cs, faultInd := cs.any fun c => !c.acked }

/-- A condition begins: its entry is added, or moved, to the tail, active and unacknowledged (R188). -/
def raiseCondition (k : CondKey) (s : State) : State :=
  setConditions (s.conditions.filter (fun c => c.key ≠ k) ++ [⟨k, true, false, s.seconds⟩]) s

/-- What an ending leaves of an entry (R189). -/
def endEntry (k : CondKey) (c : Condition) : Option Condition :=
  if c.key = k then if c.acked then none else some { c with active := false } else some c

/-- A condition ends: its entry is removed if acknowledged, and otherwise stays, inactive (R189). -/
def endCondition (k : CondKey) (s : State) : State := setConditions (s.conditions.filterMap (endEntry k)) s

/-- A condition's entry is removed outright (R189: CLEAR_FAULT, removal of the blade). -/
def removeCondition (k : CondKey) (s : State) : State :=
  setConditions (s.conditions.filter fun c => c.key ≠ k) s

/-! ### Bay state (R4, R5, R23) -/

/-- A bay with its state changed: the enables follow the state, and the LED pattern begins anew only when
the new state selects a different one (R4, R23). -/
def Bay.enter (st : BayState) (now : Nat) (y : Bay) : Bay :=
  { y with
    state := st
    standbyEnable := st.standby
    mainEnable := st.mainPowered
    ledSince := if y.state.led = st.led then y.ledSince else now }

/-- Changes a bay's state. -/
def setState (b : BayIx) (st : BayState) (s : State) : State := s.modBay b (Bay.enter st s.now)

/-! ### Station entries of a bay (R147) -/

/-- The entry is LEARNED. -/
def Station.isLearned (e : Station) : Bool :=
  match e.kind with
  | .learned _ => true
  | .fixed _ => false

/-- The station table without the entries a test selects. Each removal clears the full mark (R144). -/
def dropStations (sel : Station → Bool) (s : State) : State :=
  { s with stations := { s.stations with
      entries := s.stations.entries.map (Option.filter fun e => !sel e)
      fullMark := s.stations.fullMark && !(s.stations.entries.items.any (Option.any sel)) } }

/-- Removes every LEARNED entry that names the bay; its STATIC entries are kept (R147). -/
def purgeStations (b : BayIx) (s : State) : State := dropStations (fun e => e.isLearned && e.bay = b) s

/-! ### Frames on the lanes (R130, R153) -/

/-- Hands a frame to an uplink for transmission: sent and counted while the uplink is UP, discarded
without a count while it is DOWN (R130). -/
def transmit (u : UplinkIx) (f : Frame) (s : State) : State :=
  if (s.uplink u).up then
    let s := s.countUplink u fun c => { c with framesOut := sat32 c.framesOut }
    { s with sent := s.sent ++ [.uplink u f] }
  else s

/-! ### Attention frames (R178, R183) -/

/-- The attention frame to a manager, with its two figures (R178, R194). -/
def attentionFrame (m : Manager) (s : State) : Frame :=
  agentFrame m.addr (stationAddr s.agent.straps) m.tag
    ([1, 2, 0, 0, 0, 0, 0, 0] ++ u8 s.events.queue.length ++ u8 s.unacked)

/-- Ends a change that began in `before`: if the event queue has gone from empty to holding events and the
mode is MANAGED, one attention frame goes to the current manager, its figures taken now that the
change is complete (R178, R183). -/
def promptAttention (before s : State) : State :=
  if before.events.queue.isEmpty && !s.events.queue.isEmpty && s.agent.managed then
    match s.agent.manager with
    | some m => transmit m.uplink (attentionFrame m s) s
    | none => s
  else s

/-! ### Answers -/

/-- Answers the request being executed. BAD_KIND, BAD_LENGTH and OUT_OF_RANGE carry an empty body (R175). -/
def answer (st : Status) (body : List Byte) (s : State) : State := { s with answer := some ⟨st, body⟩ }

/-- Every command but POWER_ON_RESET: while PORST_N is low the part is held in reset and takes nothing
(R196; log 3). -/
def gated (s : State) (f : State → State) : Host.Outcome State Fault Refusal :=
  .next (if s.porstLow then s else f s)

end Sys2Proof.Machine
end

