-- ==== Sys2Proof/Machine/Inventory.lean ====
section
/-! DEFINITION. The inventory store (section 3.3): reservation, compaction, writing a block, freeing a
record, and the figures it reports. -/

namespace Sys2Proof.Machine

/-- The slot is free. -/
def Slot.isFree (x : Slot) : Bool := x.owner.isNone

/-- The number of free slots. -/
def freeSlots (s : State) : Nat := (s.store.slots.items.filter Slot.isFree).length

/-- The length of the longest run of free slots: `run` is the run in progress, `best` the longest so far. -/
def longestFree : List Slot → Nat → Nat → Nat
  | [], _, best => best
  | x :: xs, run, best =>
    if x.isFree then longestFree xs (run + 1) (max best (run + 1)) else longestFree xs 0 best

/-- The largest run of consecutive free slots (R54). -/
def largestFreeRun (s : State) : Nat := longestFree s.store.slots.items 0 0

/-- The lowest-numbered run of `n` consecutive free slots, first-fit from slot 0 (R52): `start` and `run`
are the free run in progress, which ends at slot `start + run`. -/
def firstFit (n : Nat) : List Slot → Nat → Nat → Option Nat
  | [], _, _ => none
  | x :: xs, start, run =>
    if x.isFree then if run + 1 = n then some start else firstFit n xs start (run + 1)
    else firstFit n xs (start + run + 1) 0

/-- The slot that holds block `i` of a record beginning at `start` of `n` blocks, or the slot as it was. -/
def reservedSlot (o : Owner) (start n i : Nat) (x : Slot) : Slot :=
  if start ≤ i && i < start + n then ⟨some o, i - start, start < i, .reading, List.replicate 16 0⟩ else x

/-- A run of slots reserved for an owner: its block indices, the mark clear on the first slot and set on
the rest, content READING (R52). -/
def reserveAt (o : Owner) (start n : Nat) (s : State) : State :=
  { s with store := { s.store with slots := s.store.slots.mapIdx (reservedSlot o start n) } }

/-- Compaction: every record moves toward slot 0 in its order, the free slots form one run at the top, and
the compaction count rises, saturating (R53). -/
def compact (s : State) : State :=
  { s with store := { slots := s.store.slots.gather fun x => !x.isFree
                      compactions := min (s.store.compactions + 1) 65535 } }

/-- A reservation of `n` slots for an owner, compacting if no run is long enough but enough slots are free,
and refused otherwise (R52). -/
def reserve (o : Owner) (n : Nat) (s : State) : Option State :=
  match firstFit n s.store.slots.items 0 0 with
  | some start => some (reserveAt o start n s)
  | none =>
    if n ≤ freeSlots s then
      let t := compact s
      some (reserveAt o (128 - freeSlots t) n t)
    else none

/-- A slot after block `i` of an owner's record has arrived valid with its data, or been marked invalid
with zero data (R43, R48, R49). -/
def writtenSlot (o : Owner) (i : Nat) (data : Option (List Byte)) (x : Slot) : Slot :=
  if x.owner = some o && x.block = i then
    match data with
    | some d => { x with content := .valid, data := d }
    | none => { x with content := .invalid, data := List.replicate 16 0 }
  else x

/-- Writes block `i` of an owner's record into the slot that now holds it (R53). -/
def writeBlock (o : Owner) (i : Nat) (data : Option (List Byte)) (s : State) : State :=
  { s with store := { s.store with slots := s.store.slots.map (writtenSlot o i data) } }

/-- The first slot of an owner's record: the slot of that owner whose mark is clear. -/
def recordStart (o : Owner) (s : State) : Option Nat :=
  s.store.slots.items.findIdx? fun x => x.owner = some o && !x.cont

/-- The number of slots of an owner's record from its first slot on: that slot and the slots that follow of
the same owner with the mark set. -/
def recordLength (o : Owner) (start : Nat) (s : State) : Nat :=
  1 + ((s.store.slots.items.drop (start + 1)).takeWhile fun x => x.owner = some o && x.cont).length

/-- A slot after the run of `n` slots from `start` has been set free (R54). -/
def freedSlot (start n i : Nat) (x : Slot) : Slot :=
  if start ≤ i && i < start + n then { x with owner := none } else x

/-- Frees an owner's record (R54). An owner without slots frees nothing. -/
def freeRecord (o : Owner) (s : State) : State :=
  match recordStart o s with
  | none => s
  | some start =>
    { s with store := { s.store with
        slots := s.store.slots.mapIdx (freedSlot start (recordLength o start s)) } }

end Sys2Proof.Machine
end

