-- ==== Sys2Proof/Machine/Ramp.lean ====
section
/-! DEFINITION. The ramp channel (section 5.1): the grant, the end of RAMPING, and leaving the queue. -/

namespace Sys2Proof.Machine

/-- The class code of a bay's inrush class, as the table holds it now (R90). A bay in the ramp queue holds
a power header (R69). -/
def classCode (b : BayIx) (s : State) : Nat :=
  match (s.bay b).header with
  | some h => s.ramp.classCodes.get h.inrushClass
  | none => 0

/-- The bay a grant would take now: the head of the queue, in ADMITTED, with the channel IDLE (R5, R91). -/
def grantable (s : State) : Option BayIx :=
  match s.ramp.state, s.ramp.queue with
  | .idle, b :: _ => if (s.bay b).state = .admitted then some b else none
  | _, _ => none

/-- The grant to a bay: it leaves the queue and enters POWERING with its main enable asserted, IREF at its
class code and the ramp timer running (R91). -/
def grantTo (b : BayIx) (s : State) : State :=
  let deadline := s.now + s.ramp.rampTimeout
  let s := { s with ramp := { s.ramp with
    state := .ramping b, queue := s.ramp.queue.tail, iref := classCode b s, rampTimer := some deadline } }
  (setState b .powering s).modBay b fun y =>
    { y with pgoodHigh := 0, pgoodLow := 0, deadline := some deadline }

/-- RAMPING ends: the ramp timer stops, IREF returns to 0 and the channel enters SETTLING, or passes
through it to IDLE when the settle time is 0 (R94, R95). -/
def endRamping (s : State) : State :=
  if s.ramp.settleTime = 0 then
    { s with ramp := { s.ramp with state := .idle, iref := 0, rampTimer := none, settleTimer := none } }
  else
    { s with ramp := { s.ramp with
        state := .settling, iref := 0, rampTimer := none
        settleTimer := some (s.now + s.ramp.settleTime) } }

/-- Takes a bay out of the ramp queue, leaving the others in their order (R89). -/
def leaveRampQueue (b : BayIx) (s : State) : State :=
  { s with ramp := { s.ramp with queue := s.ramp.queue.filter (· ≠ b) } }

end Sys2Proof.Machine
end

