-- ==== Sys2Proof/Machine/Power.lean ====
section
/-! DEFINITION. The power allocator (chapter 4): sums and headroom, the waiting list, the admission, uncap
and shed passes, cap decisions and failures, the budget and the zone limits; and the exits from the
main-powered states that release watts to it (R9). -/

namespace Sys2Proof.Machine

/-! ### Sums and headroom (R67) -/

/-- The sum of the allocations of the bays a test selects. -/
def allocSum (sel : Bay → Bool) (s : State) : Nat :=
  (allBays.map fun b => if sel (s.bay b) then (s.bay b).alloc else 0).sum

/-- A_total, or A_z of a zone. -/
def allocated (scope : Option ZoneIx) (s : State) : Nat :=
  allocSum (fun y => scope.all (· = y.settings.zone)) s

/-- The sum of allocations of bays not in SHEDDING, over all bays or the bays of a zone. -/
def nonShedding (scope : Option ZoneIx) (s : State) : Nat :=
  allocSum (fun y => scope.all (· = y.settings.zone) && y.state ≠ .shedding) s

/-- W_z: the running allocation of a zone (R112). -/
def runningAlloc (z : ZoneIx) (s : State) : Nat :=
  allocSum (fun y => y.settings.zone = z && y.state.forwarding) s

/-- The limit of a scope: B, or L_z. -/
def limitOf (scope : Option ZoneIx) (s : State) : Nat :=
  match scope with
  | none => s.alloc.budget
  | some z => (s.zone z).limit

/-- The headroom H of the chassis, or H_z of a zone. Both may be negative. -/
def headroom (scope : Option ZoneIx) (s : State) : Int := (limitOf scope s : Int) - allocated scope s

/-- The deficit D, or D_z: the non-SHEDDING sum less the limit (R75). -/
def deficit (scope : Option ZoneIx) (s : State) : Int := (nonShedding scope s : Int) - limitOf scope s

/-! ### Orders (R69) -/

/-- A bay's maximum, 0 without a header. -/
def Bay.maxWatts (y : Bay) : Nat := y.header.elim 0 (·.maxWatts)
/-- A bay's floor, 0 without a header. -/
def Bay.floorWatts (y : Bay) : Nat := y.header.elim 0 (·.floorWatts)
/-- A bay's cappable flag. -/
def Bay.cappable (y : Bay) : Bool := y.header.elim false (·.cappable)
/-- A waiting bay's need: its maximum if it is not cappable and its floor if it is (R72). -/
def Bay.need (y : Bay) : Nat := if y.cappable then y.floorWatts else y.maxWatts

/-- Inserts a bay before the first one it comes before. -/
def insertBefore (before : BayIx → BayIx → Bool) (b : BayIx) : List BayIx → List BayIx
  | [] => [b]
  | c :: rest => if before b c then b :: c :: rest else c :: insertBefore before b rest

/-- The bays in the order given, equal ones in index order. -/
def sortBays (before : BayIx → BayIx → Bool) (l : List BayIx) : List BayIx :=
  l.foldl (fun acc b => insertBefore before b acc) []

/-- Waiting order: priority from highest to lowest, then waiting stamp from oldest to newest (R69). -/
def waitsBefore (s : State) (b c : BayIx) : Bool :=
  (s.bay c).settings.priority < (s.bay b).settings.priority ||
  ((s.bay b).settings.priority = (s.bay c).settings.priority &&
    (s.bay b).waitingStamp.getD 0 < (s.bay c).waitingStamp.getD 0)

/-- Uncap order: priority from highest to lowest, then admission stamp from oldest to newest (R74). -/
def uncapsBefore (s : State) (b c : BayIx) : Bool :=
  (s.bay c).settings.priority < (s.bay b).settings.priority ||
  ((s.bay b).settings.priority = (s.bay c).settings.priority &&
    (s.bay b).admissionStamp.getD 0 < (s.bay c).admissionStamp.getD 0)

/-- Shed order: priority from lowest to highest, then admission stamp from newest to oldest (R76). -/
def shedsBefore (s : State) (b c : BayIx) : Bool :=
  (s.bay b).settings.priority < (s.bay c).settings.priority ||
  ((s.bay b).settings.priority = (s.bay c).settings.priority &&
    (s.bay c).admissionStamp.getD 0 < (s.bay b).admissionStamp.getD 0)

/-! ### The waiting list (R69, R70) -/

/-- Takes a bay out of the waiting list. -/
def leaveWaiting (b : BayIx) (s : State) : State :=
  { s with alloc := { s.alloc with waiting := s.alloc.waiting.filter (· ≠ b) } }

/-- Places a bay in the waiting list by its priority and waiting stamp. -/
def joinWaiting (b : BayIx) (s : State) : State :=
  { s with alloc := { s.alloc with waiting := insertBefore (waitsBefore s) b s.alloc.waiting } }

/-- Entry to WAITING: stop_requested is cleared, a new waiting stamp issued and the bay placed in the list
(R8, R70). The admission pass that follows is the caller's. -/
def enterWaiting (b : BayIx) (s : State) : State :=
  let stamp := s.alloc.nextStamp
  let s := setState b .waiting s
  let s := s.modBay b fun y => { y with stopRequested := false, waitingStamp := some stamp }
  let s := { s with alloc := { s.alloc with nextStamp := stamp + 1 } }
  joinWaiting b s

/-! ### Cap decisions (R82) -/

/-- A cap decision: the allocation and the last decided level take the level, the pending-cap slot holds it
without a retried mark (R31), and the cap timer starts. The link engine takes the slot once the pass
that decided is complete (`settle`, log 6). -/
def capDecision (b : BayIx) (level : Nat) (s : State) : State :=
  s.modBay b fun y =>
    { y with alloc := level, lastDecided := some level, capTimer := some (s.now + s.alloc.capTimeout * 1000)
             link := { y.link with slot := some ⟨level, false⟩ } }

/-! ### The uncap pass (R74) -/

/-- The bays an uncap pass considers, in order. -/
def uncapCandidates (s : State) : List BayIx :=
  sortBays (uncapsBefore s) (allBays.filter fun b =>
    (s.bay b).state = .online && (s.bay b).alloc < (s.bay b).maxWatts &&
    (s.zone (s.bay b).settings.zone).thermal = .normal)

/-- Raises one bay by the smallest of its maximum less its allocation, H and H_z, if that is above 0. -/
def uncapOne (s : State) (b : BayIx) : State :=
  let y := s.bay b
  let r := min ((y.maxWatts : Int) - y.alloc) (min (headroom none s) (headroom (some y.settings.zone) s))
  if 0 < r then capDecision b (y.alloc + r.toNat) s else s

/-- The uncap pass. -/
def uncapPass (s : State) : State := (uncapCandidates s).foldl uncapOne s

/-! ### The admission pass (R71 to R73) -/

/-- Admission: allocation and stamp, out of the waiting list, ADMITTED, tail of the ramp queue (R73). -/
def admitBay (b : BayIx) (level : Nat) (s : State) : State :=
  let stamp := s.alloc.nextStamp
  let s := s.modBay b fun y =>
    { y with alloc := level, lastDecided := none, applied := none, admissionStamp := some stamp }
  let s := { s with alloc := { s.alloc with nextStamp := stamp + 1 } }
  let s := setState b .admitted (leaveWaiting b s)
  { s with ramp := { s.ramp with queue := s.ramp.queue ++ [b] } }

/-- The walk's memory: the state, the chassis-blocked flag and the blocked zones. -/
structure Walk where
  state : State
  chassisBlocked : Bool
  blockedZones : List ZoneIx

/-- One bay of the walk: passed over, admitted in full, admitted capped, or not fitting (R72). A bay not in
WAITING would be passed over (R5); the list holds none (R69). -/
def walkOne (w : Walk) (b : BayIx) : Walk :=
  let s := w.state
  let y := s.bay b
  let z := y.settings.zone
  let h := headroom none s
  let hz := headroom (some z) s
  if w.chassisBlocked || w.blockedZones.contains z || y.state ≠ .waiting then w
  else if (y.maxWatts : Int) ≤ h && (y.maxWatts : Int) ≤ hz then { w with state := admitBay b y.maxWatts s }
  else if y.cappable && (y.floorWatts : Int) ≤ h && (y.floorWatts : Int) ≤ hz then
    { w with state := admitBay b (min (y.maxWatts : Int) (min h hz)).toNat s }
  else if h < y.need then { w with chassisBlocked := true }
  else { w with blockedZones := z :: w.blockedZones }

/-- The admission pass, and the uncap pass when it leaves the waiting list empty (R72, R74). -/
def admissionPass (s : State) : State :=
  let s := (s.alloc.waiting.foldl walkOne ⟨s, false, []⟩).state
  if s.alloc.waiting.isEmpty then uncapPass s else s

/-! ### Leaving the main-powered states (R9) -/

/-- A bay link after its bay has left the main-powered states: the pending cap, a pending STOP and polling
end, and a transaction in flight is marked as from before (R9, R36, R39). -/
def BayLink.powerOff (l : BayLink) : BayLink :=
  { l with slot := none, pendingStop := false, pollDue := false, failedPolls := 0, pollTimer := none
           engine := { l.engine with stale := l.engine.inFlight.isSome } }

/-- What every transition out of the main-powered states does before the bay takes its new state: RAMPING
ends, the station entries are purged, the allocation, deadline and cap timer go, and the link's
pending work with them (R9). The admission pass that follows is the caller's. -/
def powerOff (b : BayIx) (s : State) : State :=
  let old := (s.bay b).state
  let s := if old = .powering then endRamping s else s
  let s := if old.forwarding then purgeStations b s else s
  s.modBay b fun y =>
    { y with alloc := 0, deadline := none, capTimer := none, lastDecided := none, activeUplink := none
             link := y.link.powerOff }

/-- Main power off into OFF with BAY_OFF, then an admission pass (R9). -/
def powerOffToOff (b : BayIx) (detail : Nat) (s : State) : State :=
  let released := (s.bay b).alloc
  admissionPass (raise .bayOff (.bay b) detail released (setState b .off (powerOff b s)))

/-- Entry to FAULT: the cause is stored, the event and the condition raised, and what a main-powered bay
held is released with an admission pass (R7, R9). A read that led here has ended. -/
def enterFault (b : BayIx) (cause : FaultCause) (s : State) : State :=
  let old := (s.bay b).state
  let s := if old.mainPowered then powerOff b s else s
  let s := setState b .fault s
  let s := s.modBay b fun y => { y with faultCause := some cause }
  let s := raise .bayFault (.bay b) cause.code old.code s
  let s := raiseCondition (.bayFault b) s
  if old.mainPowered then admissionPass s else s

/-! ### The shed pass (R75 to R81) -/

/-- The bays of a scope in a state, in shed order. -/
def shedCandidates (scope : Option ZoneIx) (st : BayState) (s : State) : List BayIx :=
  sortBays (shedsBefore s) (allBays.filter fun b =>
    scope.all (· = (s.bay b).settings.zone) && (s.bay b).state = st)

/-- Treats the candidates of a state in turn while the deficit is above 0 and the candidate is still in that
state (R5, R75). -/
def coverWith (scope : Option ZoneIx) (st : BayState) (treat : BayIx → State → State) (s : State) : State :=
  (shedCandidates scope st s).foldl
    (fun s b => if 0 < deficit scope s && (s.bay b).state = st then treat b s else s) s

/-- Step 1: an ADMITTED bay returns to WAITING (R76). -/
def shedAdmittedBay (b : BayIx) (s : State) : State :=
  let released := (s.bay b).alloc
  let s := leaveRampQueue b s
  let s := s.modBay b fun y => { y with alloc := 0 }
  raise .bayShed (.bay b) shedAdmitted released (enterWaiting b s)

/-- The BAY_CAPPED detail of the deficit being covered (Table 11-9). -/
def deficitCode (scope : Option ZoneIx) : Nat := scope.elim 3 (·.val)

/-- Step 2: a cappable ONLINE bay above its floor is lowered (R77). -/
def shedCapBay (scope : Option ZoneIx) (b : BayIx) (s : State) : State :=
  let y := s.bay b
  if y.cappable && y.floorWatts < y.alloc then
    let level := y.alloc - min (y.alloc - y.floorWatts) (deficit scope s).toNat
    raise .bayCapped (.bay b) (deficitCode scope) level (capDecision b level s)
  else s

/-- Step 3: a STOPPING bay moves to SHEDDING with the earlier of its stop deadline and the shed grace, and
stop_requested is set (R78, R99). -/
def shedStoppingBay (b : BayIx) (s : State) : State :=
  let grace := s.now + s.ramp.shedGrace * 1000
  let held := (s.bay b).alloc
  let s := setState b .shedding s
  let s := s.modBay b fun y =>
    { y with deadline := some (min (y.deadline.getD grace) grace), stopRequested := true }
  raise .bayShed (.bay b) shedStopping held s

/-- Step 4: the POWERING bay has its main power turned off and returns to WAITING (R79). -/
def shedPoweringBay (b : BayIx) (s : State) : State :=
  let released := (s.bay b).alloc
  raise .bayShed (.bay b) shedPowering released (enterWaiting b (powerOff b s))

/-- Step 5, and a cap failure: an ONLINE bay moves to SHEDDING with its allocation. Its cap timer stops, its
pending cap is cancelled, a STOP is set pending and the shed timer starts (R80, R83, R99). -/
def shedOnlineBay (detail : Nat) (b : BayIx) (s : State) : State :=
  let held := (s.bay b).alloc
  let grace := s.now + s.ramp.shedGrace * 1000
  let s := setState b .shedding s
  let s := s.modBay b fun y =>
    { y with capTimer := none, lastDecided := none, deadline := some grace
             link := { y.link with slot := none, pendingStop := true } }
  raise .bayShed (.bay b) detail held s

/-- Covers the deficit of one scope by the five steps in order (R75). -/
def coverDeficit (scope : Option ZoneIx) (s : State) : State :=
  let s := coverWith scope .admitted shedAdmittedBay s
  let s := coverWith scope .online (shedCapBay scope) s
  let s := coverWith scope .stopping shedStoppingBay s
  let s := coverWith scope .powering shedPoweringBay s
  coverWith scope .online (shedOnlineBay shedOnline) s

/-- The shed pass: the zones' deficits, then the chassis's, and one admission pass if an allocation was
lowered or released (R75, R81). -/
def shedPass (s : State) : State :=
  let t := coverDeficit none (allZones.foldl (fun s z => coverDeficit (some z) s) s)
  if allocated none t < allocated none s then admissionPass t else t

/-! ### Cap failure (R83) -/

/-- Sheds an ONLINE bay for a cap failure, with a shed pass. In any other state nothing happens. -/
def shedForCap (b : BayIx) (s : State) : State :=
  if (s.bay b).state = .online then shedPass (shedOnlineBay shedCapFailure b s) else s

/-- A cap failure that the link engine reports for a level: acted on only for the last decided one. -/
def capFailure (b : BayIx) (level : Nat) (s : State) : State :=
  if (s.bay b).lastDecided = some level then shedForCap b s else s

/-! ### Budget and zone limits (R63, R64, R66) -/

/-- The counted capacity of a supply (Table 4-4). -/
def countedCapacity (p : Supply) : Nat :=
  match p.state with
  | .active =>
    if p.override ≠ 0 then p.override
    else if p.lineLow then p.lowLine.getD 0 else p.highLine.getD 0
  | .unread => if p.override ≠ 0 && p.dcOk then p.override else 0
  | .absent | .ident | .failed => 0

/-- The raw capacity under a redundancy mode (Table 4-5). -/
def rawCapacity (mode : RedundancyMode) (c : SupIx → Nat) : Nat :=
  let total := (allSupplies.map c).sum
  match mode with
  | .none => total
  | .nPlus1 => total - (allSupplies.map c).foldl max 0
  | .grid => min (c 0 + c 1 + c 2) (c 3 + c 4 + c 5)

/-- After a limit has moved from `old`: an admission pass when it has risen, a shed pass when it has fallen
below its non-SHEDDING sum (R64, R66). -/
def afterLimit (scope : Option ZoneIx) (old : Nat) (s : State) : State :=
  if old < limitOf scope s then admissionPass s
  else if limitOf scope s < nonShedding scope s then shedPass s
  else s

/-- Recomputes raw capacity and B. A different B raises BUDGET_CHANGE and makes its pass (R64). -/
def recomputeBudget (s : State) : State :=
  let old := s.alloc.budget
  let raw := rawCapacity s.alloc.mode fun i => (s.supply i).counted
  let b := raw - s.alloc.overhead
  let s := { s with alloc := { s.alloc with raw := raw, budget := b } }
  if b = old then s
  else afterLimit none old (raise .budgetChange .chassis s.alloc.mode.code b s)

/-- Recomputes a supply's counted capacity (R63). -/
def recount (i : SupIx) (s : State) : State :=
  s.modSupply i fun p => { p with counted := countedCapacity p }

/-- The healthy fan count h of a zone (R123). -/
def healthyCount (z : ZoneIx) (s : State) : Nat :=
  (allFans.filter fun f => f.val / 2 = z.val && (s.fan f).health = .healthy).length

/-- cooling[z][h]. -/
def ZoneSettings.cooling (c : ZoneSettings) (h : Nat) : Nat :=
  if h = 0 then c.cooling0 else if h = 1 then c.cooling1 else c.cooling2

/-- L_z: cooling[z][h], and while CRITICAL the smaller of that and crit[z] (R66). -/
def zoneLimit (z : ZoneIx) (s : State) : Nat :=
  let c := (s.zone z).settings.cooling (healthyCount z s)
  if (s.zone z).thermal = .critical then min c (s.zone z).settings.critLimit else c

/-- Recomputes L_z with the pass a change calls for (R66). -/
def recomputeLimit (z : ZoneIx) (s : State) : State :=
  let old := (s.zone z).limit
  let new := zoneLimit z s
  if new = old then s else afterLimit (some z) old (s.modZone z fun x => { x with limit := new })

end Sys2Proof.Machine
end

