-- ==== Sys2Proof/Machine/Supplies.lean ====
section
/-! DEFINITION. Supply states (section 4.1): a change of state with its event, condition and budget
consequences, and the outcome of a STATUS poll. -/

namespace Sys2Proof.Machine

/-- A supply changes its state: the counted capacity is recomputed (R63), SUPPLY_CHANGE raised, the
SUPPLY_FAILED condition begun or ended (R62), and the budget recomputed (R64). -/
def changeSupply (i : SupIx) (st : SupplyState) (s : State) : State :=
  let old := (s.supply i).state
  let s := recount i (s.modSupply i fun p => { p with state := st })
  let s := raise .supplyChange (.supply i) st.code (s.supply i).counted s
  let s := if st = .failed then raiseCondition (.supplyFailed i) s
    else if old = .failed then endCondition (.supplyFailed i) s
    else s
  recomputeBudget s

/-- The outcome of a STATUS poll that succeeded (R61). In ACTIVE and FAILED line-low is stored; output-ok
decides the state with the DC-OK level. In the other states the outcome is discarded. -/
def supplyPolled (i : SupIx) (outputOk lineLow : Bool) (s : State) : State :=
  match (s.supply i).state with
  | .active =>
    let s := s.modSupply i fun p => { p with lineLow := lineLow }
    if outputOk then recomputeBudget (recount i s) else changeSupply i .failed s
  | .failed =>
    let s := s.modSupply i fun p => { p with lineLow := lineLow }
    if outputOk && (s.supply i).dcOk then changeSupply i .active s else recomputeBudget (recount i s)
  | .absent | .ident | .unread => s

end Sys2Proof.Machine
end

