-- ==== Sys2Proof/Machine/Identity.lean ====
section
/-! DEFINITION. The identity read (section 3.2): its start, the judgement of a block, the header checks, the
two passes and the read's end; and entry to IDENT, which starts one (R6). -/

namespace Sys2Proof.Machine

/-! ### Where a read stands -/

/-- The identity read in flight of an owner. -/
def readOf (o : Owner) (s : State) : Option IdRead :=
  match o with
  | .bay b => (s.bay b).read
  | .supply i => (s.supply i).read

/-- Sets the identity read of an owner. -/
def setRead (o : Owner) (r : Option IdRead) (s : State) : State :=
  match o with
  | .bay b => s.modBay b fun y => { y with read := r }
  | .supply i => s.modSupply i fun p => { p with read := r }

/-- Sets the state of an owner's inventory record. -/
def setRecord (o : Owner) (r : Option RecordState) (s : State) : State :=
  match o with
  | .bay b => s.modBay b fun y => { y with record := r }
  | .supply i => s.modSupply i fun p => { p with record := r }

/-- The event subject of an owner. -/
def Owner.subject : Owner → Subject
  | .bay b => .bay b
  | .supply i => .supply i

/-- Places a block index as the owner's identity request (R35, R41). -/
def placeRequest (o : Owner) (index : Option Nat) (s : State) : State :=
  match o with
  | .bay b => s.modLink b fun l => { l with identRequest := index }
  | .supply i =>
    { s with supplyLink := { s.supplyLink with
        identRequests := s.supplyLink.identRequests.set i index } }

/-- Frees an owner's record, in the store and as reported (R54). -/
def releaseRecord (o : Owner) (s : State) : State := setRecord o none (freeRecord o s)

/-! ### Beginning (R45, R6) -/

/-- The state in which a read begins (R45). R45 gives next block no value in HEADER: it is 1 there (log 9). -/
def IdRead.start : IdRead := ⟨.header, 0, none, 1, [], 0, false⟩

/-- An identity read begins and asks for block 0 (R45). -/
def startRead (o : Owner) (s : State) : State := placeRequest o (some 0) (setRead o (some IdRead.start) s)

/-- Entry to IDENT: the power header and the fields of R6 are cleared, standby is asserted and an identity
read starts. -/
def enterIdent (b : BayIx) (s : State) : State :=
  let s := setState b .ident s
  let s := s.modBay b fun y =>
    { y with header := none, faultCause := none, stopRequested := false, inlet := none
             runState := none, linkLost := false }
  startRead (.bay b) s

/-! ### Judging blocks and headers (R43, R44) -/

/-- The 8-bit sum of bytes. -/
def sum8 (l : List Byte) : Byte := l.foldl (· + ·) 0

/-- The exclusive-or of bytes. -/
def xor8 (l : List Byte) : Byte := l.foldl (· ^^^ ·) 0

/-- What a READ_BLOCK outcome means: the good block's data, or the kind of the failed read (R43). -/
def judgeBlock : Except FailKind (List Byte × Byte) → Except FailKind (List Byte)
  | .error k => .error k
  | .ok (data, check) => if sum8 data + check = 0 then .ok data else .error .badBlock

/-- Power A of a header (Table 11-10). -/
def headerPowerA (d : List Byte) : Nat := (wordAt d 3).toNat
/-- Power B of a header. -/
def headerPowerB (d : List Byte) : Nat := (wordAt d 5).toNat
/-- The cappable flag of a header. -/
def headerCappable (d : List Byte) : Bool := (byteAt d 7).getLsbD 0
/-- The inrush class of a header. -/
def headerClass (d : List Byte) : ClassIx := ⟨((byteAt d 7).toNat / 2) % 4, Nat.mod_lt _ (by decide)⟩
/-- The block count of a header. -/
def headerCount (d : List Byte) : Nat := (byteAt d 2).toNat

/-- Check 5 of Table 3-2. -/
def powerFieldsOk (blade : Bool) (a b : Nat) : Bool :=
  if blade then (50 ≤ a && a ≤ 2000) && (50 ≤ b && b ≤ a)
  else (100 ≤ a && a ≤ 4000) && (100 ≤ b && b ≤ 4000)

/-- The number of the first check of Table 3-2 that a header fails. -/
def headerCheck (blade : Bool) (d : List Byte) : Option Nat :=
  if byteAt d 0 ≠ 1 then some 1
  else if byteAt d 1 ≠ (if blade then 1 else 2) then some 2
  else if headerCount d = 0 || 12 < headerCount d then some 3
  else if xor8 d ≠ 0 then some 4
  else if !powerFieldsOk blade (headerPowerA d) (headerPowerB d) then some 5
  else if blade && !headerCappable d && headerPowerB d ≠ headerPowerA d then some 6
  else none

/-! ### Ends of a read (R44 to R46, R50) -/

/-- A read that ends before its header is accepted: a blade's bay enters FAULT with the cause, a supply
becomes UNREAD (R44 to R46, R60). `data` is BAY_IDENT_FAILED's. -/
def readFailed (o : Owner) (cause : FaultCause) (data : Int) (s : State) : State :=
  let s := setRead o none s
  match o with
  | .bay b =>
    let s := raise .bayIdentFailed (.bay b) cause.code data s
    if (s.bay b).state = .ident then enterFault b cause s else s
  | .supply i => changeSupply i .unread s

/-- A read that accepted its header ends with a record state: a blade's bay enters WAITING or OFF by
auto_power (R6, R50), a supply ACTIVE or FAILED by its DC-OK level (R60). -/
def readEnded (o : Owner) (st : RecordState) (invalid : Nat) (s : State) : State :=
  let s := setRecord o (some st) (setRead o none s)
  match o with
  | .bay b =>
    let s := raise .bayIdentified (.bay b) st.code invalid s
    if (s.bay b).state = .ident then
      if (s.bay b).settings.autoPower then admissionPass (enterWaiting b s) else setState b .off s
    else s
  | .supply i => changeSupply i (if (s.supply i).dcOk then .active else .failed) s

/-- The record state of a stored read (R50). -/
def storedState (invalid : Nat) : RecordState := if invalid = 0 then .complete else .partialRecord

/-! ### Header acceptance (R46, R47) -/

/-- The power fields of an accepted header, copied into the owner's record at once (R47). -/
def copyPowerFields (o : Owner) (d : List Byte) (s : State) : State :=
  match o with
  | .bay b => s.modBay b fun y =>
    { y with header := some ⟨headerPowerA d, headerPowerB d, headerCappable d, headerClass d⟩ }
  | .supply i => s.modSupply i fun p =>
    { p with highLine := some (headerPowerA d), lowLine := some (headerPowerB d) }

/-- Acceptance: the power fields are copied, the block count set, and a record reserved; a refused
reservation raises INVENTORY_FULL and ends the read NOT_STORED (R47). -/
def acceptHeader (o : Owner) (r : IdRead) (d : List Byte) (s : State) : State :=
  let n := headerCount d
  let s := copyPowerFields o d s
  match reserve o n s with
  | none => readEnded o .notStored r.invalidCount (raise .inventoryFull o.subject 0 n s)
  | some s =>
    let s := writeBlock o 0 (some d) s
    if n = 1 then readEnded o .complete 0 s
    else
      placeRequest o (some 1)
        (setRead o (some { r with phase := .pass1, blockCount := some n, nextBlock := 1, stored := true }) s)

/-- A good header: the checks of R44, for a blade the full-health cooling limit of its zone (R46), then
acceptance. -/
def judgeHeader (o : Owner) (r : IdRead) (d : List Byte) (s : State) : State :=
  match o with
  | .bay b =>
    match headerCheck true d with
    | some n => readFailed o .identFormat n s
    | none =>
      if (s.zone (s.bay b).settings.zone).settings.cooling2 < headerPowerB d then
        readFailed o .cannotFit (headerPowerB d) s
      else acceptHeader o r d s
  | .supply _ =>
    match headerCheck false d with
    | some n => readFailed o .identFormat n s
    | none => acceptHeader o r d s

/-! ### Block outcomes (R45, R48, R49) -/

/-- The outcome of a header attempt (R45). -/
def headerOutcome (o : Owner) (r : IdRead) (res : Except FailKind (List Byte)) (s : State) : State :=
  let r := { r with attempts := r.attempts + 1 }
  match res with
  | .ok d => judgeHeader o r d s
  | .error k =>
    if r.attempts < 2 then placeRequest o (some 0) (setRead o (some r) s)
    else readFailed o .identHeader k.code s

/-- The outcome of the block a pass 1 asked for (R48). -/
def pass1Outcome (o : Owner) (r : IdRead) (res : Except FailKind (List Byte)) (s : State) : State :=
  let i := r.nextBlock
  let (r, s) := match res with
    | .ok d => (r, writeBlock o i (some d) s)
    | .error _ =>
      if r.retry.length < 8 then ({ r with retry := r.retry ++ [i] }, s)
      else ({ r with invalidCount := r.invalidCount + 1 }, writeBlock o i none s)
  let r := { r with nextBlock := i + 1 }
  if i + 1 < r.blockCount.getD 0 then placeRequest o (some (i + 1)) (setRead o (some r) s)
  else match r.retry with
    | [] => readEnded o (storedState r.invalidCount) r.invalidCount s
    | j :: _ => placeRequest o (some j) (setRead o (some { r with phase := .pass2 }) s)

/-- The outcome of the block a pass 2 asked for: the head of the retry list (R49). -/
def pass2Outcome (o : Owner) (r : IdRead) (res : Except FailKind (List Byte)) (s : State) : State :=
  match r.retry with
  | [] => s
  | i :: rest =>
    let (r, s) := match res with
      | .ok d => (r, writeBlock o i (some d) s)
      | .error _ => ({ r with invalidCount := r.invalidCount + 1 }, writeBlock o i none s)
    match rest with
    | [] => readEnded o (storedState r.invalidCount) r.invalidCount s
    | j :: _ => placeRequest o (some j) (setRead o (some { r with retry := rest }) s)

/-- The outcome of a READ_BLOCK handed to its owner's identity read (R43). Without a read in flight it is
discarded (R51). -/
def blockOutcome (o : Owner) (res : Except FailKind (List Byte × Byte)) (s : State) : State :=
  match readOf o s with
  | none => s
  | some r =>
    match r.phase with
    | .header => headerOutcome o r (judgeBlock res) s
    | .pass1 => pass1Outcome o r (judgeBlock res) s
    | .pass2 => pass2Outcome o r (judgeBlock res) s

end Sys2Proof.Machine
end

