-- ==== Sys2Proof/Machine/Uplinks.lean ====
section
/-! DEFINITION. Uplink state and the active uplink of each bay (sections 7.1 and 7.2). -/

namespace Sys2Proof.Machine

/-- A fresh selection: the primary if UP, else the alternate if there is one and it is UP, else none. A bay
outside ONLINE, STOPPING and SHEDDING has none (R131). -/
def freshUplink (b : BayIx) (s : State) : Option UplinkIx :=
  let y := s.bay b
  if !y.state.forwarding then none
  else if (s.uplink y.settings.primary).up then some y.settings.primary
  else y.settings.alternate.filter fun u => (s.uplink u).up

/-- Makes a fresh selection for a bay. -/
def selectUplink (b : BayIx) (s : State) : State :=
  s.modBay b fun y => { y with activeUplink := freshUplink b s }

/-- Gives a bay an active uplink. -/
def takeUplink (u : UplinkIx) (s : State) (b : BayIx) : State :=
  s.modBay b fun y => { y with activeUplink := some u }

/-- The failback of an uplink: every forwarding bay whose primary it is and that is on another takes it, and
FAILBACK is raised if a bay moved (R133). -/
def failback (u : UplinkIx) (s : State) : State :=
  let moved := allBays.filter fun b =>
    (s.bay b).state.forwarding && (s.bay b).settings.primary = u && (s.bay b).activeUplink ≠ some u
  if moved.isEmpty then s
  else raise .failback (.uplink u) 0 moved.length (moved.foldl (takeUplink u) s)

/-- The fall of an uplink: DOWN, its hold timer stopped, and a fresh selection for every bay on it; FAILOVER
is raised if there was one (R130, R132). -/
def uplinkFall (u : UplinkIx) (s : State) : State :=
  let s := s.modUplink u fun x => { x with up := false, holdTimer := none }
  let s := raise .uplinkDown (.uplink u) 0 0 s
  let onIt := allBays.filter fun b => (s.bay b).state.forwarding && (s.bay b).activeUplink = some u
  if onIt.isEmpty then s
  else
    let s := onIt.foldl (fun s b => selectUplink b s) s
    let left := (onIt.filter fun b => (s.bay b).activeUplink.isNone).length
    raise .failover (.uplink u) left ((onIt.length - left : Nat) : Int) s

/-- The rise of an uplink: UP, given to every forwarding bay that has none and names it, and the failback
hold started, or the failback made at once with a hold of 0 (R130, R132). -/
def uplinkRise (u : UplinkIx) (s : State) : State :=
  let s := s.modUplink u fun x => { x with up := true }
  let takers := allBays.filter fun b =>
    (s.bay b).state.forwarding && (s.bay b).activeUplink.isNone &&
    ((s.bay b).settings.primary = u || (s.bay b).settings.alternate = some u)
  let s := takers.foldl (takeUplink u) s
  let s := raise .uplinkUp (.uplink u) 0 takers.length s
  if (s.uplink u).hold = 0 then failback u s
  else s.modUplink u fun x => { x with holdTimer := some (s.now + x.hold * 1000) }

end Sys2Proof.Machine
end

