-- ==== Sys2Proof/Machine/Sequencing.lean ====
section
/-! DEFINITION. Power sequencing (chapter 5) and the bay transitions that requests and the button share:
power-good, stop, shed endings, FORCE_OFF, removal. -/

namespace Sys2Proof.Machine

/-- The arrival of power-good: RAMPING ends, the bay enters ONLINE, BAY_ONLINE is raised, the port opens with
a fresh active uplink, polling starts, and a bay admitted capped gets its first cap decision (R92, R36,
R84). -/
def goOnline (b : BayIx) (s : State) : State :=
  let s := setState b .online (endRamping s)
  let s := s.modBay b fun y =>
    { y with deadline := none
             link := { y.link with pollDue := true, failedPolls := 0, pollTimer := some (s.now + 1000) } }
  let y := s.bay b
  let s := raise .bayOnline (.bay b) (decide (y.alloc < y.maxWatts)).toNat y.alloc s
  let s := selectUplink b s
  if y.alloc < y.maxWatts then capDecision b y.alloc s else s

/-- Entry to STOPPING from ONLINE: STOP is set pending, the stop timer started and the cap timer stopped;
the allocation is kept (R97, R84, R68). -/
def enterStopping (b : BayIx) (s : State) : State :=
  let s := setState b .stopping s
  s.modBay b fun y =>
    { y with deadline := some (s.now + s.ramp.stopTimeout * 1000), capTimer := none, lastDecided := none
             link := { y.link with pendingStop := true } }

/-- The end of a stop: OFF with BAY_OFF (R98). -/
def endStop (b : BayIx) (detail : Nat) (s : State) : State :=
  if (s.bay b).state = .stopping then powerOffToOff b detail s else s

/-- The end of a shed: WAITING with auto_power on and stop_requested clear, and otherwise OFF with BAY_OFF
(R102). One admission pass serves both the entry to WAITING and the release. -/
def endShed (b : BayIx) (detail : Nat) (s : State) : State :=
  if (s.bay b).state = .shedding then
    if (s.bay b).settings.autoPower && !(s.bay b).stopRequested then
      admissionPass (enterWaiting b (powerOff b s))
    else powerOffToOff b detail s
  else s

/-- Out of WAITING to OFF: no allocation is released, so no pass follows (R17, R18, R71). -/
def waitingToOff (b : BayIx) (s : State) : State := setState b .off (leaveWaiting b s)

/-- Out of ADMITTED to OFF: the ramp queue is left and the allocation released, with an admission pass
(R17, R18). -/
def admittedToOff (b : BayIx) (s : State) : State :=
  admissionPass (setState b .off ((leaveRampQueue b s).modBay b fun y => { y with alloc := 0 }))

/-- STOP, in the states where it acts (R17). -/
def stopBay (b : BayIx) (s : State) : State :=
  match (s.bay b).state with
  | .waiting => waitingToOff b s
  | .admitted => admittedToOff b s
  | .powering => powerOffToOff b offForced s
  | .online => enterStopping b s
  | .shedding => s.modBay b fun y => { y with stopRequested := true }
  | .empty | .settling | .ident | .off | .stopping | .fault => s

/-- FORCE_OFF, in the states where it acts (R18). -/
def forceOff (b : BayIx) (s : State) : State :=
  match (s.bay b).state with
  | .waiting => waitingToOff b s
  | .admitted => admittedToOff b s
  | .powering | .online | .stopping | .shedding => powerOffToOff b offForced s
  | .empty | .settling | .ident | .off | .fault => s

/-- ON: an OFF bay enters WAITING, with the admission pass (R16, R8). -/
def turnOn (b : BayIx) (s : State) : State :=
  if (s.bay b).state = .off then admissionPass (enterWaiting b s) else s

/-- The blade fields at their cleared values, and what other blocks keep for the blade (Table 1-2, R24,
R68). The slot settings, the presence line as sampled and the counters belong to the position. -/
def Bay.clearBlade (y : Bay) : Bay :=
  { y with presentRun := 0, absentRun := 0, attention := .clear, header := none, alloc := 0
           admissionStamp := none, waitingStamp := none, stopRequested := false, activeUplink := none
           linkLost := false, sticky := .clear, inlet := none, runState := none, faultCause := none
           deadline := none, lastDecided := none, applied := none, capTimer := none, link := .reset
           read := none }

/-- Entry to EMPTY (R2). -/
def enterEmpty (b : BayIx) (s : State) : State := (setState b .empty s).modBay b Bay.clearBlade

/-- Removal: everything the blade held is released, BAY_REMOVED raised with the state the bay was in, and an
admission pass made if an allocation was released (R12, R51). -/
def removeBlade (b : BayIx) (s : State) : State :=
  let old := (s.bay b).state
  let held := (s.bay b).alloc
  let s := if old.mainPowered then powerOff b s else s
  let s := leaveRampQueue b (leaveWaiting b s)
  let s := enterEmpty b (releaseRecord (.bay b) s)
  let s := raise .bayRemoved (.bay b) 0 old.code (removeCondition (.bayFault b) s)
  if 0 < held then admissionPass s else s

end Sys2Proof.Machine
end

