-- ==== Sys2Proof/Machine/Link.lean ====
section
/-! DEFINITION. The link engines (chapter 2): frames and characters, the outcome of each transaction, the
order in which an engine takes its work, and the settling of work at the end of a change. -/

namespace Sys2Proof.Machine

/-! ### Frames and characters (sections 2.2.2, 11.5) -/

/-- The transaction code (Table 11-12). -/
def Txn.code : Txn → Byte
  | .readBlock _ | .supplyReadBlock _ _ => 1
  | .status | .supplyStatus _ => 2
  | .cap _ _ => 3
  | .stop => 4

/-- The request payload (Table 11-12). -/
def Txn.request : Txn → List Byte
  | .readBlock i => 1 :: u8 i
  | .status => [2]
  | .cap level _ => 3 :: u16 level
  | .stop => [4]
  | .supplyReadBlock a i => u8 a.val ++ 1 :: u8 i
  | .supplyStatus a => u8 a.val ++ [2]

/-- The fixed response payload length (Table 11-12). -/
def Txn.responseLength : Txn → Nat
  | .readBlock _ => 19
  | .status => 5
  | .cap _ _ => 3
  | .stop => 1
  | .supplyReadBlock _ _ => 20
  | .supplyStatus _ => 3

/-- The check byte that makes the 8-bit sum of length, payload and check 0. -/
def frameCheck (payload : List Byte) : Byte := 0 - sum8 (u8 payload.length ++ payload)

/-- The request frame: start byte, length, payload, check byte (R195). -/
def requestFrame (t : Txn) : List Byte :=
  0xA5 :: (u8 t.request.length ++ t.request ++ [frameCheck t.request])

/-- The even parity bit of a byte. -/
def parityBit (d : Byte) : Bool :=
  ((List.range 8).map d.getLsbD).foldl xor false

/-- The characters of a request frame: even parity and one stop bit each (R25). -/
def requestChars (t : Txn) : List LinkChar := (requestFrame t).map fun d => ⟨d, parityBit d, true⟩

/-- What is wrong with a received character, the stop bit checked first (R26, R27). -/
def charFault (c : LinkChar) : Option FailKind :=
  if !c.stop then some .framing else if c.parity ≠ parityBit c.data then some .parity else none

/-- The response fits the transaction: its fixed length, the code sent, the block index or the address sent,
and a known run state (R27, R40, R195). -/
def fits (t : Txn) (p : List Byte) : Bool :=
  p.length = t.responseLength &&
  match t with
  | .readBlock i => byteAt p 0 = 1 && (byteAt p 1).toNat = i
  | .status => byteAt p 0 = 2 && (RunState.ofCode (byteAt p 1)).isSome
  | .cap _ _ => byteAt p 0 = 3
  | .stop => byteAt p 0 = 4
  | .supplyReadBlock a i => (byteAt p 0).toNat = a.val && byteAt p 1 = 1 && (byteAt p 2).toNat = i
  | .supplyStatus a => (byteAt p 0).toNat = a.val && byteAt p 1 = 2

/-! ### The engine's own steps (R25 to R28) -/

/-- An engine that takes a transaction enters SENDING (R25). -/
def Engine.send (t : Txn) : Engine := { Engine.reset with state := .sending, inFlight := some t }

/-- An engine in QUIET from now: 2 ms of silence or 50 ms end it (R28). -/
def Engine.quiet (now : Nat) : Engine :=
  { Engine.reset with state := .quiet, timer := some (now + 50), silence := some (now + 2) }

/-- The last character of the request has gone: AWAIT_START with the response timer (R25). -/
def Engine.sent (now : Nat) (e : Engine) : Engine :=
  if e.state = .sending then { e with state := .awaitStart, timer := some (now + 50) } else e

/-- What a received character leads to. -/
inductive CharResult where
  | goOn (e : Engine)
  | failed (k : FailKind)
  | done (payload : List Byte)

/-- The judgement of a whole frame at its check byte (R27). -/
def judgeFrame (t : Option Txn) (len : Byte) (payload : List Byte) (check : Byte) : CharResult :=
  if sum8 (len :: payload) + check ≠ 0 then .failed .badCheck
  else if t.any fun t => fits t payload then .done payload
  else .failed .badCheck

/-- An engine at a character (R26 to R28). -/
def Engine.onChar (now : Nat) (c : LinkChar) (e : Engine) : CharResult :=
  match e.state with
  | .idle | .sending => .goOn e
  | .quiet => .goOn { e with silence := some (now + 2) }
  | .awaitStart =>
    match charFault c with
    | some k => .failed k
    | none =>
      if c.data = 0x5A then .goOn { e with state := .receiving, timer := some (now + 50), rxLength := none, rx := [] }
      else .goOn e
  | .receiving =>
    match charFault c with
    | some k => .failed k
    | none =>
      match e.rxLength with
      | none =>
        if e.inFlight.any (fun t => t.responseLength < c.data.toNat) then .failed .overrun
        else .goOn { e with rxLength := some c.data }
      | some len =>
        if e.rx.length < len.toNat then .goOn { e with rx := e.rx ++ [c.data] }
        else judgeFrame e.inFlight len e.rx c.data

/-! ### Bay transaction outcomes -/

/-- A failed STATUS poll of the present polled period: the count, and at 3 the loss of the link (R38). -/
def pollFailed (b : BayIx) (k : FailKind) (s : State) : State :=
  let n := min ((s.bay b).link.failedPolls + 1) 3
  let s := s.modLink b fun l => { l with failedPolls := n }
  if (s.bay b).linkLost then s.modBay b fun y => { y with inlet := none }
  else if n = 3 then
    raise .linkLost (.bay b) k.code 0 (s.modBay b fun y => { y with linkLost := true, inlet := none })
  else s

/-- A failed CAP: retried once, reported as a cap failure, or superseded (R32). -/
def capFailed (b : BayIx) (level : Nat) (retried : Bool) (s : State) : State :=
  let y := s.bay b
  if y.state ≠ .online || y.link.slot.isSome then s
  else if retried || y.linkLost then capFailure b level s
  else s.modLink b fun l => { l with slot := some ⟨level, true⟩ }

/-- A failed bay transaction is handed to its owner (R28). `stale` says the bay has left the polled states
since it was sent (R32, R36). -/
def bayTxnFailed (b : BayIx) (t : Txn) (stale : Bool) (k : FailKind) (s : State) : State :=
  match t with
  | .readBlock _ => blockOutcome (.bay b) (.error k) s
  | .status => if stale || !(s.bay b).state.forwarding then s else pollFailed b k s
  | .cap level retried => if stale then s else capFailed b level retried s
  | .stop | .supplyReadBlock _ _ | .supplyStatus _ => s

/-- The inlet reading of a STATUS response in tenths, missing for a code outside −40 to 125 (R37, R195). -/
def inletReading (code : Byte) : Option Int :=
  if -40 ≤ code.toInt ∧ code.toInt ≤ 125 then some (code.toInt * 10) else none

/-- A successful STATUS poll (R37, R38). In IDENT the result is discarded (R36), the applied level with it: DESIGN
CHOICE, R68 can be read to write that level in IDENT too (log 33). Sent before an exit from the polled states it
updates the run state, the inlet and the applied level only (R36, R68). A poll that restores the link and reports
READY_OFF raises LINK_RESTORED before BAY_OFF, an order the manual leaves free (log 7). -/
def pollSucceeded (b : BayIx) (stale : Bool) (run : RunState) (inlet : Option Int) (cap : Nat) (s : State) : State :=
  if (s.bay b).state = .ident then s
  else
    let s := s.modBay b fun y => { y with runState := some run, inlet := inlet, applied := some cap }
    if stale || !(s.bay b).state.forwarding then s
    else
      let s := s.modLink b fun l => { l with failedPolls := 0 }
      let s := if (s.bay b).linkLost then
          raise .linkRestored (.bay b) 0 0 (s.modBay b fun y => { y with linkLost := false })
        else s
      if run = .readyOff then endShed b offReady (endStop b offReady s) else s

/-- A CAP acknowledgement: recorded as the applied level; the matching one at or below its level stops the
cap timer, and one above its level is a cap failure (R32, R68, R82, R83). -/
def capAcknowledged (b : BayIx) (stale : Bool) (level appliedLevel : Nat) (s : State) : State :=
  let s := s.modBay b fun y => { y with applied := some appliedLevel }
  if level < appliedLevel then if stale then s else capFailure b level s
  else if (s.bay b).lastDecided = some level then s.modBay b fun y => { y with capTimer := none }
  else s

/-- A successful bay transaction is handed to its owner (R27, R32, R34, R35, R37). R34 says that an acknowledgement of
STOP is recorded only, and no table or rule names an item that holds it: it changes nothing here, DESIGN CHOICE (log
35). -/
def bayTxnDone (b : BayIx) (t : Txn) (stale : Bool) (p : List Byte) (s : State) : State :=
  match t with
  | .readBlock _ => blockOutcome (.bay b) (.ok ((p.drop 2).take 16, byteAt p 18)) s
  | .status =>
    match RunState.ofCode (byteAt p 1) with
    | some run => pollSucceeded b stale run (inletReading (byteAt p 2)) (wordAt p 3).toNat s
    | none => s
  | .cap level _ => capAcknowledged b stale level (wordAt p 1).toNat s
  | .stop | .supplyReadBlock _ _ | .supplyStatus _ => s

/-- The transaction in flight on a bay link fails: its sticky flag is set, it is cleared, the engine takes
its next state, and the owner is told (R28). -/
def failBayTxn (b : BayIx) (k : FailKind) (next : Engine) (s : State) : State :=
  let e := (s.bay b).link.engine
  let s := s.modBay b fun y => { y with sticky := y.sticky.set k, link := { y.link with engine := next } }
  match e.inFlight with
  | some t => bayTxnFailed b t e.stale k s
  | none => s

/-- A character on a bay link. In EMPTY and SETTLING the engine is IDLE and discards it (R24). -/
def bayChar (b : BayIx) (c : LinkChar) (s : State) : State :=
  let e := (s.bay b).link.engine
  match e.onChar s.now c with
  | .goOn e' => s.modLink b fun l => { l with engine := e' }
  | .failed k => failBayTxn b k (Engine.quiet s.now) s
  | .done p =>
    let s := s.modLink b fun l => { l with engine := .reset }
    match e.inFlight with
    | some t => bayTxnDone b t e.stale p s
    | none => s

/-! ### Supply transaction outcomes (R42) -/

/-- The supply a transaction addresses. -/
def Txn.address : Txn → Option SupIx
  | .supplyReadBlock a _ | .supplyStatus a => some a
  | .readBlock _ | .status | .cap _ _ | .stop => none

/-- The supply link engine in a new state. -/
def setSupplyEngine (e : Engine) (s : State) : State :=
  { s with supplyLink := { s.supplyLink with engine := e } }

/-- The transaction in flight on the supply link fails: the flag is set in the record of the supply that was
addressed, and a failed READ_BLOCK goes to that supply's identity read (R28, R40, R42). -/
def failSupplyTxn (k : FailKind) (next : Engine) (s : State) : State :=
  let t := s.supplyLink.engine.inFlight
  let s := setSupplyEngine next s
  match t.bind Txn.address with
  | none => s
  | some a =>
    let s := s.modSupply a fun p => { p with sticky := p.sticky.set k }
    match t with
    | some (.supplyReadBlock _ _) => blockOutcome (.supply a) (.error k) s
    | _ => s

/-- A successful supply transaction is handed to its owner (R42). -/
def supplyTxnDone (t : Txn) (p : List Byte) (s : State) : State :=
  match t with
  | .supplyReadBlock a _ => blockOutcome (.supply a) (.ok ((p.drop 3).take 16, byteAt p 19)) s
  | .supplyStatus a => supplyPolled a ((byteAt p 2).getLsbD 0) ((byteAt p 2).getLsbD 1) s
  | .readBlock _ | .status | .cap _ _ | .stop => s

/-- A character on the supply link. -/
def supplyChar (c : LinkChar) (s : State) : State :=
  let e := s.supplyLink.engine
  match e.onChar s.now c with
  | .goOn e' => setSupplyEngine e' s
  | .failed k => failSupplyTxn k (Engine.quiet s.now) s
  | .done p =>
    let s := setSupplyEngine .reset s
    match e.inFlight with
    | some t => supplyTxnDone t p s
    | none => s

/-! ### Work order (R30, R33, R41) -/

/-- The work a bay link engine may take. -/
inductive Work where
  | cap (slot : CapSlot)
  | stop
  | identity (index : Nat)
  | poll

/-- The first work an IDLE bay link engine holds and its bay's state allows (R30, Table 2-3). -/
def Bay.nextWork (y : Bay) : Option Work :=
  if y.link.engine.state ≠ .idle then none
  else match y.state with
    | .ident => y.link.identRequest.map .identity
    | .online =>
      match y.link.slot with
      | some c => some (.cap c)
      | none => if y.link.pollDue then some .poll else none
    | .stopping | .shedding =>
      if y.link.pendingStop then some .stop else if y.link.pollDue then some .poll else none
    | .empty | .settling | .off | .waiting | .admitted | .powering | .fault => none

/-- The engine takes work and starts sending it. A cap level taken while the link is LOST is not sent: the
engine stays IDLE and reports a cap failure (R30, R33). -/
def takeWork (b : BayIx) (w : Work) (s : State) : State :=
  match w with
  | .cap c =>
    if (s.bay b).linkLost then capFailure b c.level (s.modLink b fun l => { l with slot := none })
    else s.modLink b fun l => { l with slot := none, engine := .send (.cap c.level c.retried) }
  | .stop => s.modLink b fun l => { l with pendingStop := false, engine := .send .stop }
  | .identity i => s.modLink b fun l => { l with identRequest := none, engine := .send (.readBlock i) }
  | .poll => s.modLink b fun l => { l with pollDue := false, engine := .send .status }

/-- The first bay, in index order, whose engine can take work. -/
def nextTaker (s : State) : Option (BayIx × Work) :=
  allBays.findSome? fun b => (s.bay b).nextWork.map fun w => (b, w)

/-- The ramp channel makes its grant and the bay link engines take their work, one after another, until
there is nothing to grant or take. Each cap failure takes a bay out of ONLINE and each take makes an
engine busy, so fewer than `settleFuel` turns are ever needed (log 6). -/
def settleBays : Nat → State → State
  | 0, s => s
  | n + 1, s =>
    match grantable s with
    | some b => settleBays n (grantTo b s)
    | none =>
      match nextTaker s with
      | some (b, w) => settleBays n (takeWork b w s)
      | none => s

/-- More turns than one change can call for: see `settleBays`. -/
def settleFuel : Nat := 128

/-- The first supply at or after an address that is ACTIVE or FAILED (R41). -/
def pollTarget (from_ : Nat) (s : State) : Option SupIx :=
  allSupplies.find? fun i => from_ ≤ i.val && ((s.supply i).state = .active || (s.supply i).state = .failed)

/-- A round takes its next poll, or ends (R41, step 2). -/
def runRound (next : Nat) (s : State) : State :=
  match pollTarget next s with
  | some i => { s with supplyLink := { s.supplyLink with
      round := some (i.val + 1), engine := .send (.supplyStatus i) } }
  | none => { s with supplyLink := { s.supplyLink with round := none } }

/-- A due round starts when none is running (R41, step 3). -/
def startDueRound (s : State) : State :=
  if s.supplyLink.round.isNone && s.supplyLink.roundDue && s.supplyLink.engine.state = .idle then
    runRound 0 { s with supplyLink := { s.supplyLink with roundDue := false } }
  else s

/-- The supply with the lowest address that has an identity request, and the block it asks for. -/
def nextIdentity (s : State) : Option (SupIx × Nat) :=
  allSupplies.findSome? fun i => (s.supplyLink.identRequests.get i).map fun n => (i, n)

/-- The IDLE supply link engine takes its work (R41). -/
def takeSupplyWork (s : State) : State :=
  if s.supplyLink.engine.state ≠ .idle then s
  else match nextIdentity s with
    | some (i, n) => { s with supplyLink := { s.supplyLink with
        identRequests := s.supplyLink.identRequests.set i none, engine := .send (.supplyReadBlock i n) } }
    | none =>
      match s.supplyLink.round with
      | some next => startDueRound (runRound next s)
      | none => startDueRound s

/-- Everything a change leaves for the ramp channel and the link engines is taken. -/
def settle (s : State) : State := takeSupplyWork (settleBays settleFuel s)

/-- A change made whole: the work it left is taken, and the attention frame it prompts is sent. -/
def change (f : State → State) (s : State) : State := promptAttention s (settle (f s))

end Sys2Proof.Machine
end

