-- ==== Sys2Proof/Machine/Thermal.lean ====
section
/-! DEFINITION. The fan outputs and the thermal monitor (sections 6.1 to 6.5): curves, demand, zone updates,
the compare count, sensor codes and zone thermal states. -/

namespace Sys2Proof.Machine

/-! ### Fan curves (R111) -/

/-- A quotient rounded to the nearest integer, an exact half toward the higher value. -/
def roundHalfUp (num : Int) (den : Nat) : Int := (2 * num + den) / (2 * den)

/-- The value at `t` on the segment from `p` to `q`. -/
def segmentValue (p q : CurvePoint) (t : Int) : Nat :=
  (p.duty + roundHalfUp (((q.duty : Int) - p.duty) * (t - p.temp)) (q.temp - p.temp).toNat : Int).toNat

/-- The value at `t` of the curve that goes on from `p`. -/
def curveFrom (p : CurvePoint) : List CurvePoint → Int → Nat
  | [], _ => p.duty
  | q :: rest, t =>
    if t ≤ p.temp then p.duty
    else if t < q.temp then segmentValue p q t
    else curveFrom q rest t

/-- The curve value of a temperature. A curve holds 1 to 8 points. -/
def curveValue (c : List CurvePoint) (t : Int) : Nat :=
  match c with
  | [] => 0
  | p :: rest => curveFrom p rest t

/-! ### Outputs (R115 to R117) -/

/-- The compare count C of an output with period count `p` (R117). -/
def compareCount (output p : Nat) : Nat := (output * p + 500) / 1000

/-- A zone with its output set and C recomputed (R117). -/
def Zone.drive (output : Nat) (x : Zone) : Zone :=
  { x with output := output, compare := compareCount output x.settings.period }

/-- A fan of the zone is unhealthy. -/
def zoneUnhealthy (z : ZoneIx) (s : State) : Bool := healthyCount z s ≠ 2

/-- The floor under a zone's output: the minimum duty, and the failsafe duty while UNMANAGED (R115). -/
def outputFloor (managed : Bool) (c : ZoneSettings) : Nat :=
  if managed then c.minDuty else max c.minDuty c.failsafe

/-- An output moved toward a demand by at most one slew step (R115). -/
def slewed (c : ZoneSettings) (previous demand : Nat) : Nat :=
  if previous ≤ demand then min demand (previous + c.slewUp) else max demand (previous - c.slewDown)

/-! ### Demand (R112) -/

/-- The largest of a list of contributions, none for no contribution. -/
def largest (l : List Nat) : Option Nat := l.foldl (fun m x => some (max (m.getD 0) x)) none

/-- The channels of a zone. -/
def zoneChans (z : ZoneIx) (s : State) : List ChanIx := allChans.filter fun c => (s.sensor c).zone = z

/-- The bays of a zone in ONLINE, STOPPING or SHEDDING. -/
def zoneRunning (z : ZoneIx) (s : State) : List BayIx :=
  allBays.filter fun b => (s.bay b).settings.zone = z && (s.bay b).state.forwarding

/-- The readings of a zone's VALID channels, each with its channel's settings. -/
def validSensors (z : ZoneIx) (s : State) : List Sensor :=
  ((zoneChans z s).map s.sensor).filter fun x => x.status = .valid

/-- The channel counts as a missing reading (Table 6-2). -/
def SensorStatus.missing : SensorStatus → Bool
  | .initial | .faulted => true
  | .valid | .disabled => false

/-- The contributions of an update and the demand they make (Table 6-5). -/
def contributions (z : ZoneIx) (s : State) : Contributions :=
  let x := s.zone z
  let sensor := largest ((validSensors z s).map fun c => curveValue x.curve c.reading)
  let inlets := (zoneRunning z s).filterMap fun b => (s.bay b).inlet
  let inlet := largest (inlets.map (curveValue x.curve))
  let missing := (zoneChans z s).any (fun c => (s.sensor c).status.missing)
    || (zoneRunning z s).any fun b => (s.bay b).inlet.isNone
  let feedforward := runningAlloc z s * x.settings.feedforward / 1000
  let top := [sensor.getD 0, inlet.getD 0, if missing then x.settings.missingDuty else 0, feedforward,
    outputFloor s.agent.managed x.settings].foldl max 0
  ⟨min top 1000, sensor, inlet, missing, feedforward⟩

/-- The output an update gives a zone with a demand (R115). -/
def updatedOutput (z : ZoneIx) (demand : Nat) (s : State) : Nat :=
  if zoneUnhealthy z s then 1000
  else
    let x := s.zone z
    max (slewed x.settings x.output demand) (outputFloor s.agent.managed x.settings)

/-- An update of a zone: the demand from the state as it stands, then the output (R114). -/
def updateZone (z : ZoneIx) (s : State) : State :=
  let c := contributions z s
  let out := updatedOutput z c.demand s
  s.modZone z fun x => { x.drive out with lastUpdate := some c }

/-- An immediate update of all three zones, at each change of the management mode (R114). -/
def updateAllZones (s : State) : State := allZones.foldl (fun s z => updateZone z s) s

/-! ### Zone thermal state (R109, R110) -/

/-- The thermal state the readings of a zone's VALID channels give (Table 6-3). -/
def evaluateThermal (before : ThermalState) (l : List Sensor) : ThermalState :=
  let margin : Int := if before = .critical then 20 else 0
  if l.any fun x => x.crit - margin ≤ x.reading then .critical
  else if l.any fun x => x.warn ≤ x.reading then .warm
  else .normal

/-- The highest valid reading, −32768 when there is none (R110). -/
def highestReading (l : List Sensor) : Int := l.foldl (fun m x => max m x.reading) (-32768)

/-- The event of a thermal state. -/
def ThermalState.event : ThermalState → EventKind
  | .normal => .zoneNormal
  | .warm => .zoneWarm
  | .critical => .zoneCritical

/-- A zone enters a thermal state different from its own: the event, the ZONE_CRITICAL condition's beginning
or end, the recomputation of L_z, and at entry to CRITICAL an immediate update (R110). -/
def changeThermal (z : ZoneIx) (st : ThermalState) (s : State) : State :=
  let old := (s.zone z).thermal
  let s := s.modZone z fun x => { x with thermal := st }
  let s := raise st.event (.zone z) old.code (highestReading (validSensors z s)) s
  let s := if st = .critical then raiseCondition (.zoneCritical z) s
    else if old = .critical then endCondition (.zoneCritical z) s
    else s
  let s := recomputeLimit z s
  if st = .critical then updateZone z s else s

/-- A re-evaluation of a zone's thermal state (R109). One that finds it unchanged does nothing. -/
def evaluateZone (z : ZoneIx) (s : State) : State :=
  let st := evaluateThermal (s.zone z).thermal (validSensors z s)
  if st = (s.zone z).thermal then s else changeThermal z st s

/-! ### Codes (R106 to R108) -/

/-- The temperature of an in-range code (R107). -/
def codeTemperature (gain : Nat) (offset : Int) (code : Nat) : Int :=
  clampInt (-400) 1500 (((code * gain / 1024 : Nat) : Int) + offset)

/-- A rail code: 0 or 4095. -/
def isRail (code : BitVec 12) : Bool := code = 0 || code = 4095

/-- A rail code is judged: the second consecutive one faults an INITIAL or VALID channel (R108). -/
def railCode (c : ChanIx) (code : BitVec 12) (s : State) : State :=
  let s := s.modSensor c fun x => { x with lastCode := code, railRun := x.railRun + 1, inRangeRun := 0 }
  let x := s.sensor c
  if (x.status = .initial || x.status = .valid) && 2 ≤ x.railRun then
    let s := s.modSensor c fun x => { x with status := .faulted }
    let s := raise .sensorFault (.sensor c) (decide (code = 4095)).toNat code.toNat s
    raiseCondition (.sensorFault c) s
  else s

/-- An in-range code is converted: it makes an INITIAL or VALID channel VALID with its temperature, and the
second consecutive one restores a FAULTED channel (R107, R108). -/
def inRangeCode (c : ChanIx) (code : BitVec 12) (s : State) : State :=
  let s := s.modSensor c fun x =>
    { x with lastCode := code, reading := codeTemperature x.gain x.offset code.toNat
             inRangeRun := x.inRangeRun + 1, railRun := 0 }
  let x := s.sensor c
  if x.status = .faulted then
    if 2 ≤ x.inRangeRun then
      let s := s.modSensor c fun x => { x with status := .valid }
      endCondition (.sensorFault c) (raise .sensorRestored (.sensor c) 0 x.reading s)
    else s
  else s.modSensor c fun x => { x with status := .valid }

/-- A completed conversion: the code is stored and judged, and the zone re-evaluated (R106). -/
def converted (c : ChanIx) (code : BitVec 12) (s : State) : State :=
  let s := if isRail code then railCode c code s else inRangeCode c code s
  evaluateZone (s.sensor c).zone s

/-- The channel of the next slot: the first enabled one above the last, else the lowest enabled one, else
none (R106). -/
def nextChannel (s : State) : Option ChanIx :=
  ((allChans.find? fun c => s.converter.lastChan < c && (s.sensor c).enabled)).or
    (allChans.find? fun c => (s.sensor c).enabled)

/-- The converter begins its next slot, or idles through it. -/
def beginSlot (s : State) : State :=
  let next := nextChannel s
  { s with converter :=
    ⟨next, false, next.getD s.converter.lastChan, s.now + 10⟩ }

/-- The end of a conversion slot: the conversion in progress delivers its code, unless its channel has been
disabled since the slot began, and the next slot begins (R106). -/
def slotEnd (code : BitVec 12) (s : State) : State :=
  let s := s.reach s.converter.slotEnd
  match s.converter.converting with
  | some c =>
    beginSlot (if s.converter.discarded || (s.sensor c).status = .disabled then s else converted c code s)
  | none => beginSlot s

/-- CONVERSION_SLOT_END (R106). -/
def execConversionSlotEnd (code : BitVec 12) (s : State) : Host.Outcome State Fault Refusal :=
  gated s (change (slotEnd code))

/-! ### Sensor settings (R127) -/

/-- The settings of a channel as its request carries them, in order and width (Table 11-4). -/
def Sensor.settingBytes (x : Sensor) : List Byte :=
  u16 x.gain ++ i16 x.offset ++ u8 x.zone.val ++ i16 x.warn ++ i16 x.crit ++ flag x.enabled

/-- A channel's reading, valid only in VALID. -/
def Sensor.validReading (x : Sensor) : Option Int := if x.status = .valid then some x.reading else none

/-- A channel turned off: DISABLED, its reading and run counts discarded, a conversion of it in progress
discarded, and a SENSOR_FAULT condition ended without an event (R105, R106). -/
def disableSensor (c : ChanIx) (s : State) : State :=
  let faulted := (s.sensor c).status = .faulted
  let s := s.modSensor c fun x =>
    { x with enabled := false, status := .disabled, reading := 0, railRun := 0, inRangeRun := 0 }
  let s := if s.converter.converting = some c then
      { s with converter := { s.converter with discarded := true } }
    else s
  if faulted then endCondition (.sensorFault c) s else s

/-- A channel turned on from off: INITIAL with both run counts 0 (R105). -/
def enableSensor (c : ChanIx) (s : State) : State :=
  s.modSensor c fun x => { x with enabled := true, status := .initial, railRun := 0, inRangeRun := 0 }

/-- The enabled setting changed, where it differs. -/
def setEnabled (c : ChanIx) (on : Bool) (s : State) : State :=
  if on = (s.sensor c).enabled then s else if on then enableSensor c s else disableSensor c s

/-- The body of a SET_SENSOR response: settings, status and reading (R127). -/
def sensorBody (c : ChanIx) (s : State) : List Byte :=
  let x := s.sensor c
  x.settingBytes ++ u8 x.status.code ++ temp x.validReading

/-- The re-evaluations that a change of settings calls for: of the old and the new zone when the channel has
moved, of its zone when its warn, crit or enabled setting has changed (R109, R127; log 7). -/
def reevaluate (old new : Sensor) (s : State) : State :=
  if old.zone ≠ new.zone then evaluateZone new.zone (evaluateZone old.zone s)
  else if old.warn ≠ new.warn || old.crit ≠ new.crit || old.enabled ≠ new.enabled then
    evaluateZone new.zone s
  else s

/-- SET_SENSOR: index, then zone and enabled codes, then the selected settings with their clamps and
effects (R127). The enabled code is checked whether or not it is selected: R193 has it checked in the request that
carries it, and R127 states no exemption such as those of R20 and R152 (log 30). An offset, warn or crit out of range
answers CLAMPED only when it is selected: DESIGN CHOICE, R127 does not say so of the clamps (log 34). -/
def cmdSetSensor (chan sel : Byte) (gain offset : BitVec 16) (zone : Byte) (warn crit : BitVec 16)
    (enabled : Byte) (s : State) : State :=
  match toIx 12 chan.toNat with
  | none => answer .outOfRange [] s
  | some c =>
    let old := s.sensor c
    let newZone := if sel.getLsbD 2 then toIx 3 zone.toNat else some old.zone
    match newZone, onOff enabled with
    | some z, some code =>
      let off := clampInt (-2000) 2000 offset.toInt
      let w := clampInt (-400) 1500 warn.toInt
      let k := clampInt (-400) 1500 crit.toInt
      let clamped := (sel.getLsbD 1 && off ≠ offset.toInt) || (sel.getLsbD 3 && w ≠ warn.toInt)
        || (sel.getLsbD 4 && k ≠ crit.toInt)
      let s := s.modSensor c fun x =>
        { x with gain := pick (sel.getLsbD 0) gain.toNat x.gain
                 offset := pick (sel.getLsbD 1) off x.offset
                 zone := z
                 warn := pick (sel.getLsbD 3) w x.warn
                 crit := pick (sel.getLsbD 4) k x.crit }
      let s := setEnabled c (pick (sel.getLsbD 5) code old.enabled) s
      let s := reevaluate old (s.sensor c) s
      answer (clampStatus clamped) (sensorBody c s) s
    | _, _ => answer .badValue (sensorBody c s) s

/-- SET_SENSOR (R127). -/
def execSetSensor (chan sel : Byte) (gain offset : BitVec 16) (zone : Byte) (warn crit : BitVec 16)
    (enabled : Byte) (s : State) : Host.Outcome State Fault Refusal :=
  gated s (change (cmdSetSensor chan sel gain offset zone warn crit enabled))

end Sys2Proof.Machine
end

