-- ==== Sys2Proof/Machine/Acceptance.lean ====
section
/-! DEFINITION. The management agent's acceptance of control frames and its silence timer (section 9.2). -/

namespace Sys2Proof.Machine

/-- The checks of Table 9-2. -/
def acceptable (c : ControlFrame) (s : State) : Bool :=
  (s.uplink c.uplink).trusted && !isGroup (frameSrc c.frame)
    && (s.agent.managers.isEmpty || s.agent.managers.contains (frameSrc c.frame))
    && s.agent.queue.length < 4

/-- The seconds spent UNMANAGED, counted from power-on at the first contact (R169). -/
def unmanagedSeconds (s : State) : Nat := min ((s.now - s.agent.unmanagedSince) / 1000) 4294967295

/-- Entry to MANAGED by a frame on an uplink: MANAGER_RESTORED, and an immediate update of all three zones
(R169, R114). That update already lowers an output by slew_down toward the demand without the failsafe duty, which
R169 and R115 leave open (log 29). -/
def enterManaged (u : UplinkIx) (s : State) : State :=
  let away := unmanagedSeconds s
  let s := { s with agent := { s.agent with managed := true } }
  updateAllZones (raise .managerRestored (.uplink u) 0 away s)

/-- Acceptance: the counter, the request queue, the current manager, the silence timer, and MANAGED (R169). -/
def acceptFrame (c : ControlFrame) (s : State) : State :=
  let s := s.countUplink c.uplink fun n => { n with controlAccepted := sat32 n.controlAccepted }
  let timer := if s.agent.silenceTimeout = 0 then s.agent.silenceTimer
    else some (s.now + s.agent.silenceTimeout * 1000)
  let manager : Manager := ⟨frameSrc c.frame, c.uplink, frameTag c.frame⟩
  let s := { s with agent := { s.agent with
    queue := s.agent.queue ++ [c], manager := some manager, silenceTimer := timer } }
  if s.agent.managed then s else enterManaged c.uplink s

/-- The judgement of a control frame: accepted, or rejected with nothing but its counter changed (R168). -/
def judgeControl (c : ControlFrame) (s : State) : State :=
  if acceptable c s then acceptFrame c s
  else s.countUplink c.uplink fun n => { n with controlRejected := sat32 n.controlRejected }

/-- The silence timer expires: UNMANAGED, with no current manager, MANAGER_LOST and an immediate update of
all three zones (R170). -/
def enterUnmanaged (s : State) : State :=
  let lost := s.agent.manager
  let s := { s with agent := { s.agent with
    managed := false, manager := none, silenceTimer := none, unmanagedSince := s.now } }
  let s := match lost with
    | some m => raise .managerLost (.uplink m.uplink) 0 s.agent.silenceTimeout s
    | none => s
  updateAllZones s

/-- The expiry of a running silence timer. -/
def silenceExpiry (s : State) : State :=
  match s.agent.silenceTimer with
  | some d => enterUnmanaged (s.reach d)
  | none => s

/-- SILENCE_TIMER_EXPIRY (R170). -/
def execSilenceTimerExpiry (s : State) : Host.Outcome State Fault Refusal := gated s (change silenceExpiry)

end Sys2Proof.Machine
end

