-- ==== Sys2Proof/Machine/BayRequests.lean ====
section
/-! DEFINITION. The bay requests: BAY_ACTION with its five actions (section 1.5), SET_BAY (section 1.6) and
QUERY_BAY (section 1.7). -/

namespace Sys2Proof.Machine

/-! ### BAY_ACTION (R15 to R19, Table 1-7) -/

/-- Answers a BAY_ACTION with the bay's state as it now is (R15). -/
def answerState (st : Status) (b : BayIx) (s : State) : State := answer st (u8 (s.bay b).state.code) s

/-- An action on the bay an index names, OUT_OF_RANGE beyond B13 (R15). -/
def onBay (bay : Byte) (act : BayIx → State → State) (s : State) : State :=
  match toIx 14 bay.toNat with
  | none => answer .outOfRange [] s
  | some b => act b s

/-- ON by state (R16). -/
def actOn (b : BayIx) (s : State) : State :=
  match (s.bay b).state with
  | .empty | .settling => answerState .notPresent b s
  | .ident => answerState .busy b s
  | .off => answerState .ok b (turnOn b s)
  | .waiting | .admitted | .powering | .online => answerState .ok b s
  | .stopping | .shedding | .fault => answerState .wrongState b s

/-- STOP by state (R17). -/
def actStop (b : BayIx) (s : State) : State :=
  match (s.bay b).state with
  | .empty | .settling => answerState .notPresent b s
  | .ident => answerState .busy b s
  | .off | .stopping => answerState .ok b s
  | .waiting | .admitted | .powering | .online | .shedding => answerState .ok b (stopBay b s)
  | .fault => answerState .wrongState b s

/-- FORCE_OFF by state (R18). -/
def actForceOff (b : BayIx) (s : State) : State :=
  match (s.bay b).state with
  | .empty | .settling => answerState .notPresent b s
  | .ident => answerState .busy b s
  | .off => answerState .ok b s
  | .waiting | .admitted | .powering | .online | .stopping | .shedding => answerState .ok b (forceOff b s)
  | .fault => answerState .wrongState b s

/-- A blade identified anew: its old record is freed and the bay enters IDENT (R19). -/
def reidentify (b : BayIx) (s : State) : State := enterIdent b (releaseRecord (.bay b) s)

/-- CLEAR_FAULT by state (R19). -/
def actClearFault (b : BayIx) (s : State) : State :=
  match (s.bay b).state with
  | .empty | .settling => answerState .notPresent b s
  | .fault => answerState .ok b (reidentify b (removeCondition (.bayFault b) s))
  | .ident | .off | .waiting | .admitted | .powering | .online | .stopping | .shedding =>
    answerState .wrongState b s

/-- RECHECK by state (R19). -/
def actRecheck (b : BayIx) (s : State) : State :=
  match (s.bay b).state with
  | .empty | .settling => answerState .notPresent b s
  | .ident => answerState .busy b s
  | .off => answerState .ok b (reidentify b s)
  | .fault => answerState .ok b (reidentify b (endCondition (.bayFault b) s))
  | .waiting | .admitted | .powering | .online | .stopping | .shedding => answerState .wrongState b s

/-- BAY_ACTION ON (R16). -/
def execBayActionOn (bay : Byte) (s : State) : Host.Outcome State Fault Refusal :=
  gated s (change (onBay bay actOn))

/-- BAY_ACTION STOP (R17). -/
def execBayActionStop (bay : Byte) (s : State) : Host.Outcome State Fault Refusal :=
  gated s (change (onBay bay actStop))

/-- BAY_ACTION FORCE_OFF (R18). -/
def execBayActionForceOff (bay : Byte) (s : State) : Host.Outcome State Fault Refusal :=
  gated s (change (onBay bay actForceOff))

/-- BAY_ACTION CLEAR_FAULT (R19). -/
def execBayActionClearFault (bay : Byte) (s : State) : Host.Outcome State Fault Refusal :=
  gated s (change (onBay bay actClearFault))

/-- BAY_ACTION RECHECK (R19). -/
def execBayActionRecheck (bay : Byte) (s : State) : Host.Outcome State Fault Refusal :=
  gated s (change (onBay bay actRecheck))

/-- A BAY_ACTION record: the bay, then the action code (R15, Table 11-4). -/
def cmdBayAction (bay action : Byte) (s : State) : State :=
  if action = 0 then onBay bay actOn s
  else if action = 1 then onBay bay actStop s
  else if action = 2 then onBay bay actForceOff s
  else if action = 3 then onBay bay actClearFault s
  else if action = 4 then onBay bay actRecheck s
  else onBay bay (answerState .badValue) s

/-! ### SET_BAY (R20, R21) -/

/-- The slot settings in the order of Table 1-1. -/
def BaySettings.bytes (c : BaySettings) : List Byte :=
  u8 c.priority ++ flag c.autoPower ++ flag c.pressToStart ++ u8 c.zone.val ++ u8 c.primary.val
    ++ optU8 (c.alternate.map (·.val)) ++ u8 c.group.val

/-- The settings a SET_BAY asks for, none when a selected value is not a member of its set (R20). -/
def selectBay (old : BaySettings) (sel priority autoPower pressToStart zone primary alternate group : Byte) :
    Option BaySettings := do
  let auto ← if sel.getLsbD 1 then onOff autoPower else some old.autoPower
  let press ← if sel.getLsbD 2 then onOff pressToStart else some old.pressToStart
  let z ← if sel.getLsbD 3 then toIx 3 zone.toNat else some old.zone
  let p ← if sel.getLsbD 4 then toIx 4 primary.toNat else some old.primary
  let a ← if sel.getLsbD 5 then alternateCode alternate else some old.alternate
  let g ← if sel.getLsbD 6 then toIx 16 group.toNat else some old.group
  return ⟨pick (sel.getLsbD 0) (min priority.toNat 7) old.priority, auto, press, z, p, a, g⟩

/-- What refuses a zone change: the bay's state, then its header's floor against the full-health cooling limit
of the new zone (R20). -/
def zoneRefusal (b : BayIx) (z : ZoneIx) (s : State) : Option Status :=
  let y := s.bay b
  if !y.state.zoneChangeable then some .wrongState
  else if y.header.any fun h => (s.zone z).settings.cooling2 < h.floorWatts then some .badValue
  else none

/-- A WAITING bay takes its place in the waiting list anew (R21). -/
def resortWaiting (b : BayIx) (s : State) : State := joinWaiting b (leaveWaiting b s)

/-- The settings take effect (R21). -/
def applyBay (b : BayIx) (new : BaySettings) (s : State) : State :=
  let old := (s.bay b).settings
  let s := s.modBay b fun y => { y with settings := new }
  let s := if (new.primary ≠ old.primary || new.alternate ≠ old.alternate) && (s.bay b).state.forwarding then
      selectUplink b s
    else s
  if new.priority ≠ old.priority && (s.bay b).state = .waiting then admissionPass (resortWaiting b s) else s

/-- SET_BAY: index, members, a zone change's state and floor, then the changes. A selected zone that is the
present one is unchanged, so it is no zone change (R20). -/
def cmdSetBay (bay sel priority autoPower pressToStart zone primary alternate group : Byte) (s : State) :
    State :=
  match toIx 14 bay.toNat with
  | none => answer .outOfRange [] s
  | some b =>
    let old := (s.bay b).settings
    match selectBay old sel priority autoPower pressToStart zone primary alternate group with
    | none => answer .badValue old.bytes s
    | some new =>
      match if new.zone ≠ old.zone then zoneRefusal b new.zone s else none with
      | some st => answer st old.bytes s
      | none => answer (clampStatus (sel.getLsbD 0 && 7 < priority.toNat)) new.bytes (applyBay b new s)

/-- SET_BAY (R20). -/
def execSetBay (bay sel priority autoPower pressToStart zone primary alternate group : Byte) (s : State) :
    Host.Outcome State Fault Refusal :=
  gated s (change (cmdSetBay bay sel priority autoPower pressToStart zone primary alternate group))

/-! ### QUERY_BAY (R22) -/

/-- A power header as QUERY_BAY carries it, all ones when absent (log 12). -/
def headerBytes : Option PowerHeader → List Byte
  | some h => u16 h.maxWatts ++ u16 h.floorWatts ++ flag h.cappable ++ u8 h.inrushClass.val
  | none => optU16 none ++ optU16 none ++ optU8 none ++ optU8 none

/-- The reported state of the inventory record: 3, READING, while a read is in flight (Table 11-9). -/
def Bay.recordCode (y : Bay) : Option Nat :=
  if y.read.isSome then some 3 else y.record.map RecordState.code

/-- The body of QUERY_BAY. -/
def bayBody (b : BayIx) (s : State) : List Byte :=
  let y := s.bay b
  u8 y.state.code ++ optU8 (y.presenceLine.map Bool.toNat) ++ y.settings.bytes ++ headerBytes y.header
    ++ u16 y.alloc ++ flag y.stopRequested ++ u8 y.attention.holdCount ++ flag y.attention.pressed
    ++ optU8 (y.activeUplink.map (·.val)) ++ flag y.linkLost ++ u8 y.sticky.code ++ temp y.inlet
    ++ optU8 (y.runState.map RunState.code) ++ optU8 (y.faultCause.map FaultCause.code)
    ++ optU32 (y.deadline.map s.left) ++ optU8 y.recordCode

/-- QUERY_BAY: nothing but the answer changes (R22). -/
def cmdQueryBay (bay : Byte) (s : State) : State := onBay bay (fun b s => answer .ok (bayBody b s) s) s

/-- QUERY_BAY (R22). -/
def execQueryBay (bay : Byte) (s : State) : Host.Outcome State Fault Refusal := gated s (cmdQueryBay bay)

end Sys2Proof.Machine
end

