-- ==== Sys2Proof/Machine/EventRequests.lean ====
section
/-! DEFINITION. The requests on the event queue and the condition set (sections 10.2 and 10.4). -/

namespace Sys2Proof.Machine

/-! ### READ_EVENTS and SET_EVENT_LIMIT (R185, R186) -/

/-- An event record (Table 11-7). -/
def Event.bytes (e : Event) : List Byte :=
  u8 e.kind.code ++ u8 e.subject.classCode ++ u8 e.subject.index ++ [e.detail] ++ u32 e.time.toNat
    ++ u32 e.data.toNat

/-- READ_EVENTS with the room its body has: the oldest events are returned and removed, and the lost count
reported and set to 0 (R185). -/
def cmdReadEvents (count : Byte) (room : Nat) (s : State) : State :=
  let q := s.events.queue
  let n := min (min count.toNat q.length) ((room - 4) / 12)
  let body := u8 n ++ u8 (q.length - n) ++ u16 s.events.lost ++ (q.take n).flatMap Event.bytes
  answer (if n = count.toNat then .ok else .truncated) body
    { s with events := { s.events with queue := q.drop n, lost := 0 } }

/-- READ_EVENTS as a record standing alone in its frame (R185; log 4). -/
def execReadEvents (count : Byte) (s : State) : Host.Outcome State Fault Refusal :=
  gated s (cmdReadEvents count 1486)

/-- SET_EVENT_LIMIT: the clamped limit at once, with the newest events beyond it discarded and counted
(R186). -/
def cmdSetEventLimit (limit : Byte) (s : State) : State :=
  let n := clampNat 8 64 limit.toNat
  let q := s.events.queue
  let s := { s with events :=
    ⟨q.take n, n, min (s.events.lost + (q.length - n)) 65535⟩ }
  answer (clampStatus (n ≠ limit.toNat)) (u8 n ++ u8 s.events.queue.length ++ u16 s.events.lost) s

/-- SET_EVENT_LIMIT (R186). -/
def execSetEventLimit (limit : Byte) (s : State) : Host.Outcome State Fault Refusal :=
  gated s (cmdSetEventLimit limit)

/-! ### READ_CONDITIONS and ACK_CONDITION (R190, R191) -/

/-- The active and acknowledged flags of an entry as one byte (Table 11-6a). -/
def Condition.flags (c : Condition) : Nat := c.active.toNat + 2 * c.acked.toNat

/-- An entry as its item (Table 11-6a). -/
def Condition.bytes (c : Condition) : List Byte :=
  u8 c.key.kindCode ++ u8 c.key.index ++ u8 c.flags ++ u8 0 ++ u32 c.time.toNat

/-- READ_CONDITIONS with the room its body has (R191). -/
def cmdReadConditions (room : Nat) (s : State) : State :=
  let returned := s.conditions.take ((room - 4) / 8)
  let body := u8 s.conditions.length ++ u8 s.unacked ++ u8 returned.length ++ u8 0
    ++ returned.flatMap Condition.bytes
  answer (if returned.length = s.conditions.length then .ok else .truncated) body s

/-- READ_CONDITIONS as a record standing alone in its frame (R191; log 4). -/
def execReadConditions (s : State) : Host.Outcome State Fault Refusal := gated s (cmdReadConditions 1486)

/-- What an acknowledgement leaves of an entry: an inactive one is removed (R190). -/
def ackEntry (k : CondKey) (c : Condition) : Option Condition :=
  if c.key = k then if c.active then some { c with acked := true } else none else some c

/-- Whether the entry remains, with its flags and time if it does (R190; log 12). -/
def ackBody (k : CondKey) (s : State) : List Byte :=
  match s.conditions.find? fun c => c.key = k with
  | some c => u8 1 ++ u8 c.flags ++ u32 c.time.toNat
  | none => u8 0 ++ optU8 none ++ optU32 none

/-- ACK_CONDITION: kind, index, entry, then the acknowledgement (R190). -/
def cmdAckCondition (kind index : Byte) (s : State) : State :=
  match CondKey.ofCodes kind index with
  | none => answer .badValue (u8 0 ++ optU8 none ++ optU32 none) s
  | some none => answer .outOfRange [] s
  | some (some k) =>
    if s.conditions.any fun c => c.key = k then
      let s := setConditions (s.conditions.filterMap (ackEntry k)) s
      answer .ok (ackBody k s) s
    else answer .notPresent (ackBody k s) s

/-- ACK_CONDITION (R190). -/
def execAckCondition (kind index : Byte) (s : State) : Host.Outcome State Fault Refusal :=
  gated s (cmdAckCondition kind index)

end Sys2Proof.Machine
end

