-- ==== Sys2Proof/Machine/Watch.lean ====
section
/-! DEFINITION. The frame watch units (chapter 8): unit matches, composite hits with their actions, and the
watch requests. -/

namespace Sys2Proof.Machine

/-! ### Matching (R155, R156) -/

/-- What the forwarding engine hands over with a frame (Table 7-3): its direction and field values. -/
structure WatchFields where
  /-- from a bay port -/
  up : Bool
  dst : Addr
  src : Addr
  group : Nat
  length : Nat
  typeCode : Nat
  /-- none where the field has no value -/
  bay : Option Nat
  uplink : Nat
  deriving DecidableEq, Repr

/-- The value a selector names (Table 8-2). -/
def WatchFields.value (v : WatchFields) : Selector → Option Nat
  | .destAddr => some v.dst.toNat
  | .srcAddr => some v.src.toNat
  | .group => some v.group
  | .length => some v.length
  | .typeCode => some v.typeCode
  | .bay => v.bay
  | .uplink => some v.uplink

/-- The direction setting names a frame's direction. -/
def WatchDir.names (d : WatchDir) (up : Bool) : Bool :=
  match d with
  | .up => up
  | .down => !up
  | .both => true

/-- A unit matches a frame (R155). A disabled unit, another direction and a missing value match nothing,
negate or not (R156). -/
def WatchUnit.hits (w : WatchUnit) (v : WatchFields) : Bool :=
  w.enabled && w.direction.names v.up &&
    match v.value w.selector with
    | some x => (w.lo ≤ x && x ≤ w.hi) != w.negate
    | none => false

/-- The units that match a frame, one bit for each. -/
def unitMatches (units : Tab WatchUnit 8) (v : WatchFields) : BitVec 8 :=
  allUnits.foldl (fun m i => if (units.get i).hits v then m ||| (1#8 <<< i.val) else m) 0

/-- The match set of a frame that hits the composite, none when it does not hit (R158). -/
def Composite.hit (c : Composite) (matched : BitVec 8) : Option (BitVec 8) :=
  let set := c.mask &&& matched
  match c.mode with
  | .any => if set = 0 then none else some set
  | .all => if c.mask = 0 || set ≠ c.mask then none else some set

/-! ### Hits (R159 to R161) -/

/-- The state with one composite changed. -/
def State.modComposite (s : State) (i : CompIx) (f : Composite → Composite) : State :=
  { s with composites := s.composites.set i (f (s.composites.get i)) }

/-- The composite counts a hit (R159, step 1). -/
def Composite.count (set : BitVec 8) (c : Composite) : Composite :=
  { c with totalHits := sat32 c.totalHits, hitCounter := c.hitCounter + 1, lastMatch := set }

/-- A copy of the frame, as received, to the current manager's uplink while MANAGED (R161). -/
def copyFrame (f : Frame) (s : State) : State :=
  if s.agent.managed then
    match s.agent.manager with
    | some m => transmit m.uplink f s
    | none => s
  else s

/-- The counter at its threshold returns to 0, and an unlatched composite raises WATCH_HIT and latches
(R159, step 3). -/
def crossThreshold (i : CompIx) (s : State) : State :=
  let c := s.composites.get i
  if c.threshold ≤ c.hitCounter then
    let s := s.modComposite i fun c => { c with hitCounter := 0 }
    if c.latched then s
    else (raise .watchHit (.composite i) c.lastMatch.toNat c.totalHits s).modComposite i fun c =>
      { c with latched := true }
  else s

/-- A hit of a composite: counting, its COPY, its threshold (R159). Its DROP is returned by `judgeFrame`. -/
def applyHit (i : CompIx) (set : BitVec 8) (f : Frame) (s : State) : State :=
  let s := s.modComposite i (Composite.count set)
  let s := if (s.composites.get i).copy then copyFrame f s else s
  crossThreshold i s

/-- One composite's judgement of a frame, on the results of the units. -/
def judgeComposite (matched : BitVec 8) (f : Frame) (i : CompIx) (s : State) : State :=
  match (s.composites.get i).hit matched with
  | some set => applyHit i set f s
  | none => s

/-- The frame is to be dropped: a composite with DROP on has hit it (R160). -/
def watchDrops (matched : BitVec 8) (s : State) : Bool :=
  allComps.any fun i => (s.composites.get i).drop && ((s.composites.get i).hit matched).isSome

/-- Watch evaluation of a frame against the same unit results for both composites; whether it is dropped, and the
state after (R158, R160). The hit of C0 is applied before that of C1, an order the manual leaves free (log 7). -/
def watch (v : WatchFields) (f : Frame) (s : State) : Bool × State :=
  let matched := unitMatches s.units v
  (watchDrops matched s, allComps.foldl (fun s i => judgeComposite matched f i s) s)

/-! ### Requests (R163 to R166) -/

/-- A unit's whole record, in the order of its request (Table 11-4). -/
def WatchUnit.bytes (w : WatchUnit) : List Byte :=
  u8 w.selector.code ++ flag w.negate ++ u8 w.direction.code ++ flag w.enabled ++ u48 w.lo ++ u48 w.hi

/-- A composite's record, in the order of Table 8-3. R166 names its actions as one item, which could be a flag set of one
byte: they are sent as two on/off bytes, DROP then COPY, as SET_COMPOSITE carries them (log 31). -/
def Composite.bytes (c : Composite) : List Byte :=
  u8 c.mask.toNat ++ u8 c.mode.code ++ flag c.drop ++ flag c.copy ++ u16 c.threshold ++ u32 c.hitCounter
    ++ u32 c.totalHits ++ flag c.latched ++ u8 c.lastMatch.toNat

/-- SET_WATCH: index, codes, then the record whole with its bounds clamped (R164). -/
def cmdSetWatch (unit selector negate direction enabled : Byte) (lo hi : BitVec 48) (s : State) : State :=
  match toIx 8 unit.toNat with
  | none => answer .outOfRange [] s
  | some i =>
    match Selector.ofCode selector, onOff negate, WatchDir.ofCode direction, onOff enabled with
    | some sel, some neg, some dir, some on =>
      let w : WatchUnit := ⟨sel, min lo.toNat sel.highest, min hi.toNat sel.highest, neg, dir, on⟩
      let clamped := sel.highest < lo.toNat || sel.highest < hi.toNat
      answer (clampStatus clamped) w.bytes { s with units := s.units.set i w }
    | _, _, _, _ => answer .badValue (s.units.get i).bytes s

/-- SET_WATCH (R164). -/
def execSetWatch (unit selector negate direction enabled : Byte) (lo hi : BitVec 48) (s : State) :
    Host.Outcome State Fault Refusal :=
  gated s (cmdSetWatch unit selector negate direction enabled lo hi)

/-- SET_COMPOSITE: index, codes, then the settings whole; the count, latch and last match mask start afresh
and total hits is kept (R165). -/
def cmdSetComposite (comp mask mode drop copy : Byte) (threshold : BitVec 16) (s : State) : State :=
  match toIx 2 comp.toNat with
  | none => answer .outOfRange [] s
  | some i =>
    let old := s.composites.get i
    match CompositeMode.ofCode mode, onOff drop, onOff copy with
    | some m, some d, some k =>
      let c : Composite := ⟨mask, m, d, k, max threshold.toNat 1, 0, old.totalHits, false, 0⟩
      answer (clampStatus (threshold = 0)) c.bytes { s with composites := s.composites.set i c }
    | _, _, _ => answer .badValue old.bytes s

/-- SET_COMPOSITE (R165). -/
def execSetComposite (comp mask mode drop copy : Byte) (threshold : BitVec 16) (s : State) :
    Host.Outcome State Fault Refusal :=
  gated s (cmdSetComposite comp mask mode drop copy threshold)

/-- ARM_COMPOSITE: the latch is cleared and everything else kept (R163). -/
def cmdArmComposite (comp : Byte) (s : State) : State :=
  match toIx 2 comp.toNat with
  | none => answer .outOfRange [] s
  | some i =>
    let s := s.modComposite i fun c => { c with latched := false }
    answer .ok (s.composites.get i).bytes s

/-- ARM_COMPOSITE (R163). -/
def execArmComposite (comp : Byte) (s : State) : Host.Outcome State Fault Refusal :=
  gated s (cmdArmComposite comp)

/-- The body of QUERY_WATCH: units, composites, the mode and the current manager's uplink (R166), with no count before
the units and the composites (log 32). -/
def watchBody (s : State) : List Byte :=
  s.units.items.flatMap WatchUnit.bytes ++ s.composites.items.flatMap Composite.bytes
    ++ flag s.agent.managed ++ optU8 (s.agent.manager.map (·.uplink.val))

/-- QUERY_WATCH: nothing but the answer changes (R166). -/
def cmdQueryWatch (s : State) : State := answer .ok (watchBody s) s

/-- QUERY_WATCH (R166). -/
def execQueryWatch (s : State) : Host.Outcome State Fault Refusal := gated s cmdQueryWatch

end Sys2Proof.Machine
end

