-- ==== Sys2Proof/Machine/Chassis.lean ====
section
/-! DEFINITION. The chassis requests: QUERY_CHASSIS, SET_MANAGERS and CLEAR (section 9.5). -/

namespace Sys2Proof.Machine

/-! ### QUERY_CHASSIS (R179) -/

/-- The current manager's address, uplink and tag, all ones when there is none (log 12). -/
def managerBytes : Option Manager → List Byte
  | some m => u48 m.addr.toNat ++ u8 m.uplink.val ++ optU16 (m.tag.map BitVec.toNat)
  | none => List.replicate 9 0xFF

/-- A list of addresses as a response carries it. -/
def addrList (l : List Addr) : List Byte := counted l fun a => u48 a.toNat

/-- The body of QUERY_CHASSIS. The part version code is 1. Table 11-1 gives no width for the largest free run, which
reaches 128: two bytes, as the free slots have; nor for the part version code, the strap value, the length of the event
queue, the two counts of condition entries and the length of the request queue: one byte each (log 12). No count
precedes the counters of the four uplinks (log 32). -/
def chassisBody (s : State) : List Byte :=
  flag s.agent.managed ++ managerBytes s.agent.manager
    ++ optU32 (s.agent.silenceTimer.map fun d => s.left d / 1000)
    ++ addrList s.agent.managers ++ u16 s.agent.silenceTimeout
    ++ u8 1 ++ u8 s.agent.straps.toNat ++ u32 s.seconds.toNat
    ++ u16 (freeSlots s) ++ u16 (largestFreeRun s) ++ u16 s.store.compactions
    ++ u8 s.events.queue.length ++ u8 s.events.limit ++ u16 s.events.lost
    ++ u8 s.conditions.length ++ u8 s.unacked ++ u8 s.agent.queue.length
    ++ s.uplinks.items.flatMap fun x => u32 x.counters.controlAccepted ++ u32 x.counters.controlRejected

/-- QUERY_CHASSIS: nothing but the answer changes (R179). -/
def cmdQueryChassis (s : State) : State := answer .ok (chassisBody s) s

/-- QUERY_CHASSIS (R179). -/
def execQueryChassis (s : State) : Host.Outcome State Fault Refusal := gated s cmdQueryChassis

/-! ### SET_MANAGERS (R180) -/

/-- The body of a SET_MANAGERS response. -/
def managersBody (s : State) : List Byte := addrList s.agent.managers ++ u16 s.agent.silenceTimeout

/-- A carried silence timeout, 0 or clamped to 5–600 s. -/
def clampSilence (timeout : Nat) : Nat := if timeout = 0 then 0 else clampNat 5 600 timeout

/-- The silence timer after a new timeout: stopped by 0, restarted while MANAGED, as it was while UNMANAGED. -/
def silenceAfter (timeout : Nat) (s : State) : Option Nat :=
  if timeout = 0 then none
  else if s.agent.managed then some (s.now + timeout * 1000)
  else s.agent.silenceTimer

/-- SET_MANAGERS: length, then the list's count and addresses, then the selected changes (R180). -/
def cmdSetManagers (sel count : Byte) (timeout : BitVec 16) (addrs : List Addr) (s : State) : State :=
  if addrs.length ≠ count.toNat then answer .badLength [] s
  else if sel.getLsbD 0 && (4 < count || addrs.any isGroup) then answer .badValue (managersBody s) s
  else
    let t := clampSilence timeout.toNat
    let s := { s with agent := { s.agent with
      managers := pick (sel.getLsbD 0) addrs s.agent.managers
      silenceTimeout := pick (sel.getLsbD 1) t s.agent.silenceTimeout
      silenceTimer := pick (sel.getLsbD 1) (silenceAfter t s) s.agent.silenceTimer } }
    answer (clampStatus (sel.getLsbD 1 && t ≠ timeout.toNat)) (managersBody s) s

/-- SET_MANAGERS (R180). -/
def execSetManagers (sel count : Byte) (timeout : BitVec 16) (addrs : List Addr) (s : State) :
    Host.Outcome State Fault Refusal :=
  gated s (cmdSetManagers sel count timeout addrs)

/-! ### CLEAR (R181) -/

/-- Scope STATIONS: every LEARNED station entry, which clears the full mark if one was removed (R147). -/
def clearStations (s : State) : State := dropStations Station.isLearned s

/-- A STATIC entry with its conflict mark none. -/
def Station.unmarked (e : Station) : Station :=
  match e.kind with
  | .fixed _ => { e with kind := .fixed none }
  | .learned _ => e

/-- Scope COUNTERS: the frame counters, the station counters and marks, the composites' hit counters and
total hits, and the sticky link error flags (Table 9-4). -/
def clearCounters (s : State) : State :=
  { s with
    bays := s.bays.map fun y => { y with counters := ⟨0, 0, 0, 0, 0, 0, 0, 0, 0⟩, sticky := .clear }
    supplies := s.supplies.map fun p => { p with sticky := .clear }
    uplinks := s.uplinks.map fun x => { x with counters := ⟨0, 0, 0, 0, 0, 0, 0, 0⟩ }
    stations := { s.stations with
      entries := s.stations.entries.map (Option.map Station.unmarked), learnFail := 0, moves := 0 }
    composites := s.composites.map fun c => { c with hitCounter := 0, totalHits := 0 } }

/-- Scope EVENTS: every queued event, and the lost count. -/
def clearEvents (s : State) : State := { s with events := { s.events with queue := [], lost := 0 } }

/-- CLEAR with the scopes of its bits; bits that name none are ignored, and the scopes cleared are reported
(R181). -/
def cmdClear (scopes : Byte) (s : State) : State :=
  let s := if scopes.getLsbD 0 then clearStations s else s
  let s := if scopes.getLsbD 1 then clearCounters s else s
  let s := if scopes.getLsbD 2 then clearEvents s else s
  answer .ok (u8 (scopes.toNat % 8)) s

/-- CLEAR with scope STATIONS (R181). -/
def execClearStations (s : State) : Host.Outcome State Fault Refusal := gated s (cmdClear 1)

/-- CLEAR with scope COUNTERS (R181). -/
def execClearCounters (s : State) : Host.Outcome State Fault Refusal := gated s (cmdClear 2)

/-- CLEAR with scope EVENTS (R181). -/
def execClearEvents (s : State) : Host.Outcome State Fault Refusal := gated s (cmdClear 4)

end Sys2Proof.Machine
end

