-- ==== Sys2Proof/Machine/Fans.lean ====
section
/-! DEFINITION. The fans (section 6.6): control period, tachometer windows, stall judgement, proving and
presence; and the thermal requests SET_ZONE, LOAD_CURVE and QUERY_THERMAL (section 6.7). -/

namespace Sys2Proof.Machine

/-! ### Control period (R114) -/

/-- A zone's control period timer expires: it restarts with the control period held now, and the zone is
updated. -/
def controlExpiry (z : ZoneIx) (s : State) : State :=
  let s := s.reach (s.zone z).controlTimer
  updateZone z (s.modZone z fun x => { x with controlTimer := s.now + x.settings.controlPeriod })

/-- CONTROL_PERIOD_EXPIRY (R114). -/
def execControlPeriodExpiry (z : ZoneIx) (s : State) : Host.Outcome State Fault Refusal :=
  gated s (controlExpiry z)

/-! ### Fan health (R119 to R123) -/

/-- The zone a fan belongs to: F0 and F1 to Z0, F2 and F3 to Z1, F4 and F5 to Z2. -/
def fanZone (f : FanIx) : ZoneIx := ⟨f.val / 2, by have := f.isLt; omega⟩

/-- A change of a fan between HEALTHY and any other state, handed on: the allocator recomputes L_z, and the
zone is updated at once (R123; the order is log 7). -/
def healthChanged (f : FanIx) (s : State) : State := updateZone (fanZone f) (recomputeLimit (fanZone f) s)

/-- A HEALTHY fan enters STALLED (R120). -/
def stallFan (f : FanIx) (s : State) : State :=
  let s := s.modFan f fun x => { x with health := .stalled, goodRun := 0, leftAs := some .stall }
  let s := raise .fanFault (.fan f) FanDetail.stall.code (s.fan f).rpm s
  healthChanged f (raiseCondition (.fanFault f) s)

/-- A proved fan enters HEALTHY (R121). -/
def restoreFan (f : FanIx) (s : State) : State :=
  let detail := (s.fan f).leftAs.elim 0 FanDetail.code
  let s := s.modFan f fun x => { x with health := .healthy, lowRun := 0, leftAs := none }
  let s := raise .fanRestored (.fan f) detail (s.fan f).rpm s
  healthChanged f (endCondition (.fanFault f) s)

/-- The judgement of a fan's window, with the zone output as it stood at the window's end (R120, R121). -/
def judgeFan (output : Nat) (f : FanIx) (s : State) : State :=
  let x := s.fan f
  let low := x.rpm < (s.zone (fanZone f)).settings.stall
  match x.health with
  | .healthy =>
    let run := if output < 200 then 0 else if low then x.lowRun + 1 else 0
    let s := s.modFan f fun x => { x with lowRun := run }
    if 3 ≤ run then stallFan f s else s
  | .stalled | .returning =>
    let run := if low then 0 else x.goodRun + 1
    let s := s.modFan f fun x => { x with goodRun := run }
    if 3 ≤ run then restoreFan f s else s
  | .absent => s

/-- A fan at the end of a window: its rpm is the pulse count × 30, and counting begins again (R119). -/
def Fan.endWindow (x : Fan) : Fan := { x with rpm := x.pulses * 30, pulses := 0 }

/-- The end of a tachometer window: all six fans are measured, then judged in ascending order against the
outputs of that moment (R119; log 7). -/
def windowEnd (s : State) : State :=
  let s := s.reach s.tachWindow
  let s := { s with tachWindow := s.now + 1000, fans := s.fans.map Fan.endWindow }
  let outputs := s.zones.map Zone.output
  allFans.foldl (fun t f => judgeFan (outputs.get (fanZone f)) f t) s

/-- TACH_WINDOW_END (R119). -/
def execTachWindowEnd (s : State) : Host.Outcome State Fault Refusal := gated s (change windowEnd)

/-- TACH_PULSE: the window's pulse count rises, saturating at 1023, in every health state (R119). -/
def execTachPulse (f : FanIx) (s : State) : Host.Outcome State Fault Refusal :=
  gated s fun s => s.modFan f fun x => { x with pulses := min (x.pulses + 1) 1023 }

/-! ### Fan presence (R118, R122) -/

/-- A fan's presence falls: ABSENT with both run counts 0; one leaving HEALTHY becomes unhealthy (R122). -/
def fanPulled (f : FanIx) (s : State) : State :=
  match (s.fan f).health with
  | .healthy =>
    healthChanged f (s.modFan f fun x =>
      { x with health := .absent, lowRun := 0, goodRun := 0, leftAs := some .absent })
  | .stalled | .returning => s.modFan f fun x => { x with health := .absent, lowRun := 0, goodRun := 0 }
  | .absent => s

/-- A fan's presence rises: an ABSENT fan is RETURNING with its good-window run count 0 (R122). -/
def fanSeated (f : FanIx) (s : State) : State :=
  if (s.fan f).health = .absent then s.modFan f fun x => { x with health := .returning, goodRun := 0 } else s

/-- A FAN_PRES sample: the presence level changes at three consecutive samples of the other level (R118). -/
def fanPresence (f : FanIx) (present : Bool) (s : State) : State :=
  let run := if present = (s.fan f).present then 0 else (s.fan f).presenceRun + 1
  if 3 ≤ run then
    let s := s.modFan f fun x => { x with present := present, presenceRun := 0 }
    if present then fanSeated f s else fanPulled f s
  else s.modFan f fun x => { x with presenceRun := run }

/-- FAN_PRESENCE_SAMPLE (R118). -/
def execFanPresenceSample (f : FanIx) (present : Bool) (s : State) : Host.Outcome State Fault Refusal :=
  gated s (change (fanPresence f present))

/-! ### SET_ZONE (R124, R125, R116) -/

/-- The settings of a zone in the order of Table 6-4. -/
def ZoneSettings.bytes (c : ZoneSettings) : List Byte :=
  u16 c.cooling0 ++ u16 c.cooling1 ++ u16 c.cooling2 ++ u16 c.critLimit ++ u16 c.minDuty ++ u16 c.failsafe
    ++ u16 c.missingDuty ++ u16 c.feedforward ++ u16 c.slewUp ++ u16 c.slewDown ++ u16 c.period
    ++ u16 c.controlPeriod ++ u16 c.stall

/-- The carried values in the order of Table 6-4. -/
def zoneValueList (v : ZoneValues) : List Nat :=
  [v.cooling0, v.cooling1, v.cooling2, v.critLimit, v.minDuty, v.failsafe, v.missingDuty, v.feedforward,
   v.slewUp, v.slewDown, v.period, v.controlPeriod, v.stall].map BitVec.toNat

/-- The ranges of Table 6-4, value by value. -/
def zoneRanges : List (Nat × Nat) :=
  [(0, 10000), (0, 10000), (0, 10000), (0, 10000), (0, 1000), (0, 1000), (0, 1000), (0, 1000), (1, 1000),
   (1, 1000), (10, 1000), (250, 5000), (100, 10000)]

/-- The clamped carried value `i` of Table 6-4. -/
def clampedValue (v : ZoneValues) (i : Nat) : Nat :=
  clampNat (zoneRanges.getD i (0, 0)).1 (zoneRanges.getD i (0, 0)).2 ((zoneValueList v).getD i 0)

/-- The row of Table 6-4 that value `i` stands in, which is its bit in the selection: the three cooling values are
one row (Table 11-4). -/
def zoneRow (i : Nat) : Nat := i - 2

/-- Some selected value is outside its range. -/
def anyClamped (sel : BitVec 16) (v : ZoneValues) : Bool :=
  (List.range 13).any fun i => sel.getLsbD (zoneRow i) && clampedValue v i ≠ (zoneValueList v).getD i 0

/-- The settings after a SET_ZONE: the selected rows take their clamped values. -/
def ZoneSettings.select (sel : BitVec 16) (v : ZoneValues) (c : ZoneSettings) : ZoneSettings :=
  let take := fun i kept => pick (sel.getLsbD (zoneRow i)) (clampedValue v i) kept
  { cooling0 := take 0 c.cooling0, cooling1 := take 1 c.cooling1, cooling2 := take 2 c.cooling2
    critLimit := take 3 c.critLimit, minDuty := take 4 c.minDuty, failsafe := take 5 c.failsafe
    missingDuty := take 6 c.missingDuty, feedforward := take 7 c.feedforward, slewUp := take 8 c.slewUp
    slewDown := take 9 c.slewDown, period := take 10 c.period, controlPeriod := take 11 c.controlPeriod
    stall := take 12 c.stall }

/-- A floor raised by a change of settings, 0 when none has been raised (R116). -/
def raisedFloor (managed : Bool) (old new : ZoneSettings) : Nat :=
  max (if old.minDuty < new.minDuty then new.minDuty else 0)
    (if !managed && old.failsafe < new.failsafe then new.failsafe else 0)

/-- A bay of the zone holds a power header whose floor is above a value (R124). -/
def floorAbove (z : ZoneIx) (watts : Nat) (s : State) : Bool :=
  allBays.any fun b => (s.bay b).settings.zone = z && (s.bay b).header.any fun h => watts < h.floorWatts

/-- The body of a SET_ZONE response (R125). Table 11-1 gives no width for C: two bytes (log 12). -/
def zoneBody (z : ZoneIx) (s : State) : List Byte :=
  let x := s.zone z
  x.settings.bytes ++ u16 x.limit ++ u16 x.output ++ u16 x.compare

/-- New settings for a zone, with the raised floor and the compare count, then L_z with its pass (R125). -/
def applyZone (z : ZoneIx) (new : ZoneSettings) (s : State) : State :=
  let managed := s.agent.managed
  recomputeLimit z (s.modZone z fun x =>
    { x with settings := new }.drive (max x.output (raisedFloor managed x.settings new)))

/-- SET_ZONE: index, clamps, the full-health cooling limit against the floors, then the changes (R124). -/
def cmdSetZone (zone : Byte) (sel : BitVec 16) (v : ZoneValues) (s : State) : State :=
  match toIx 3 zone.toNat with
  | none => answer .outOfRange [] s
  | some z =>
    let new := (s.zone z).settings.select sel v
    if sel.getLsbD 0 && floorAbove z new.cooling2 s then answer .badValue (zoneBody z s) s
    else
      let s := applyZone z new s
      answer (clampStatus (anyClamped sel v)) (zoneBody z s) s

/-- SET_ZONE (R124). -/
def execSetZone (zone : Byte) (sel : BitVec 16) (v : ZoneValues) (s : State) :
    Host.Outcome State Fault Refusal :=
  gated s (change (cmdSetZone zone sel v))

/-! ### LOAD_CURVE (R126) -/

/-- A carried point with its temperature and duty clamped. -/
def clampPoint (p : BitVec 16 × BitVec 16) : CurvePoint :=
  ⟨clampInt (-400) 1500 p.1.toInt, min p.2.toNat 1000⟩

/-- The temperatures are strictly increasing. -/
def increasing : List CurvePoint → Bool
  | p :: q :: rest => decide (p.temp < q.temp) && increasing (q :: rest)
  | _ => true

/-- A curve as its response carries it. -/
def curveBytes (c : List CurvePoint) : List Byte := counted c fun p => i16 p.temp ++ u16 p.duty

/-- LOAD_CURVE: length, index, count, then the clamped points' order (R126, R175). -/
def cmdLoadCurve (zone count : Byte) (points : List (BitVec 16 × BitVec 16)) (s : State) : State :=
  if points.length ≠ count.toNat then answer .badLength [] s
  else match toIx 3 zone.toNat with
    | none => answer .outOfRange [] s
    | some z =>
      let new := points.map clampPoint
      if count = 0 || 8 < count || !increasing new then answer .badValue (curveBytes (s.zone z).curve) s
      else
        let clamped := points.any fun p => (clampPoint p).temp ≠ p.1.toInt || (clampPoint p).duty ≠ p.2.toNat
        answer (clampStatus clamped) (curveBytes new) (s.modZone z fun x => { x with curve := new })

/-- LOAD_CURVE (R126). -/
def execLoadCurve (zone count : Byte) (points : List (BitVec 16 × BitVec 16)) (s : State) :
    Host.Outcome State Fault Refusal :=
  gated s (cmdLoadCurve zone count points)

/-! ### QUERY_THERMAL (R128) -/

/-- A channel's items. Table 11-1 gives no width for the last code, which has 12 bits: two bytes (log 12). -/
def channelBytes (x : Sensor) : List Byte :=
  x.settingBytes ++ u8 x.status.code ++ u16 x.lastCode.toNat ++ temp x.validReading

/-- The demand and contributions of a zone's last update, all none before its first (R115). -/
def contributionBytes (c : Option Contributions) : List Byte :=
  optU16 (c.map (·.demand)) ++ optU16 (c.bind (·.sensor)) ++ optU16 (c.bind (·.inlet))
    ++ optU8 (c.map (·.missing.toNat)) ++ optU16 (c.map (·.feedforward))

/-- A zone's items. The healthy fan count h has one byte here too (log 12). -/
def zoneQueryBytes (s : State) (z : ZoneIx) : List Byte :=
  let x := s.zone z
  u8 x.thermal.code ++ curveBytes x.curve ++ x.settings.bytes ++ u8 (healthyCount z s)
    ++ u16 x.output ++ u16 x.compare ++ contributionBytes x.lastUpdate
    ++ u16 (runningAlloc z s) ++ u32 (s.left x.controlTimer)

/-- A fan's items. -/
def fanBytes (x : Fan) : List Byte :=
  flag x.present ++ u8 x.health.code ++ u16 x.rpm ++ u8 x.lowRun ++ u8 x.goodRun

/-- The body of QUERY_THERMAL. The channels, zones and fans are groups of a fixed size, not lists, so that no count
precedes them; R193 does not say so (log 32). -/
def thermalBody (s : State) : List Byte :=
  flag s.agent.managed ++ s.sensors.items.flatMap channelBytes ++ allZones.flatMap (zoneQueryBytes s)
    ++ s.fans.items.flatMap fanBytes

/-- QUERY_THERMAL: nothing but the answer changes (R128). -/
def cmdQueryThermal (s : State) : State := answer .ok (thermalBody s) s

/-- QUERY_THERMAL (R128). -/
def execQueryThermal (s : State) : Host.Outcome State Fault Refusal := gated s cmdQueryThermal

end Sys2Proof.Machine
end

