-- ==== Sys2Proof/Config.lean ====
section
/-! DEFINITION. The free values: what the spec leaves open where a value results all the same. Each is a
constant with no body, so that nothing can be proved of the value it takes. -/

namespace Sys2Proof

/-- What a READ_STATIONS response reports as its next index when it returns no entry although
occupied entries remain at or above the first index asked for (a count of 0, or a frame without room).
R150 states the next index only for a response that returned an entry or read the table to its end.
Free value, applied to the state's count of draws: assumption log 10. -/
opaque Config.readStationsNextIndex : Nat → BitVec 16

/-- What a READ_STATIONS refused with BAD_VALUE carries as its next index: R175 gives it the body its
kind defines with no items, and no rule states the next index of such a body.
Free value, applied to the state's count of draws: assumption log 10. -/
opaque Config.readStationsRefusedNext : Nat → BitVec 16

end Sys2Proof
end

