-- ==== Sys2Proof/Machine/Stations.lean ====
section
/-! DEFINITION. The station table (sections 7.6 and 7.7): lookup, learning, aging and the station
requests. -/

namespace Sys2Proof.Machine

/-! ### Lookup (R142) -/

/-- The index of the entry that holds an address. -/
def locate (a : Addr) (t : StationTable) : Option StationIx :=
  (t.entries.items.findIdx? fun e => e.any fun x => x.addr = a).bind (toIx 256)

/-- The lowest free index. -/
def freeIndex (t : StationTable) : Option StationIx :=
  (t.entries.items.findIdx? Option.isNone).bind (toIx 256)

/-- The entry that holds an address, with its index. -/
def stationOf (a : Addr) (s : State) : Option (StationIx × Station) :=
  (locate a s.stations).bind fun i => (s.stations.entries.get i).map fun e => (i, e)

/-- The table with index `i` holding an entry. -/
def putStation (i : StationIx) (e : Station) (s : State) : State :=
  { s with stations := { s.stations with entries := s.stations.entries.set i (some e) } }

/-! ### Learning (R143 to R145) -/

/-- A failure to learn for want of a free index: counted, and STATION_FULL raised while the full mark is
clear (R143, R144). -/
def learnFailed (b : BayIx) (s : State) : State :=
  let n := sat32 s.stations.learnFail
  let marked := s.stations.fullMark
  let s := { s with stations := { s.stations with learnFail := n, fullMark := true } }
  if marked then s else raise .stationFull (.bay b) 0 n s

/-- A frame from bay `b` met a STATIC entry of another bay: STATION_CONFLICT unless the mark names `b`
already, and the mark set to `b` (R145). -/
def conflict (b : BayIx) (i : StationIx) (e : Station) (mark : Option BayIx) (s : State) : State :=
  if mark = some b then s
  else putStation i { e with kind := .fixed (some b) }
    (raise .stationConflict (.bay b) e.bay.val i.val s)

/-- Learning of a source address from bay `b` (Table 7-5): whether the frame meets a conflict, and the state
after. -/
def learn (b : BayIx) (a : Addr) (s : State) : Bool × State :=
  if isGroup a then (false, s)
  else match stationOf a s with
    | none =>
      match freeIndex s.stations with
      | some i => (false, putStation i ⟨a, b, .learned 0⟩ s)
      | none => (false, learnFailed b s)
    | some (i, e) =>
      match e.kind with
      | .learned _ =>
        let s := putStation i ⟨a, b, .learned 0⟩ s
        if e.bay = b then (false, s)
        else (false, { s with stations := { s.stations with moves := sat32 s.stations.moves } })
      | .fixed mark => if e.bay = b then (false, s) else (true, conflict b i e mark s)

/-! ### Aging (R146) -/

/-- The entry has passed its last interval: its age would become 2. -/
def Station.expires (e : Station) : Bool :=
  match e.kind with
  | .learned age => 1 ≤ age
  | .fixed _ => false

/-- An entry one interval older. -/
def Station.older (e : Station) : Station :=
  match e.kind with
  | .learned age => { e with kind := .learned (age + 1) }
  | .fixed _ => e

/-- The aging timer expires: entries that would reach age 2 are removed, the other LEARNED ones age by one,
and the timer restarts with the interval held now. -/
def agingExpiry (s : State) : State :=
  let s := dropStations Station.expires (s.reach s.stations.agingTimer)
  { s with stations := { s.stations with
      entries := s.stations.entries.map (Option.map Station.older)
      agingTimer := s.now + s.stations.agingInterval * 1000 } }

/-- AGING_TIMER_EXPIRY (R146). -/
def execAgingTimerExpiry (s : State) : Host.Outcome State Fault Refusal := gated s agingExpiry

/-! ### ADD_STATION (R148) -/

/-- The age of a LEARNED entry. -/
def Station.age (e : Station) : Option Nat :=
  match e.kind with
  | .learned age => some age
  | .fixed _ => none

/-- The higher of two ages, none for an entry without one. -/
def higherAge : Option Nat → Option Nat → Option Nat
  | none, a => a
  | m, none => m
  | some m, some a => some (max m a)

/-- The index of the LEARNED entry of the highest age, the lowest among equals. -/
def displaced (t : StationTable) : Option StationIx :=
  let ages := t.entries.items.map fun e => e.bind Station.age
  match ages.foldl higherAge none with
  | none => none
  | some top => (ages.findIdx? (· = some top)).bind (toIx 256)

/-- The index an ADD_STATION gives its entry, and whether a LEARNED entry is displaced there. -/
def stationSlot (a : Addr) (t : StationTable) : Option (StationIx × Bool) :=
  match locate a t with
  | some i => some (i, false)
  | none =>
    match freeIndex t with
    | some i => some (i, false)
    | none => (displaced t).map fun i => (i, true)

/-- ADD_STATION: the bay, the group bit, then a place for the STATIC entry (R148). A refusal reports no
index (log 12). -/
def cmdAddStation (a : Addr) (bay : Byte) (s : State) : State :=
  match toIx 14 bay.toNat with
  | none => answer .outOfRange [] s
  | some b =>
    if isGroup a then answer .badValue (optU8 none) s
    else match stationSlot a s.stations with
      | none => answer .full (optU8 none) s
      | some (i, displaces) =>
        let s := putStation i ⟨a, b, .fixed none⟩ s
        let s := { s with stations := { s.stations with fullMark := s.stations.fullMark && !displaces } }
        answer .ok (u8 i.val) s

/-- ADD_STATION (R148). -/
def execAddStation (a : Addr) (bay : Byte) (s : State) : Host.Outcome State Fault Refusal :=
  gated s (cmdAddStation a bay)

/-! ### REMOVE_STATION (R149) -/

/-- REMOVE_STATION: the entry that holds the address is removed, and the full mark cleared (R149). -/
def cmdRemoveStation (a : Addr) (s : State) : State :=
  match locate a s.stations with
  | none => answer .notPresent [] s
  | some i =>
    answer .ok [] { s with stations := { s.stations with
      entries := s.stations.entries.set i none, fullMark := false } }

/-- REMOVE_STATION (R149). -/
def execRemoveStation (a : Addr) (s : State) : Host.Outcome State Fault Refusal :=
  gated s (cmdRemoveStation a)

/-! ### READ_STATIONS (R150) -/

/-- The occupied entries at and above an index, each with its index, in index order. -/
def occupiedFrom (first : Nat) : Nat → List (Option Station) → List (Nat × Station)
  | _, [] => []
  | i, e :: rest =>
    match e with
    | some x => if first ≤ i then (i, x) :: occupiedFrom first (i + 1) rest else occupiedFrom first (i + 1) rest
    | none => occupiedFrom first (i + 1) rest

/-- An entry as its item (Table 11-6a). -/
def stationItem (p : Nat × Station) : List Byte :=
  u8 p.1 ++ u48 p.2.addr.toNat ++ u8 p.2.bay.val ++
    match p.2.kind with
    | .fixed mark => u8 0 ++ optU8 (mark.map (·.val))
    | .learned age => u8 1 ++ u8 age

/-- The next index a READ_STATIONS reports: 256 when no occupied entry is left, the index after the last one
returned, and otherwise a free value (R150; log 10). A read that ends exactly at the last occupied entry has read
the table to its end (log 27). -/
def nextStationIndex (returned left : List (Nat × Station)) (draw : Nat) : Nat :=
  if left.isEmpty then 256
  else match returned.getLast? with
    | some p => p.1 + 1
    | none => (Config.readStationsNextIndex draw).toNat

/-- READ_STATIONS with the room its body has (R150, R176). -/
def cmdReadStations (first count : BitVec 16) (room : Nat) (s : State) : State :=
  let drawn := { s with draws := s.draws + 1 }
  if 255 < first.toNat then
    answer .badValue (u16 0 ++ u16 (Config.readStationsRefusedNext s.draws).toNat) drawn
  else
    let all := occupiedFrom first.toNat 0 s.stations.entries.items
    let n := min count.toNat ((room - 4) / 10)
    let returned := all.take n
    let body := u16 returned.length ++ u16 (nextStationIndex returned (all.drop n) s.draws)
      ++ returned.flatMap stationItem
    answer (if returned.length = count.toNat then .ok else .truncated) body drawn

/-- READ_STATIONS as a record standing alone in its frame (R150; log 4). -/
def execReadStations (first count : BitVec 16) (s : State) : Host.Outcome State Fault Refusal :=
  gated s (cmdReadStations first count 1486)

end Sys2Proof.Machine
end

