-- ==== Sys2Proof/Machine/Forwarding.lean ====
section
/-! DEFINITION. The forwarding engine (chapter 7): frames from a bay port and from an uplink, the uplinks'
link reports and hold timers, and the requests SET_UPLINK, SET_GROUP and QUERY_TRAFFIC. -/

namespace Sys2Proof.Machine

/-! ### Upstream (R136, R137) -/

/-- The watch fields of a frame from bay `b` with active uplink `u` (Table 7-3). -/
def upstreamFields (b : BayIx) (u : UplinkIx) (f : Frame) (s : State) : WatchFields :=
  ⟨true, frameDst f, frameSrc f, (s.bay b).settings.group.val, frameLength f, (frameType f).toNat,
   some b.val, u.val⟩

/-- The frame as it goes up: with its group's tag, if the group has one (R137). -/
def upstreamFrame (b : BayIx) (f : Frame) (s : State) : Frame :=
  let tag := s.groups.get (s.bay b).settings.group
  if tag = 0 then f else insertTag tag f

/-- Steps 4 and 5 of Table 7-2 and the sending of a frame that passed steps 1 to 3 (R136, R137). -/
def sendUp (b : BayIx) (u : UplinkIx) (f : Frame) (s : State) : State :=
  match watch (upstreamFields b u f s) f s with
  | (true, s) => s.countBay b fun c => { c with watchDrop := sat32 c.watchDrop }
  | (false, s) =>
    match learn b (frameSrc f) s with
    | (true, s) => s.countBay b fun c => { c with stationConflict := sat32 c.stationConflict }
    | (false, s) => transmit u (upstreamFrame b f s) s

/-- A frame received on a bay port (R136). A port discards a frame that is not whole (R134). -/
def bayFrame (b : BayIx) (f : Frame) (s : State) : State :=
  if !frameWhole f then s
  else
    let s := s.countBay b fun c => { c with framesUp := sat32 c.framesUp }
    if !(s.bay b).state.forwarding then s.countBay b fun c => { c with blocked := sat32 c.blocked }
    else match (s.bay b).activeUplink with
      | none => s.countBay b fun c => { c with noUplink := sat32 c.noUplink }
      | some u =>
        if frameTagged f then s.countBay b fun c => { c with tagViolation := sat32 c.tagViolation }
        else sendUp b u f s

/-- BAY_PORT_FRAME (R136). -/
def execBayPortFrame (b : BayIx) (f : Frame) (s : State) : Host.Outcome State Fault Refusal :=
  gated s (change (bayFrame b f))

/-! ### Downstream (R138 to R141) -/

/-- The groups of a frame: those whose tag value is its tag value, an untagged frame counting as 0 (R138). -/
def groupSet (f : Frame) (s : State) : List GroupIx :=
  allGroups.filter fun g => s.groups.get g = ((frameTag f).getD 0).toNat

/-- The station entry of a unicast destination. -/
def destEntry (f : Frame) (s : State) : Option (StationIx × Station) :=
  if isGroup (frameDst f) then none else stationOf (frameDst f) s

/-- The watch fields of a frame on uplink `u` with a group set (Table 7-3). -/
def downstreamFields (u : UplinkIx) (f : Frame) (set : List GroupIx) (s : State) : WatchFields :=
  ⟨false, frameDst f, frameSrc f, (set.head?.map (·.val)).getD 0, frameLength f, (frameType f).toNat,
   (destEntry f s).map (·.2.bay.val), u.val⟩

/-- Delivery on a bay port, with the tag stripped (R140). -/
def deliver (f : Frame) (b : BayIx) (s : State) : State :=
  let s := s.countBay b fun c => { c with framesDown := sat32 c.framesDown }
  { s with sent := s.sent ++ [.bay b (stripTag f)] }

/-- A unicast frame for the bay its station entry names (R140). -/
def deliverTo (u : UplinkIx) (f : Frame) (set : List GroupIx) (b : BayIx) (s : State) : State :=
  if !(s.bay b).state.forwarding then s.countBay b fun c => { c with blocked := sat32 c.blocked }
  else if (s.bay b).activeUplink ≠ some u then
    s.countBay b fun c => { c with notActive := sat32 c.notActive }
  else if !set.contains (s.bay b).settings.group then
    s.countBay b fun c => { c with groupMismatch := sat32 c.groupMismatch }
  else deliver f b s

/-- The bays a flooded frame goes to (R141). -/
def floodBays (u : UplinkIx) (set : List GroupIx) (s : State) : List BayIx :=
  allBays.filter fun b => (s.bay b).state.forwarding && (s.bay b).activeUplink = some u
    && set.contains (s.bay b).settings.group

/-- A flooded frame (R141). The copies go out in ascending order of their bays (log 7). -/
def flood (u : UplinkIx) (f : Frame) (set : List GroupIx) (s : State) : State :=
  let bays := floodBays u set s
  if bays.isEmpty then s.countUplink u fun c => { c with noBay := sat32 c.noBay }
  else bays.foldl (fun s b => deliver f b s) s

/-- A frame that takes the groups of a set: the watch units, then delivery by its destination (R138). -/
def sendDown (u : UplinkIx) (f : Frame) (set : List GroupIx) (s : State) : State :=
  match watch (downstreamFields u f set s) f s with
  | (true, s) => s.countUplink u fun c => { c with watchDrop := sat32 c.watchDrop }
  | (false, s) =>
    match destEntry f s with
    | some (_, e) => deliverTo u f set e.bay s
    | none => flood u f set s

/-- The frame is addressed to the part: its station address or the control group address (R138). -/
def forThePart (f : Frame) (s : State) : Bool :=
  frameDst f = stationAddr s.agent.straps || frameDst f = controlGroupAddr

/-- A frame received on an uplink (R138). A port discards a frame that is not whole (R134) and delivers none
while its link is down (R130). -/
def linkFrame (u : UplinkIx) (f : Frame) (s : State) : State :=
  if !frameWhole f || !(s.uplink u).up then s
  else
    let s := s.countUplink u fun c => { c with framesIn := sat32 c.framesIn }
    if forThePart f s then
      if frameType f = controlType then judgeControl ⟨f, u⟩ s
      else s.countUplink u fun c => { c with ownAddress := sat32 c.ownAddress }
    else
      let set := groupSet f s
      if set.isEmpty then s.countUplink u fun c => { c with unknownGroup := sat32 c.unknownGroup }
      else sendDown u f set s

/-- UPLINK_FRAME (R138). -/
def execUplinkFrame (u : UplinkIx) (f : Frame) (s : State) : Host.Outcome State Fault Refusal :=
  gated s (change (linkFrame u f))

/-! ### Link reports and hold timers (R130, R133) -/

/-- A link status report: a rise on a DOWN uplink, a fall on an UP one, and otherwise nothing (R130). -/
def linkReport (u : UplinkIx) (up : Bool) (s : State) : State :=
  if up = (s.uplink u).up then s else if up then uplinkRise u s else uplinkFall u s

/-- UPLINK_LINK_REPORT (R130). -/
def execUplinkLinkReport (u : UplinkIx) (up : Bool) (s : State) : Host.Outcome State Fault Refusal :=
  gated s (change (linkReport u up))

/-- The hold timer of an UP uplink expires: its failback is made (R133). -/
def holdExpiry (u : UplinkIx) (s : State) : State :=
  match (s.uplink u).holdTimer with
  | some d =>
    let s := (s.reach d).modUplink u fun x => { x with holdTimer := none }
    if (s.uplink u).up then failback u s else s
  | none => s

/-- HOLD_TIMER_EXPIRY (R133). -/
def execHoldTimerExpiry (u : UplinkIx) (s : State) : Host.Outcome State Fault Refusal :=
  gated s (change (holdExpiry u))

/-! ### SET_UPLINK and SET_GROUP (R151, R152) -/

/-- The counters of an uplink in the order of Table 7-6. -/
def UplinkCounters.bytes (c : UplinkCounters) : List Byte :=
  u32 c.framesIn ++ u32 c.framesOut ++ u32 c.controlAccepted ++ u32 c.controlRejected ++ u32 c.ownAddress
    ++ u32 c.unknownGroup ++ u32 c.watchDrop ++ u32 c.noBay

/-- An uplink's record in the order of Table 7-1. R152 and R154 name no unit for the time left on the hold timer: it
is in seconds, as the hold is (log 28), rounded down (log 12). -/
def uplinkBytes (s : State) (x : Uplink) : List Byte :=
  flag x.up ++ flag x.trusted ++ u16 x.hold ++ optU32 (x.holdTimer.map fun d => s.left d / 1000)
    ++ x.counters.bytes

/-- The body of a SET_UPLINK response. -/
def setUplinkBody (u : UplinkIx) (s : State) : List Byte :=
  uplinkBytes s (s.uplink u) ++ u16 s.stations.agingInterval

/-- Every uplink but this one is untrusted. -/
def lastTrusted (u : UplinkIx) (s : State) : Bool := allUplinks.all fun w => w = u || !(s.uplink w).trusted

/-- SET_UPLINK: index, code, the last trusted uplink, then the selected settings with their clamps (R152). -/
def cmdSetUplink (uplink sel trusted : Byte) (hold aging : BitVec 16) (s : State) : State :=
  match toIx 4 uplink.toNat with
  | none => answer .outOfRange [] s
  | some u =>
    match if sel.getLsbD 0 then onOff trusted else some (s.uplink u).trusted with
    | none => answer .badValue (setUplinkBody u s) s
    | some on =>
      if sel.getLsbD 0 && !on && lastTrusted u s then answer .badValue (setUplinkBody u s) s
      else
        let h := clampNat 0 600 hold.toNat
        let a := clampNat 10 3600 aging.toNat
        let clamped := (sel.getLsbD 1 && h ≠ hold.toNat) || (sel.getLsbD 2 && a ≠ aging.toNat)
        let s := s.modUplink u fun x => { x with trusted := on, hold := pick (sel.getLsbD 1) h x.hold }
        let interval := pick (sel.getLsbD 2) a s.stations.agingInterval
        let s := { s with stations := { s.stations with agingInterval := interval } }
        answer (clampStatus clamped) (setUplinkBody u s) s

/-- SET_UPLINK (R152). -/
def execSetUplink (uplink sel trusted : Byte) (hold aging : BitVec 16) (s : State) :
    Host.Outcome State Fault Refusal :=
  gated s (cmdSetUplink uplink sel trusted hold aging)

/-- The group table as a response carries it: sixteen values, with no count before them (log 32). -/
def groupBytes (s : State) : List Byte := s.groups.items.flatMap u16

/-- SET_GROUP: index, tag value, then the entry (R151). -/
def cmdSetGroup (group : Byte) (tag : BitVec 16) (s : State) : State :=
  match toIx 16 group.toNat with
  | none => answer .outOfRange [] s
  | some g =>
    if 4094 < tag.toNat then answer .badValue (groupBytes s) s
    else
      let s := { s with groups := s.groups.set g tag.toNat }
      answer .ok (groupBytes s) s

/-- SET_GROUP (R151). -/
def execSetGroup (group : Byte) (tag : BitVec 16) (s : State) : Host.Outcome State Fault Refusal :=
  gated s (cmdSetGroup group tag)

/-! ### QUERY_TRAFFIC (R154) -/

/-- The counters of a bay in the order of Table 7-6. -/
def BayCounters.bytes (c : BayCounters) : List Byte :=
  u32 c.framesUp ++ u32 c.framesDown ++ u32 c.blocked ++ u32 c.noUplink ++ u32 c.tagViolation
    ++ u32 c.watchDrop ++ u32 c.stationConflict ++ u32 c.notActive ++ u32 c.groupMismatch

/-- A bay's items in QUERY_TRAFFIC. -/
def trafficBay (y : Bay) : List Byte :=
  u8 y.state.code ++ u8 y.settings.group.val ++ u8 y.settings.primary.val
    ++ optU8 (y.settings.alternate.map (·.val)) ++ optU8 (y.activeUplink.map (·.val)) ++ y.counters.bytes

/-- The station table's items in QUERY_TRAFFIC. Table 11-1 gives no width for the numbers of entries, which reach
256: two bytes each (log 12). -/
def trafficStations (s : State) : List Byte :=
  let held := s.stations.entries.items.filterMap id
  let learned := (held.filter Station.isLearned).length
  u16 held.length ++ u16 (held.length - learned) ++ u16 learned ++ flag s.stations.fullMark
    ++ u32 s.stations.learnFail ++ u32 s.stations.moves ++ u16 s.stations.agingInterval
    ++ u32 (s.left s.stations.agingTimer / 1000)

/-- The body of QUERY_TRAFFIC: no count before the uplinks and the bays (log 32). -/
def trafficBody (s : State) : List Byte :=
  s.uplinks.items.flatMap (uplinkBytes s) ++ s.bays.items.flatMap trafficBay ++ groupBytes s ++ trafficStations s

/-- QUERY_TRAFFIC: nothing but the answer changes (R154). -/
def cmdQueryTraffic (s : State) : State := answer .ok (trafficBody s) s

/-- QUERY_TRAFFIC (R154). -/
def execQueryTraffic (s : State) : Host.Outcome State Fault Refusal := gated s cmdQueryTraffic

end Sys2Proof.Machine
end

