-- ==== Sys2Proof/Machine/PowerRequests.lean ====
section
/-! DEFINITION. The power requests: SET_SUPPLY, SET_POWER_POLICY and QUERY_POWER (section 4.10), and SET_RAMP
(section 5.5). -/

namespace Sys2Proof.Machine

/-! ### SET_SUPPLY (R85) -/

/-- The body of a SET_SUPPLY response. -/
def supplyBody (i : SupIx) (s : State) : List Byte :=
  let p := s.supply i
  u8 p.state.code ++ u16 p.override ++ u16 p.counted ++ u16 s.alloc.budget

/-- SET_SUPPLY: index, then the clamped override with c_i and B recomputed (R85). -/
def cmdSetSupply (supply : Byte) (override : BitVec 16) (s : State) : State :=
  match toIx 6 supply.toNat with
  | none => answer .outOfRange [] s
  | some i =>
    let s := s.modSupply i fun p => { p with override := min override.toNat 4000 }
    let s := recomputeBudget (recount i s)
    answer (clampStatus (4000 < override.toNat)) (supplyBody i s) s

/-- SET_SUPPLY (R85). -/
def execSetSupply (supply : Byte) (override : BitVec 16) (s : State) : Host.Outcome State Fault Refusal :=
  gated s (change (cmdSetSupply supply override))

/-! ### SET_POWER_POLICY (R86) -/

/-- The body of a SET_POWER_POLICY response. -/
def policyBody (s : State) : List Byte :=
  u8 s.alloc.mode.code ++ u16 s.alloc.overhead ++ u16 s.alloc.capTimeout ++ u16 s.alloc.raw
    ++ u16 s.alloc.budget

/-- SET_POWER_POLICY: the mode's code, then the selected settings, with B recomputed at a change of mode or
overhead (R86). -/
def cmdSetPowerPolicy (sel mode : Byte) (overhead capTimeout : BitVec 16) (s : State) : State :=
  match if sel.getLsbD 0 then RedundancyMode.ofCode mode else some s.alloc.mode with
  | none => answer .badValue (policyBody s) s
  | some m =>
    let watts := min overhead.toNat 3000
    let time := clampNat 1 60 capTimeout.toNat
    let clamped := (sel.getLsbD 1 && watts ≠ overhead.toNat) || (sel.getLsbD 2 && time ≠ capTimeout.toNat)
    let old := s.alloc
    let s := { s with alloc := { old with
      mode := m
      overhead := pick (sel.getLsbD 1) watts old.overhead
      capTimeout := pick (sel.getLsbD 2) time old.capTimeout } }
    let s := if s.alloc.mode ≠ old.mode || s.alloc.overhead ≠ old.overhead then recomputeBudget s else s
    answer (clampStatus clamped) (policyBody s) s

/-- SET_POWER_POLICY (R86). -/
def execSetPowerPolicy (sel mode : Byte) (overhead capTimeout : BitVec 16) (s : State) :
    Host.Outcome State Fault Refusal :=
  gated s (change (cmdSetPowerPolicy sel mode overhead capTimeout))

/-! ### QUERY_POWER (R87) -/

/-- A supply's items. -/
def supplyItems (p : Supply) : List Byte :=
  u8 p.state.code ++ optU16 p.highLine ++ optU16 p.lowLine ++ u16 p.override ++ flag p.lineLow ++ flag p.dcOk
    ++ u16 p.counted ++ u8 p.sticky.code

/-- A zone's items. Table 11-1 gives no width for the healthy fan count h: one byte (log 12). -/
def zonePowerItems (s : State) (z : ZoneIx) : List Byte :=
  u16 (s.zone z).limit ++ u16 (allocated (some z) s) ++ i16 (headroom (some z) s) ++ u8 (healthyCount z s)
    ++ u8 (s.zone z).thermal.code

/-- The items of a bay with a nonzero allocation. -/
def allocItems (s : State) (b : BayIx) : List Byte :=
  let y := s.bay b
  u8 b.val ++ u8 y.state.code ++ u16 y.alloc ++ optU16 y.lastDecided ++ optU16 y.applied
    ++ flag y.capTimer.isSome

/-- The body of QUERY_POWER: no count before the six supplies and the three zones (log 32). -/
def powerBody (s : State) : List Byte :=
  u16 s.alloc.budget ++ u16 s.alloc.raw ++ u16 s.alloc.overhead ++ u8 s.alloc.mode.code
    ++ u16 s.alloc.capTimeout ++ s.supplies.items.flatMap supplyItems
    ++ u16 (allocated none s) ++ i16 (headroom none s) ++ allZones.flatMap (zonePowerItems s)
    ++ counted s.alloc.waiting (fun b => u8 b.val ++ u8 (s.bay b).settings.priority ++ u16 (s.bay b).need)
    ++ counted s.ramp.queue (fun b => u8 b.val ++ u16 (s.bay b).alloc)
    ++ counted (allBays.filter fun b => (s.bay b).alloc ≠ 0) (allocItems s)

/-- QUERY_POWER: nothing but the answer changes (R87). -/
def cmdQueryPower (s : State) : State := answer .ok (powerBody s) s

/-- QUERY_POWER (R87). -/
def execQueryPower (s : State) : Host.Outcome State Fault Refusal := gated s cmdQueryPower

/-! ### SET_RAMP (R104) -/

/-- The bay a RAMPING channel holds. -/
def ChannelState.bay : ChannelState → Option BayIx
  | .ramping b => some b
  | .idle | .settling => none

/-- The body of a SET_RAMP response. Table 11-1 gives no width for the present IREF code, which R90 calls an 8-bit code:
one byte, though the class codes before it have the two of their request (log 12). No count precedes the four class
codes (log 32). -/
def rampBody (s : State) : List Byte :=
  s.ramp.classCodes.items.flatMap u16 ++ u16 s.ramp.rampTimeout ++ u16 s.ramp.settleTime
    ++ u16 s.ramp.stopTimeout ++ u16 s.ramp.shedGrace ++ u8 s.ramp.state.code
    ++ optU8 (s.ramp.state.bay.map (·.val)) ++ u8 s.ramp.iref

/-- The carried values with their ranges, in the order of the request's selection (Table 5-5). -/
def rampRanges (c0 c1 c2 c3 rampTimeout settle stopTimeout shedGrace : BitVec 16) :
    List (BitVec 16 × Nat × Nat) :=
  [(c0, 0, 255), (c1, 0, 255), (c2, 0, 255), (c3, 0, 255), (rampTimeout, 100, 5000), (settle, 0, 2000),
   (stopTimeout, 10, 600), (shedGrace, 5, 300)]

/-- Some selected value is outside its range. -/
def rampClamped (sel : Byte) (l : List (BitVec 16 × Nat × Nat)) : Bool :=
  (List.range 8).any fun i =>
    let v := l.getD i (0, 0, 0)
    sel.getLsbD i && clampNat v.2.1 v.2.2 v.1.toNat ≠ v.1.toNat

/-- SET_RAMP: every selected value is changed, clamped to its range; nothing is started, stopped or granted
(R103, R104). -/
def cmdSetRamp (sel : Byte) (c0 c1 c2 c3 rampTimeout settle stopTimeout shedGrace : BitVec 16) (s : State) :
    State :=
  let r := s.ramp
  let codes := r.classCodes
  let code := fun (i : ClassIx) (c : BitVec 16) => pick (sel.getLsbD i.val) (min c.toNat 255) (codes.get i)
  let s := { s with ramp := { r with
    classCodes := ⟨[code 0 c0, code 1 c1, code 2 c2, code 3 c3], rfl⟩
    rampTimeout := pick (sel.getLsbD 4) (clampNat 100 5000 rampTimeout.toNat) r.rampTimeout
    settleTime := pick (sel.getLsbD 5) (clampNat 0 2000 settle.toNat) r.settleTime
    stopTimeout := pick (sel.getLsbD 6) (clampNat 10 600 stopTimeout.toNat) r.stopTimeout
    shedGrace := pick (sel.getLsbD 7) (clampNat 5 300 shedGrace.toNat) r.shedGrace } }
  answer (clampStatus (rampClamped sel (rampRanges c0 c1 c2 c3 rampTimeout settle stopTimeout shedGrace)))
    (rampBody s) s

/-- SET_RAMP (R104). -/
def execSetRamp (sel : Byte) (c0 c1 c2 c3 rampTimeout settle stopTimeout shedGrace : BitVec 16) (s : State) :
    Host.Outcome State Fault Refusal :=
  gated s (cmdSetRamp sel c0 c1 c2 c3 rampTimeout settle stopTimeout shedGrace)

end Sys2Proof.Machine
end

