-- ==== Sys2Proof/Machine/ReadIdentity.lean ====
section
/-! DEFINITION. READ_IDENTITY (section 3.4). -/

namespace Sys2Proof.Machine

/-- The state of an owner's inventory record. -/
def recordOf (o : Owner) (s : State) : Option RecordState :=
  match o with
  | .bay b => (s.bay b).record
  | .supply i => (s.supply i).record

/-- The owner a subject class and index name: none for an unknown class, `some none` for an index beyond the
class's count (R55). -/
def ownerOf (cls index : Byte) : Option (Option Owner) :=
  if cls = 1 then some ((toIx 14 index.toNat).map .bay)
  else if cls = 2 then some ((toIx 6 index.toNat).map .supply)
  else none

/-- The slots of an owner's record in order, with the index of the first. -/
def recordSlots (o : Owner) (s : State) : Option (Nat × List Slot) :=
  (recordStart o s).map fun start =>
    (start, (s.store.slots.items.drop start).take (recordLength o start s))

/-- A block as its item (Table 11-6a). -/
def blockItem (x : Slot) : List Byte := u8 x.block ++ flag (decide (x.content = .valid)) ++ x.data

/-- The body of a refused READ_IDENTITY: no record state and no blocks (R55). -/
def noIdentity : List Byte := optU8 none ++ optU8 none ++ u8 0 ++ u8 0

/-- The answer to a READ_IDENTITY that passed its checks (R56). -/
def readRecord (o : Owner) (st : RecordState) (first count : Nat) (room : Nat) (s : State) : State :=
  match st, recordSlots o s with
  | .notStored, _ | _, none => answer .ok (u8 st.code ++ optU8 none ++ u8 0 ++ u8 0) s
  | .complete, some (start, slots) | .partialRecord, some (start, slots) =>
    let blocks := (slots.drop first).take (min count ((room - 4) / 18))
    answer (if blocks.length = count then .ok else .truncated)
      (u8 st.code ++ u8 start ++ u8 blocks.length ++ u8 0 ++ blocks.flatMap blockItem) s

/-- READ_IDENTITY with the room its body has: class, index, first block, read in flight, record (R55, R56). -/
def cmdReadIdentity (cls index first count : Byte) (room : Nat) (s : State) : State :=
  match ownerOf cls index with
  | none => answer .badValue noIdentity s
  | some none => answer .outOfRange [] s
  | some (some o) =>
    if 11 < first then answer .badValue noIdentity s
    else if (readOf o s).isSome then answer .busy noIdentity s
    else match recordOf o s with
      | none => answer .notPresent noIdentity s
      | some st => readRecord o st first.toNat count.toNat room s

/-- READ_IDENTITY as a record standing alone in its frame (R55; log 4). -/
def execReadIdentity (cls index first count : Byte) (s : State) : Host.Outcome State Fault Refusal :=
  gated s (cmdReadIdentity cls index first count 1486)

end Sys2Proof.Machine
end

