-- ==== Sys2Proof/Machine/Agent.lean ====
section
/-! DEFINITION. The execution of control frames (section 9.3): the request kinds with their bodies
(Table 11-4), the judgement of header and records, and the response frame. -/

namespace Sys2Proof.Machine

/-! ### Request kinds (Table 11-4) -/

/-- The request kinds of the catalogue. -/
inductive Kind where
  | queryChassis | setManagers | clear | queryBay | setBay | bayAction | readIdentity | setSupply
  | setPowerPolicy | queryPower | setRamp | setZone | loadCurve | setSensor | queryThermal | setUplink
  | setGroup | addStation | removeStation | readStations | queryTraffic | setWatch | setComposite
  | armComposite | queryWatch | readEvents | readConditions | ackCondition | setEventLimit
  deriving DecidableEq, Repr

/-- The kind codes. -/
def kindCodes : List (Nat × Kind) :=
  [(0x01, .queryChassis), (0x02, .setManagers), (0x03, .clear), (0x10, .queryBay), (0x11, .setBay),
   (0x12, .bayAction), (0x18, .readIdentity), (0x20, .setSupply), (0x21, .setPowerPolicy),
   (0x22, .queryPower), (0x28, .setRamp), (0x30, .setZone), (0x31, .loadCurve), (0x32, .setSensor),
   (0x33, .queryThermal), (0x40, .setUplink), (0x41, .setGroup), (0x42, .addStation),
   (0x43, .removeStation), (0x44, .readStations), (0x45, .queryTraffic), (0x50, .setWatch),
   (0x51, .setComposite), (0x52, .armComposite), (0x53, .queryWatch), (0x60, .readEvents),
   (0x61, .readConditions), (0x62, .ackCondition), (0x63, .setEventLimit)]

/-- The kind of a code. -/
def Kind.ofCode (b : Byte) : Option Kind := (kindCodes.find? fun p => p.1 = b.toNat).map (·.2)

/-- The correct body length of a kind, computed from the count a list body carries. -/
def Kind.bodyLength (k : Kind) (body : List Byte) : Nat :=
  match k with
  | .queryChassis | .queryPower | .queryThermal | .queryTraffic | .queryWatch | .readConditions => 0
  | .clear | .queryBay | .armComposite | .readEvents | .setEventLimit => 1
  | .bayAction | .ackCondition => 2
  | .readIdentity | .setSupply | .setGroup | .readStations => 4
  | .setPowerPolicy | .removeStation => 6
  | .setUplink | .addStation | .setComposite => 8
  | .setBay => 9
  | .setSensor => 12
  | .setRamp | .setWatch => 18
  | .setZone => 30
  | .setManagers => 4 + 6 * (byteAt body 1).toNat
  | .loadCurve => 2 + 4 * (byteAt body 1).toNat

/-- The length of a kind's response body holding no items (R176). -/
def Kind.smallest : Kind → Nat
  | .queryChassis => 68
  | .setManagers => 3
  | .clear => 1
  | .queryBay => 32
  | .setBay => 7
  | .bayAction => 1
  | .readIdentity => 4
  | .setSupply => 7
  | .setPowerPolicy => 9
  | .queryPower => 112
  | .setRamp => 19
  | .setZone => 32
  | .loadCurve => 1
  | .setSensor => 13
  | .queryThermal => 361
  | .setUplink => 42
  | .setGroup => 32
  | .addStation => 1
  | .removeStation => 0
  | .readStations => 4
  | .queryTraffic => 787
  | .setWatch => 16
  | .setComposite => 16
  | .armComposite => 16
  | .queryWatch => 162
  | .readEvents => 4
  | .readConditions => 4
  | .ackCondition => 6
  | .setEventLimit => 4

/-- A request of a kind with its body, carried out with the room its response body has (Table 11-4). -/
def Kind.run (k : Kind) (l : List Byte) (room : Nat) (s : State) : State :=
  let b := byteAt l
  let w := wordAt l
  match k with
  | .queryChassis => cmdQueryChassis s
  | .setManagers => cmdSetManagers (b 0) (b 1) (w 2) (addrsAt l 4 (b 1).toNat) s
  | .clear => cmdClear (b 0) s
  | .queryBay => cmdQueryBay (b 0) s
  | .setBay => cmdSetBay (b 0) (b 1) (b 2) (b 3) (b 4) (b 5) (b 6) (b 7) (b 8) s
  | .bayAction => cmdBayAction (b 0) (b 1) s
  | .readIdentity => cmdReadIdentity (b 0) (b 1) (b 2) (b 3) room s
  | .setSupply => cmdSetSupply (b 0) (w 2) s
  | .setPowerPolicy => cmdSetPowerPolicy (b 0) (b 1) (w 2) (w 4) s
  | .queryPower => cmdQueryPower s
  | .setRamp => cmdSetRamp (b 0) (w 2) (w 4) (w 6) (w 8) (w 10) (w 12) (w 14) (w 16) s
  | .setZone => cmdSetZone (b 0) (w 2) (zoneValuesAt l 4) s
  | .loadCurve => cmdLoadCurve (b 0) (b 1) (pointsAt l 2 (b 1).toNat) s
  | .setSensor => cmdSetSensor (b 0) (b 1) (w 2) (w 4) (b 6) (w 7) (w 9) (b 11) s
  | .queryThermal => cmdQueryThermal s
  | .setUplink => cmdSetUplink (b 0) (b 1) (b 2) (w 4) (w 6) s
  | .setGroup => cmdSetGroup (b 0) (w 2) s
  | .addStation => cmdAddStation (addrAt l 0) (b 6) s
  | .removeStation => cmdRemoveStation (addrAt l 0) s
  | .readStations => cmdReadStations (w 0) (w 2) room s
  | .queryTraffic => cmdQueryTraffic s
  | .setWatch => cmdSetWatch (b 0) (b 1) (b 2) (b 3) (b 4) (addrAt l 6) (addrAt l 12) s
  | .setComposite => cmdSetComposite (b 0) (b 1) (b 2) (b 3) (b 4) (w 6) s
  | .armComposite => cmdArmComposite (b 0) s
  | .queryWatch => cmdQueryWatch s
  | .readEvents => cmdReadEvents (b 0) room s
  | .readConditions => cmdReadConditions room s
  | .ackCondition => cmdAckCondition (b 0) (b 1) s
  | .setEventLimit => cmdSetEventLimit (b 0) s

/-! ### Records (R174, R176) -/

/-- A request record as parsed. -/
structure Record where
  kind : Byte
  tag : BitVec 16
  body : List Byte
  deriving DecidableEq, Repr

/-- The record at an offset of a payload, none where its fixed fields or its body run past the end (R174). -/
def recordAt (p : List Byte) (offset : Nat) : Option Record :=
  let len := (wordAt p (offset + 4)).toNat
  if offset + 6 ≤ p.length && offset + 6 + len ≤ p.length then
    some ⟨byteAt p offset, wordAt p (offset + 2), (p.drop (offset + 6)).take len⟩
  else none

/-- The smallest response body a record can be given (R176). -/
def Record.smallest (r : Record) : Nat :=
  match Kind.ofCode r.kind with
  | some k => if r.body.length = k.bodyLength r.body then k.smallest else 0
  | none => 0

/-- A record judged and executed: BAD_KIND, BAD_LENGTH, or under its owning rule (R174). -/
def Record.execute (r : Record) (room : Nat) (s : State) : State :=
  match Kind.ofCode r.kind with
  | none => answer .badKind [] s
  | some k => if r.body.length = k.bodyLength r.body then k.run r.body room s else answer .badLength [] s

/-- The response record of an answer (Table 11-3a). -/
def Record.response (r : Record) (a : Answer) : List Byte :=
  [r.kind] ++ u8 a.status.code ++ u16 r.tag.toNat ++ u16 a.body.length ++ a.body

/-! ### The response frame (R173, R177, R194) -/

/-- The response to a control frame, handed over on its arrival uplink; no frame is in execution then. -/
def respond (c : ControlFrame) (bad : Bool) (sequence : BitVec 16) (answered : Nat) (records : List Byte)
    (s : State) : State :=
  let payload := [1, 1, 0] ++ flag bad ++ u16 sequence.toNat ++ u8 answered ++ u8 0 ++ records
  let f := agentFrame (frameSrc c.frame) (stationAddr s.agent.straps) (frameTag c.frame) payload
  transmit c.uplink f { s with agent := { s.agent with execution := none } }

/-- Processing of the frame in execution ends (R172). -/
def finish (x : Execution) (s : State) : State :=
  respond x.control false (wordAt (framePayload x.control.frame) 4) x.answered x.records s

/-- Stop-on-error is set in the frame's flags (R173). -/
def Execution.stopOnError (x : Execution) : Bool := (byteAt (framePayload x.control.frame) 2).getLsbD 0

/-- The record count of the frame's header. -/
def Execution.count (x : Execution) : Nat := (byteAt (framePayload x.control.frame) 6).toNat

/-- The execution after a record has been answered. -/
def Execution.next (x : Execution) (r : Record) (a : Answer) : Execution :=
  { x with offset := x.offset + 6 + r.body.length, answered := x.answered + 1
           records := x.records ++ r.response a }

/-- The execution goes on after an answer, or ends with it (R173, R174). -/
def afterRecord (x : Execution) (st : Status) (s : State) : State :=
  if x.answered = x.count || (x.stopOnError && st.stops) then finish x s
  else { s with agent := { s.agent with execution := some x } }

/-- The turn of a frame in execution: its next record is executed as one change and answered, or processing
ends where no record can be parsed or no room is left for one (R172, R174, R176; log 13). A record whose smallest
response fits and whose answer does not is taken as one without room: it has no effect and no answer (log 26). -/
def runRecord (x : Execution) (s : State) : State :=
  let room := 1500 - 8 - x.records.length
  match recordAt (framePayload x.control.frame) x.offset with
  | none => finish x s
  | some r =>
    if room < 6 + r.smallest then finish x s
    else
      let t := change (r.execute (room - 6)) s
      match t.answer with
      | none => finish x s
      | some a => if room < 6 + a.body.length then finish x s else afterRecord (x.next r a) a.status t

/-- A control frame leaves the queue: its header is judged, and its first record has its turn (R172, R173). -/
def beginFrame (c : ControlFrame) (s : State) : State :=
  let p := framePayload c.frame
  let count := (byteAt p 6).toNat
  if p.length < 8 then respond c true 0 0 [] s
  else if byteAt p 0 ≠ 1 || count = 0 || 32 < count then respond c true (wordAt p 4) 0 [] s
  else
    let x : Execution := ⟨c, 8, 0, []⟩
    runRecord x { s with agent := { s.agent with execution := some x } }

/-- One turn of the agent: the frame in execution has a turn, or else the head of the request queue is taken
(R172; log 13). -/
def agentTurn (s : State) : State :=
  match s.agent.execution, s.agent.queue with
  | some x, _ => runRecord x s
  | none, c :: rest => beginFrame c { s with agent := { s.agent with queue := rest } }
  | none, [] => s

/-- CONTROL_FRAME_EXECUTION (R172). -/
def execControlFrameExecution (s : State) : Host.Outcome State Fault Refusal := gated s agentTurn

end Sys2Proof.Machine
end

