-- ==== Sys2Proof/Machine/BayEvents.lean ====
section
/-! DEFINITION. The events of the bays: presence, attention and power-good samples, and the expiries of the
ramp, settle, stop, shed and cap timers. -/

namespace Sys2Proof.Machine

/-! ### Presence (R10 to R12) -/

/-- The run counts and the line at a presence sample. -/
def Bay.samplePresence (present : Bool) (y : Bay) : Bay :=
  { y with presenceLine := some present
           presentRun := if present then y.presentRun + 1 else 0
           absentRun := if present then 0 else y.absentRun + 1 }

/-- A presence sample: EMPTY to SETTLING at a present one, SETTLING to IDENT at the 20th consecutive one and
back to EMPTY at an absent one, and in every other state removal at the second consecutive absent one. -/
def presence (b : BayIx) (present : Bool) (s : State) : State :=
  let s := s.modBay b (Bay.samplePresence present)
  match (s.bay b).state with
  | .empty => if present then setState b .settling (s.modBay b fun y => { y with presentRun := 1 }) else s
  | .settling =>
    if present then
      if 20 ≤ (s.bay b).presentRun then raise .bayInserted (.bay b) 0 0 (enterIdent b s) else s
    else enterEmpty b s
  | .ident | .off | .waiting | .admitted | .powering | .online | .stopping | .shedding | .fault =>
    if 2 ≤ (s.bay b).absentRun then removeBlade b s else s

/-- PRESENCE_SAMPLE (R10). -/
def execPresenceSample (b : BayIx) (present : Bool) (s : State) : Host.Outcome State Fault Refusal :=
  gated s (change (presence b present))

/-! ### Attention (R13, R14) -/

/-- The run counts at an attention sample. -/
def Attention.sample (pressed : Bool) (a : Attention) : Attention :=
  { a with pressedRun := if pressed then a.pressedRun + 1 else 0
           releasedRun := if pressed then 0 else a.releasedRun + 1 }

/-- A press: the pressed condition with time held 0, ATTN_PRESS with the bay's state, and in OFF with
press_to_start on entry to WAITING as for ON (R13, R14). -/
def attentionPress (b : BayIx) (s : State) : State :=
  let s := s.modBay b fun y => { y with attention := { y.attention with pressed := true, timeHeld := 0 } }
  let s := raise .attnPress (.bay b) 0 (s.bay b).state.code s
  if (s.bay b).settings.pressToStart then turnOn b s else s

/-- A hold: the count rises, ATTN_HOLD is raised with it, and count 1 acts as STOP in ONLINE, count 2 as
FORCE_OFF in ONLINE, STOPPING and SHEDDING (R13, R14). -/
def attentionHold (b : BayIx) (s : State) : State :=
  let n := min ((s.bay b).attention.holdCount + 1) 255
  let s := s.modBay b fun y => { y with attention := { y.attention with holdCount := n } }
  let s := raise .attnHold (.bay b) 0 n s
  if n = 1 && (s.bay b).state = .online then stopBay b s
  else if n = 2 && (s.bay b).state.forwarding then forceOff b s
  else s

/-- A release: the released condition, hold count and time held 0 (R13). -/
def attentionRelease (b : BayIx) (s : State) : State :=
  s.modBay b fun y => { y with attention := { y.attention with pressed := false, timeHeld := 0, holdCount := 0 } }

/-- Time held falls due for a hold: at 4 s and again each 2 s (R13). -/
def holdDue (timeHeld : Nat) : Bool := 4000 ≤ timeHeld && (timeHeld - 4000) % 2000 = 0

/-- An attention sample of a bay outside EMPTY and SETTLING (R13). In the pressed condition the sample adds
its 10 ms, with the hold that falls due, before a third released sample ends the push (log 8). -/
def attention (b : BayIx) (pressed : Bool) (s : State) : State :=
  if !(s.bay b).state.standby then s
  else
    let s := s.modBay b fun y => { y with attention := y.attention.sample pressed }
    let a := (s.bay b).attention
    if a.pressed then
      let held := a.timeHeld + 10
      let s := s.modBay b fun y => { y with attention := { y.attention with timeHeld := held } }
      let s := if holdDue held then attentionHold b s else s
      if 3 ≤ a.releasedRun then attentionRelease b s else s
    else if 3 ≤ a.pressedRun then attentionPress b s
    else s

/-- ATTENTION_SAMPLE (R13). -/
def execAttentionSample (b : BayIx) (pressed : Bool) (s : State) : Host.Outcome State Fault Refusal :=
  gated s (change (attention b pressed))

/-! ### Power-good (R92, R96) -/

/-- A PGOOD sample while main enable is asserted: the second consecutive high one in POWERING, while the
ramp timer runs, is the arrival of power-good; the second consecutive low one in ONLINE, STOPPING or
SHEDDING is its loss. -/
def pgood (b : BayIx) (high : Bool) (s : State) : State :=
  if !(s.bay b).mainEnable then s
  else
    let s := s.modBay b fun y =>
      { y with pgoodHigh := if high then y.pgoodHigh + 1 else 0
               pgoodLow := if high then 0 else y.pgoodLow + 1 }
    let y := s.bay b
    if y.state = .powering && y.pgoodHigh = 2 && s.ramp.rampTimer.isSome then goOnline b s
    else if y.state.forwarding && y.pgoodLow = 2 then enterFault b .powerLost s
    else s

/-- PGOOD_SAMPLE (R92). -/
def execPgoodSample (b : BayIx) (high : Bool) (s : State) : Host.Outcome State Fault Refusal :=
  gated s (change (pgood b high))

/-! ### Timer expiries. An expiry of a timer that does not run changes nothing (log 1). -/

/-- The ramp timer expires with its bay in POWERING: FAULT with cause POWER_GOOD_TIMEOUT (R93). -/
def rampExpiry (s : State) : State :=
  match s.ramp.rampTimer, s.ramp.state with
  | some d, .ramping b =>
    let s := s.reach d
    if (s.bay b).state = .powering then enterFault b .powerGoodTimeout s else s
  | _, _ => s

/-- RAMP_TIMER_EXPIRY (R93). -/
def execRampTimerExpiry (s : State) : Host.Outcome State Fault Refusal := gated s (change rampExpiry)

/-- The settle timer expires: the channel enters IDLE; the grant to the head of the queue follows in
`settle` (R95). -/
def settleExpiry (s : State) : State :=
  match s.ramp.settleTimer with
  | some d =>
    let s := s.reach d
    { s with ramp := { s.ramp with state := .idle, settleTimer := none } }
  | none => s

/-- SETTLE_TIMER_EXPIRY (R95). -/
def execSettleTimerExpiry (s : State) : Host.Outcome State Fault Refusal := gated s (change settleExpiry)

/-- The stop timer expires with the bay in STOPPING: OFF with BAY_OFF detail FORCED (R98). -/
def stopExpiry (b : BayIx) (s : State) : State :=
  match (s.bay b).state, (s.bay b).deadline with
  | .stopping, some d => endStop b offForced (s.reach d)
  | _, _ => s

/-- STOP_TIMER_EXPIRY (R98). -/
def execStopTimerExpiry (b : BayIx) (s : State) : Host.Outcome State Fault Refusal :=
  gated s (change (stopExpiry b))

/-- The shed timer expires with the bay in SHEDDING: WAITING, or OFF with detail FORCED (R102). -/
def shedExpiry (b : BayIx) (s : State) : State :=
  match (s.bay b).state, (s.bay b).deadline with
  | .shedding, some d => endShed b offForced (s.reach d)
  | _, _ => s

/-- SHED_TIMER_EXPIRY (R102). -/
def execShedTimerExpiry (b : BayIx) (s : State) : Host.Outcome State Fault Refusal :=
  gated s (change (shedExpiry b))

/-- The cap timer expires: a cap failure, which sheds an ONLINE bay (R82, R83). -/
def capExpiry (b : BayIx) (s : State) : State :=
  match (s.bay b).capTimer with
  | some d => shedForCap b ((s.reach d).modBay b fun y => { y with capTimer := none })
  | none => s

/-- CAP_TIMER_EXPIRY (R83). -/
def execCapTimerExpiry (b : BayIx) (s : State) : Host.Outcome State Fault Refusal :=
  gated s (change (capExpiry b))

end Sys2Proof.Machine
end

