-- ==== Sys2Proof/Machine/LinkEvents.lean ====
section
/-! DEFINITION. The events of the links: the poll and round timers, the end of a request, the response timer
and completion window, a received character, and the end of QUIET. -/

namespace Sys2Proof.Machine

/-- The engine of a link. -/
def engineOf (l : Link) (s : State) : Engine :=
  match l with
  | .bay b => (s.bay b).link.engine
  | .supply => s.supplyLink.engine

/-- A link with its engine replaced. -/
def setEngine (l : Link) (e : Engine) (s : State) : State :=
  match l with
  | .bay b => s.modLink b fun x => { x with engine := e }
  | .supply => setSupplyEngine e s

/-- The transaction in flight on a link fails. -/
def failTxn (l : Link) (k : FailKind) (next : Engine) (s : State) : State :=
  match l with
  | .bay b => failBayTxn b k next s
  | .supply => failSupplyTxn k next s

/-- The poll timer expires in ONLINE, STOPPING or SHEDDING: poll due is set and the timer restarted (R36). -/
def pollExpiry (b : BayIx) (s : State) : State :=
  match (s.bay b).link.pollTimer with
  | some d =>
    if (s.bay b).state.forwarding then
      let s := s.reach d
      s.modLink b fun l => { l with pollDue := true, pollTimer := some (s.now + 1000) }
    else s
  | none => s

/-- POLL_TIMER_EXPIRY (R36). -/
def execPollTimerExpiry (b : BayIx) (s : State) : Host.Outcome State Fault Refusal :=
  gated s (change (pollExpiry b))

/-- The round timer expires: a round is due and the timer restarts, whatever the engine is doing (R40). -/
def roundExpiry (s : State) : State :=
  let s := s.reach s.supplyLink.roundTimer
  { s with supplyLink := { s.supplyLink with roundDue := true, roundTimer := s.now + 1000 } }

/-- ROUND_TIMER_EXPIRY (R40). -/
def execRoundTimerExpiry (s : State) : Host.Outcome State Fault Refusal := gated s (change roundExpiry)

/-- The last character of a request has gone (R25). -/
def requestGone (l : Link) (s : State) : State := setEngine l ((engineOf l s).sent s.now) s

/-- REQUEST_SENT (R25). -/
def execRequestSent (l : Link) (s : State) : Host.Outcome State Fault Refusal :=
  gated s (requestGone l)

/-- The response timer expires in AWAIT_START: NO_RESPONSE, and the engine goes to IDLE (R26). -/
def responseExpiry (l : Link) (s : State) : State :=
  match (engineOf l s).state, (engineOf l s).timer with
  | .awaitStart, some d => failTxn l .noResponse .reset (s.reach d)
  | _, _ => s

/-- RESPONSE_TIMER_EXPIRY (R26). -/
def execResponseTimerExpiry (l : Link) (s : State) : Host.Outcome State Fault Refusal :=
  gated s (change (responseExpiry l))

/-- The completion window expires in RECEIVING: NO_RESPONSE, and the engine enters QUIET (R27, R28). -/
def windowExpiry (l : Link) (s : State) : State :=
  match (engineOf l s).state, (engineOf l s).timer with
  | .receiving, some d =>
    let s := s.reach d
    failTxn l .noResponse (Engine.quiet s.now) s
  | _, _ => s

/-- COMPLETION_WINDOW_EXPIRY (R27). -/
def execCompletionWindowExpiry (l : Link) (s : State) : Host.Outcome State Fault Refusal :=
  gated s (change (windowExpiry l))

/-- A character arrives on a link (R26, R27). -/
def character (l : Link) (c : LinkChar) (s : State) : State :=
  match l with
  | .bay b => bayChar b c s
  | .supply => supplyChar c s

/-- LINK_CHARACTER (R27). -/
def execLinkCharacter (l : Link) (c : LinkChar) (s : State) : Host.Outcome State Fault Refusal :=
  gated s (change (character l c))

/-- QUIET ends, at 2 ms of silence or at its 50 ms, whichever comes first: the engine enters IDLE (R28). -/
def quietOver (l : Link) (s : State) : State :=
  let e := engineOf l s
  if e.state = .quiet then
    setEngine l .reset (s.reach (min (e.silence.getD s.now) (e.timer.getD s.now)))
  else s

/-- QUIET_END (R28). -/
def execQuietEnd (l : Link) (s : State) : Host.Outcome State Fault Refusal :=
  gated s (change (quietOver l))

end Sys2Proof.Machine
end

