-- ==== Sys2Proof/Machine/Reset.lean ====
section
/-! DEFINITION. Power-on reset (R196) and the output pins (Table 11-13). -/

namespace Sys2Proof.Machine

/-! ### Power-on reset -/

/-- Fan `f` at reset, its presence taken from the sample made at reset without debounce (R118). An absent
one has left no HEALTHY state; the state it is restored from will be ABSENT (log 11). -/
def Fan.atReset (fansPresent : BitVec 6) (f : FanIx) : Fan :=
  if fansPresent.getLsbD f.val then .reset
  else { Fan.reset with present := false, health := .absent, leftAs := some .absent }

/-- Zone `z` at reset: L_z from the starting fans, and its output 1000 with an ABSENT fan (R118). -/
def zoneAtReset (z : ZoneIx) (s : State) : State :=
  let limit := zoneLimit z s
  let out := if zoneUnhealthy z s then 1000 else (s.zone z).settings.failsafe
  s.modZone z fun x => { x.drive out with limit := limit }

/-- The part right after the rising edge of PORST_N, with the straps and the fan presence sampled at it
(R196, R167, R118). -/
def powerOn (straps : BitVec 4) (fansPresent : BitVec 6) : State :=
  let s := { State.reset with
    agent := { State.reset.agent with straps := straps }
    fans := ⟨allFans.map (Fan.atReset fansPresent), rfl⟩ }
  allZones.foldl (fun s z => zoneAtReset z s) s

/-- POWER_ON_RESET: PORST_N low holds the part in reset; at its rising edge every block takes its power-on
values (R196). The commands still waiting stay in the model's queue. -/
def execPowerOnReset (porst : Bool) (straps : BitVec 4) (fansPresent : BitVec 6) (s : State) :
    Host.Outcome State Fault Refusal :=
  .next (if porst then { powerOn straps fansPresent with pending := s.pending } else { s with porstLow := true })

/-! ### The output pins. While PORST_N is low each is at its inactive level (R196). -/

/-- STBY_EN of a bay. -/
def pinStandby (b : BayIx) (s : State) : Bool := !s.porstLow && (s.bay b).standbyEnable

/-- MAIN_EN of a bay. -/
def pinMain (b : BayIx) (s : State) : Bool := !s.porstLow && (s.bay b).mainEnable

/-- LED of a bay: its state's pattern, counted from when the pattern began (R23). -/
def pinLed (b : BayIx) (s : State) : Bool :=
  !s.porstLow && (s.bay b).state.led.lit (s.now - (s.bay b).ledSince)

/-- The IREF code. -/
def pinIref (s : State) : Nat := if s.porstLow then 0 else s.ramp.iref

/-- FAULT_IND. -/
def pinFault (s : State) : Bool := !s.porstLow && s.faultInd

/-- The PWM drive of a zone: high for C counts (R117) of every P. -/
def pinPwm (z : ZoneIx) (s : State) : Nat × Nat :=
  (if s.porstLow then 0 else (s.zone z).compare, (s.zone z).settings.period)

end Sys2Proof.Machine
end

