-- ==== Sys2Proof/Machine/SupplyEvents.lean ====
section
/-! DEFINITION. The events of the supplies: presence and DC-OK samples (R58, R59). -/

namespace Sys2Proof.Machine

/-- Entry to IDENT on becoming present: capacities and line-low are cleared, SUPPLY_CHANGE raised, and the
identity read begun (R57, R58). -/
def supplyInserted (i : SupIx) (s : State) : State :=
  let s := s.modSupply i fun p => { p with highLine := none, lowLine := none, lineLow := false }
  startRead (.supply i) (changeSupply i .ident s)

/-- The supply link engine when a supply becomes ABSENT: its identity request is discarded, and a
transaction in flight to it is abandoned into QUIET (R42). -/
def abandonSupplyTxn (i : SupIx) (s : State) : State :=
  let s := placeRequest (.supply i) none s
  if s.supplyLink.engine.inFlight.bind Txn.address = some i then setSupplyEngine (Engine.quiet s.now) s else s

/-- An absence: the read is aborted with its request and transaction, the record freed, and the supply
enters ABSENT with its fields cleared (R51, R57, R58). -/
def supplyAbsence (i : SupIx) (s : State) : State :=
  let s := abandonSupplyTxn i (setRead (.supply i) none s)
  let s := releaseRecord (.supply i) s
  let s := s.modSupply i fun p =>
    { p with highLine := none, lowLine := none, lineLow := false, sticky := .clear
             presentRun := 0, absentRun := 0 }
  changeSupply i .absent s

/-- A PRES sample of a supply: IDENT at the 20th consecutive present one in ABSENT, and absence at the second
consecutive absent one in every other state (R58). -/
def supplyPresence (i : SupIx) (present : Bool) (s : State) : State :=
  let s := s.modSupply i fun p =>
    { p with presentRun := if present then p.presentRun + 1 else 0
             absentRun := if present then 0 else p.absentRun + 1 }
  match (s.supply i).state with
  | .absent => if 20 ≤ (s.supply i).presentRun then supplyInserted i s else s
  | .ident | .active | .failed | .unread => if 2 ≤ (s.supply i).absentRun then supplyAbsence i s else s

/-- SUPPLY_PRESENCE_SAMPLE (R58). -/
def execSupplyPresenceSample (i : SupIx) (present : Bool) (s : State) : Host.Outcome State Fault Refusal :=
  gated s (change (supplyPresence i present))

/-- A change of DC-OK level: an ACTIVE supply whose level falls enters FAILED; in every other case the level
is recorded and the counted capacity follows (Table 4-3, R63). -/
def dcOkChanged (i : SupIx) (s : State) : State :=
  if (s.supply i).state = .active && !(s.supply i).dcOk then changeSupply i .failed s
  else recomputeBudget (recount i s)

/-- A DC-OK sample: the level changes at three consecutive samples of the other level (R59). -/
def dcOk (i : SupIx) (high : Bool) (s : State) : State :=
  let run := if high = (s.supply i).dcOk then 0 else (s.supply i).dcOkRun + 1
  if 3 ≤ run then
    dcOkChanged i (s.modSupply i fun p => { p with dcOk := high, dcOkRun := 0 })
  else s.modSupply i fun p => { p with dcOkRun := run }

/-- DC_OK_SAMPLE (R59). -/
def execDcOkSample (i : SupIx) (high : Bool) (s : State) : Host.Outcome State Fault Refusal :=
  gated s (change (dcOk i high))

end Sys2Proof.Machine
end

