-- ==== Sys2Proof/Machine/Dispatch.lean ====
section
/-! DEFINITION. The dispatch of a command to its meaning: one arm for each constructor. -/

namespace Sys2Proof.Machine

/-- The effect of a command on everything but the queue. -/
def exec (i : Instr) (s : State) : Host.Outcome State Fault Refusal :=
  match i with
  | .powerOnReset porst straps fansPresent => Sys2Proof.Machine.execPowerOnReset porst straps fansPresent s
  | .presenceSample bay present => Sys2Proof.Machine.execPresenceSample bay present s
  | .attentionSample bay pressed => Sys2Proof.Machine.execAttentionSample bay pressed s
  | .pgoodSample bay high => Sys2Proof.Machine.execPgoodSample bay high s
  | .rampTimerExpiry => Sys2Proof.Machine.execRampTimerExpiry s
  | .settleTimerExpiry => Sys2Proof.Machine.execSettleTimerExpiry s
  | .stopTimerExpiry bay => Sys2Proof.Machine.execStopTimerExpiry bay s
  | .shedTimerExpiry bay => Sys2Proof.Machine.execShedTimerExpiry bay s
  | .capTimerExpiry bay => Sys2Proof.Machine.execCapTimerExpiry bay s
  | .pollTimerExpiry bay => Sys2Proof.Machine.execPollTimerExpiry bay s
  | .roundTimerExpiry => Sys2Proof.Machine.execRoundTimerExpiry s
  | .requestSent link => Sys2Proof.Machine.execRequestSent link s
  | .responseTimerExpiry link => Sys2Proof.Machine.execResponseTimerExpiry link s
  | .completionWindowExpiry link => Sys2Proof.Machine.execCompletionWindowExpiry link s
  | .linkCharacter link char => Sys2Proof.Machine.execLinkCharacter link char s
  | .quietEnd link => Sys2Proof.Machine.execQuietEnd link s
  | .supplyPresenceSample supply present => Sys2Proof.Machine.execSupplyPresenceSample supply present s
  | .dcOkSample supply high => Sys2Proof.Machine.execDcOkSample supply high s
  | .conversionSlotEnd code => Sys2Proof.Machine.execConversionSlotEnd code s
  | .controlPeriodExpiry zone => Sys2Proof.Machine.execControlPeriodExpiry zone s
  | .tachWindowEnd => Sys2Proof.Machine.execTachWindowEnd s
  | .fanPresenceSample fan present => Sys2Proof.Machine.execFanPresenceSample fan present s
  | .uplinkLinkReport uplink up => Sys2Proof.Machine.execUplinkLinkReport uplink up s
  | .holdTimerExpiry uplink => Sys2Proof.Machine.execHoldTimerExpiry uplink s
  | .agingTimerExpiry => Sys2Proof.Machine.execAgingTimerExpiry s
  | .bayPortFrame bay frame => Sys2Proof.Machine.execBayPortFrame bay frame s
  | .uplinkFrame uplink frame => Sys2Proof.Machine.execUplinkFrame uplink frame s
  | .silenceTimerExpiry => Sys2Proof.Machine.execSilenceTimerExpiry s
  | .controlFrameExecution => Sys2Proof.Machine.execControlFrameExecution s
  | .queryChassis => Sys2Proof.Machine.execQueryChassis s
  | .setManagers sel count timeout addrs => Sys2Proof.Machine.execSetManagers sel count timeout addrs s
  | .clearStations => Sys2Proof.Machine.execClearStations s
  | .clearCounters => Sys2Proof.Machine.execClearCounters s
  | .clearEvents => Sys2Proof.Machine.execClearEvents s
  | .queryBay bay => Sys2Proof.Machine.execQueryBay bay s
  | .setBay bay sel priority autoPower pressToStart zone primary alternate group => Sys2Proof.Machine.execSetBay bay sel priority autoPower pressToStart zone primary alternate group s
  | .bayActionOn bay => Sys2Proof.Machine.execBayActionOn bay s
  | .bayActionStop bay => Sys2Proof.Machine.execBayActionStop bay s
  | .bayActionForceOff bay => Sys2Proof.Machine.execBayActionForceOff bay s
  | .bayActionClearFault bay => Sys2Proof.Machine.execBayActionClearFault bay s
  | .bayActionRecheck bay => Sys2Proof.Machine.execBayActionRecheck bay s
  | .readIdentity cls index first count => Sys2Proof.Machine.execReadIdentity cls index first count s
  | .setSupply supply override => Sys2Proof.Machine.execSetSupply supply override s
  | .setPowerPolicy sel mode overhead capTimeout => Sys2Proof.Machine.execSetPowerPolicy sel mode overhead capTimeout s
  | .queryPower => Sys2Proof.Machine.execQueryPower s
  | .setRamp sel code0 code1 code2 code3 rampTimeout settle stopTimeout shedGrace => Sys2Proof.Machine.execSetRamp sel code0 code1 code2 code3 rampTimeout settle stopTimeout shedGrace s
  | .setZone zone sel values => Sys2Proof.Machine.execSetZone zone sel values s
  | .loadCurve zone count points => Sys2Proof.Machine.execLoadCurve zone count points s
  | .setSensor chan sel gain offset zone warn crit enabled => Sys2Proof.Machine.execSetSensor chan sel gain offset zone warn crit enabled s
  | .queryThermal => Sys2Proof.Machine.execQueryThermal s
  | .setUplink uplink sel trusted hold aging => Sys2Proof.Machine.execSetUplink uplink sel trusted hold aging s
  | .setGroup group tag => Sys2Proof.Machine.execSetGroup group tag s
  | .addStation addr bay => Sys2Proof.Machine.execAddStation addr bay s
  | .removeStation addr => Sys2Proof.Machine.execRemoveStation addr s
  | .readStations first count => Sys2Proof.Machine.execReadStations first count s
  | .queryTraffic => Sys2Proof.Machine.execQueryTraffic s
  | .setWatch unit selector negate direction enabled lo hi => Sys2Proof.Machine.execSetWatch unit selector negate direction enabled lo hi s
  | .setComposite comp mask mode drop copy threshold => Sys2Proof.Machine.execSetComposite comp mask mode drop copy threshold s
  | .armComposite comp => Sys2Proof.Machine.execArmComposite comp s
  | .queryWatch => Sys2Proof.Machine.execQueryWatch s
  | .readEvents count => Sys2Proof.Machine.execReadEvents count s
  | .readConditions => Sys2Proof.Machine.execReadConditions s
  | .ackCondition kind index => Sys2Proof.Machine.execAckCondition kind index s
  | .setEventLimit limit => Sys2Proof.Machine.execSetEventLimit limit s
  | .tachPulse fan => Sys2Proof.Machine.execTachPulse fan s

end Sys2Proof.Machine
end

