-- ==== Sys2Proof/Safety.lean ====
section
/-! DEFINITION. The laws that the manual gives of the whole machine, as predicates of a state, and the form in
which statements name a change made whole. -/

namespace Sys2Proof.Machine

/-! ### A change made whole -/

/-- The outcome of a command that found the part in `s` and left `t`: the work `t` leaves for the ramp
channel and the link engines is taken, and the attention frame the change prompts is sent. -/
def completed (s t : State) : Host.Outcome State Fault Refusal := .next (promptAttention s (settle t))

/-- The outcome of a request answered with a status and a body, with nothing else changed. -/
def answered (s : State) (st : Status) (body : List Byte) : Host.Outcome State Fault Refusal :=
  .next { s with answer := some ⟨st, body⟩ }

/-! ### Laws of a state -/

/-- The event queue never holds more than its limit, which stays 8 to 64, and the lost count saturates at
65535 (Table 10-1, R183, R186). -/
def EventsOk (s : State) : Prop :=
  8 ≤ s.events.limit ∧ s.events.limit ≤ 64 ∧ s.events.queue.length ≤ s.events.limit ∧ s.events.lost ≤ 65535

/-- The condition set holds at most one entry for a kind and subject, no entry is inactive and acknowledged,
and FAULT_IND is lit exactly while an entry is unacknowledged (R187, R189, R190, R192). -/
def ConditionsOk (s : State) : Prop :=
  (s.conditions.map (·.key)).Nodup ∧ (∀ c ∈ s.conditions, c.acked = true → c.active = true) ∧
    s.faultInd = s.conditions.any fun c => !c.acked

/-- Each bay's enables follow its state (R4). -/
def EnablesOk (s : State) : Prop :=
  ∀ b, (s.bay b).standbyEnable = (s.bay b).state.standby ∧ (s.bay b).mainEnable = (s.bay b).state.mainPowered

/-- At most one bay is in POWERING, and it is the bay the ramp channel is RAMPING; the ramp timer runs in
RAMPING alone, the settle timer in SETTLING alone, and IREF is at code 0 outside RAMPING (R88). -/
def RampOk (s : State) : Prop :=
  (∀ b, (s.bay b).state = .powering ↔ s.ramp.state = .ramping b) ∧
  (s.ramp.rampTimer.isSome = s.ramp.state.bay.isSome) ∧
  (s.ramp.settleTimer.isSome = decide (s.ramp.state = .settling)) ∧
  (s.ramp.state.bay = none → s.ramp.iref = 0)

/-- Bay `b` does not stand behind bay `c` in the waiting order: a higher priority, or the same one with no
newer waiting stamp (R69). -/
def waitsNoLater (s : State) (b c : BayIx) : Prop :=
  (s.bay c).settings.priority < (s.bay b).settings.priority ∨
  (s.bay b).settings.priority = (s.bay c).settings.priority ∧
    (s.bay b).waitingStamp.getD 0 ≤ (s.bay c).waitingStamp.getD 0

/-- The waiting list holds exactly the bays in WAITING, each once, by priority from highest to lowest and within
a priority by waiting stamp from oldest to newest, each with a stamp issued before the next one; the ramp
queue holds exactly the bays in ADMITTED, each once (R69, R89). -/
def ListsOk (s : State) : Prop :=
  s.alloc.waiting.Nodup ∧ s.ramp.queue.Nodup ∧
  (∀ b, (b ∈ s.alloc.waiting ↔ (s.bay b).state = .waiting) ∧ (b ∈ s.ramp.queue ↔ (s.bay b).state = .admitted)) ∧
  s.alloc.waiting.Pairwise (waitsNoLater s) ∧
  ∀ b ∈ s.alloc.waiting, ∃ n, (s.bay b).waitingStamp = some n ∧ n < s.alloc.nextStamp

/-- Only a bay in ADMITTED, POWERING, ONLINE, STOPPING or SHEDDING holds an allocation; the allocations of the
bays not in SHEDDING never exceed the budget, nor those of a zone its limit (R67). -/
def BudgetOk (s : State) : Prop :=
  (∀ b, (s.bay b).alloc ≠ 0 → (s.bay b).state.allocated = true) ∧
  nonShedding none s ≤ s.alloc.budget ∧ ∀ z, nonShedding (some z) s ≤ (s.zone z).limit

/-- Every counted capacity is that of its supply's record (Table 4-4), raw capacity is that of the redundancy
mode (Table 4-5), B is raw capacity less the overhead and at least 0, and only a supply in IDENT has an
identity read in flight (R63, R64, R60). -/
def SuppliesOk (s : State) : Prop :=
  (∀ i, (s.supply i).counted = countedCapacity (s.supply i)) ∧
  (∀ i, (s.supply i).read.isSome = true → (s.supply i).state = .ident) ∧
  s.alloc.raw = rawCapacity s.alloc.mode (fun i => (s.supply i).counted) ∧
  s.alloc.budget = s.alloc.raw - s.alloc.overhead

/-- A zone's output is at least its minimum duty, at least the failsafe duty while UNMANAGED, exactly 1000
while a fan of the zone is unhealthy, and its compare count is that of its output (R115, R117); its limit is
cooling[z][h] for its healthy fans, and while CRITICAL no more than its critical limit (R66). -/
def OutputsOk (s : State) : Prop :=
  ∀ z, (s.zone z).settings.minDuty ≤ 1000 ∧ (s.zone z).settings.failsafe ≤ 1000 ∧
    (s.zone z).settings.minDuty ≤ (s.zone z).output ∧
    (s.agent.managed = false → (s.zone z).settings.failsafe ≤ (s.zone z).output) ∧
    (s.zone z).output ≤ 1000 ∧
    (zoneUnhealthy z s = true → (s.zone z).output = 1000) ∧
    (s.zone z).compare = ((s.zone z).output * (s.zone z).settings.period + 500) / 1000 ∧
    (s.zone z).limit = zoneLimit z s

/-- The number of slots an owner holds. -/
def slotsOf (o : Owner) (s : State) : Nat := (s.store.slots.items.filter fun x => decide (x.owner = some o)).length

/-- The inventory store holds whole records (R52): the mark is clear on block 0 alone; each later block of an
owner stands in the slot after the block before it; no owner has two slots of one block, so none has two
records; and the first slot of a record holds a valid header whose block count is the record's length. A bay
in EMPTY or SETTLING, an ABSENT supply, and an owner whose read has not accepted its header hold no slot (R45,
R54). Only an owner in IDENT has a read in flight (R45, R51), and its next block is at least 1 and its retry list
names no block 0 (Table 3-3; in HEADER, where R45 gives next block no value, that is log 9). -/
def StoreOk (s : State) : Prop :=
  (∀ i o, (s.store.slots.get i).owner = some o →
    (s.store.slots.get i).cont = decide (0 < (s.store.slots.get i).block) ∧
    (0 < (s.store.slots.get i).block → ∃ j : Fin 128, j.val + 1 = i.val ∧
      (s.store.slots.get j).owner = some o ∧ (s.store.slots.get j).block + 1 = (s.store.slots.get i).block) ∧
    ((s.store.slots.get i).block = 0 → (s.store.slots.get i).content = .valid ∧
      slotsOf o s = (byteAt (s.store.slots.get i).data 2).toNat)) ∧
  (∀ i j o, (s.store.slots.get i).owner = some o → (s.store.slots.get j).owner = some o →
    (s.store.slots.get i).block = (s.store.slots.get j).block → i = j) ∧
  (∀ i b, (s.store.slots.get i).owner = some (.bay b) → (s.bay b).state ≠ .empty ∧ (s.bay b).state ≠ .settling) ∧
  (∀ i j, (s.store.slots.get i).owner = some (.supply j) → (s.supply j).state ≠ .absent) ∧
  (∀ b, (s.bay b).read.isSome = true → (s.bay b).state = .ident) ∧
  (∀ i, (s.supply i).read.isSome = true → (s.supply i).state = .ident) ∧
  (∀ o r, readOf o s = some r → 1 ≤ r.nextBlock ∧ 0 ∉ r.retry ∧
    (r.phase = .header → ∀ i, (s.store.slots.get i).owner ≠ some o))

/-- No two station entries share an address, each address is a unicast one, and every LEARNED entry names a
bay in ONLINE, STOPPING or SHEDDING (R142, R148). -/
def StationsOk (s : State) : Prop :=
  (∀ i j e f, s.stations.entries.get i = some e → s.stations.entries.get j = some f → e.addr = f.addr → i = j) ∧
  (∀ i e, s.stations.entries.get i = some e → isGroup e.addr = false) ∧
  (∀ i e, s.stations.entries.get i = some e → e.isLearned = true → (s.bay e.bay).state.forwarding = true)

/-- A bay holds an active uplink only in ONLINE, STOPPING and SHEDDING, and it is UP and the bay's primary or
alternate (R131, R132). -/
def ActiveUplinksOk (s : State) : Prop :=
  ∀ b u, (s.bay b).activeUplink = some u →
    (s.bay b).state.forwarding = true ∧ (s.uplink u).up = true ∧
    ((s.bay b).settings.primary = u ∨ (s.bay b).settings.alternate = some u)

/-- Each composite's hit counter is below its threshold, which is at least 1 (Table 8-3). -/
def CompositesOk (s : State) : Prop :=
  ∀ i, (s.composites.get i).hitCounter < (s.composites.get i).threshold ∧
    (s.composites.get i).totalHits ≤ 4294967295

/-- The request queue and the manager list hold at most four, the list holds unicast addresses alone, a
current manager is held and the silence timer may run only while MANAGED, and some uplink is trusted
(Table 9-1, R168, R170, R180, R152). -/
def AgentOk (s : State) : Prop :=
  s.agent.queue.length ≤ 4 ∧ s.agent.managers.length ≤ 4 ∧ (∀ a ∈ s.agent.managers, isGroup a = false) ∧
  (s.agent.manager.isSome = s.agent.managed) ∧
  (s.agent.managed = false → s.agent.silenceTimer = none) ∧
  ∃ u, (s.uplink u).trusted = true

/-- What every step keeps: `I` is kept when each next state of a state that meets it meets it too. -/
def KeptByEveryStep (I : State → Prop) : Prop := ∀ s t, I s → step s = .next t → I t

end Sys2Proof.Machine
end

