-- ==== Sys2Proof/Certificates/Slice0/Obligations.lean ====
section
/-! DEFINITION. The statements for the provers, in the order of OBLIGATIONS.json. A statement about a command
takes a state in which PORST_N is high. Where the outcome is written `completed s t`, the command took the
part from `s` to `t`, and the work that `t` leaves and the attention frame it prompts follow (Safety.lean). -/

open Sys2Proof Sys2Proof.Machine

/-! ### The step, the queue and reset -/

/-- The step runs the command at the front of the queue on the state with the queue's rest, and lets a
millisecond pass when none waits. The queue and the idle step are the model's own: log 5. -/
def Obligations.StepRunsFrontCommand : Prop :=
  ∀ (c : Instr) (s : State),
    step { s with pending := c :: s.pending } = exec c s ∧
    step { s with pending := [] } = .next (tick { s with pending := [] })

/-- Every command of the table completes, in every state, and none touches the queue of commands; while PORST_N
is low no command but POWER_ON_RESET changes anything. Both are the model's choices: logs 3 and 5. -/
def Obligations.CommandsCompleteKeepingQueue : Prop :=
  ∀ (c : Instr) (s : State),
    (∃ t, exec c s = .next t ∧ t.pending = s.pending) ∧
    (s.porstLow = true → (∀ p straps fans, c ≠ .powerOnReset p straps fans) → exec c s = .next s)

/-- R196: while PORST_N is low every output is inactive, and at its rising edge every output takes its
power-on value: enables deasserted, LEDs dark, IREF 0, FAULT_IND dark, and each zone's PWM at 150 of 250
counts, or 250 of 250 with an absent fan. -/
def Obligations.OutputsInResetAndAfter : Prop :=
  ∀ (s : State) (straps : BitVec 4) (fans : BitVec 6),
    (∃ t, exec (.powerOnReset false straps fans) s = .next t ∧ t.porstLow = true) ∧
    (s.porstLow = true →
      (∀ b, pinStandby b s = false ∧ pinMain b s = false ∧ pinLed b s = false) ∧
      pinIref s = 0 ∧ pinFault s = false ∧ ∀ z, (pinPwm z s).1 = 0) ∧
    (∃ t, exec (.powerOnReset true straps fans) s = .next t ∧
      (∀ b, pinStandby b t = false ∧ pinMain b t = false ∧ pinLed b t = false) ∧
      pinIref t = 0 ∧ pinFault t = false ∧
      ∀ z : ZoneIx, pinPwm z t =
        (if fans.getLsbD (2 * z.val) && fans.getLsbD (2 * z.val + 1) then 150 else 250, 250))

/-- The values the blocks take at the rising edge of PORST_N, as their tables and rules give them: bays and their
links, the supply link, the inventory store, supplies, allocator, ramp channel, sensor channels and converter, zones
and fans (by the fans present), uplinks, groups, stations, watch units and composites, agent, events and conditions.
Timers that run from reset have their first deadline by the model's clock: log 1. The laws of Safety.lean hold of
that state, and of State.reset (whose straps and fans are log 2). -/
def Obligations.PowerOnValuesMeetTheLaws : Prop :=
  ∀ (s : State) (straps : BitVec 4) (fans : BitVec 6),
    ∃ t, exec (.powerOnReset true straps fans) s = .next t ∧
      (∀ b, (t.bay b).state = .empty ∧ (t.bay b).alloc = 0 ∧ (t.bay b).header = none ∧
        (t.bay b).settings.priority = 4 ∧ (t.bay b).settings.autoPower = true ∧
        (t.bay b).settings.pressToStart = true ∧ (t.bay b).settings.group = 0 ∧
        (t.bay b).settings.zone.val = (if b.val ≤ 4 then 0 else if b.val ≤ 9 then 1 else 2) ∧
        (t.bay b).settings.primary.val = b.val % 2 ∧
        (t.bay b).settings.alternate.map (·.val) = some (1 - b.val % 2) ∧
        (t.bay b).activeUplink = none ∧ (t.bay b).link = BayLink.reset ∧ (t.bay b).linkLost = false ∧
        (t.bay b).sticky = ⟨false, false, false, false, false⟩ ∧ (t.bay b).inlet = none ∧
        (t.bay b).presentRun = 0 ∧ (t.bay b).absentRun = 0 ∧ (t.bay b).presenceLine = none ∧
        (t.bay b).attention = ⟨0, 0, false, 0, 0⟩ ∧ (t.bay b).admissionStamp = none ∧
        (t.bay b).waitingStamp = none ∧ (t.bay b).stopRequested = false ∧ (t.bay b).deadline = none ∧
        (t.bay b).standbyEnable = false ∧ (t.bay b).mainEnable = false ∧ (t.bay b).lastDecided = none ∧
        (t.bay b).applied = none ∧ (t.bay b).capTimer = none ∧
        (t.bay b).runState = none ∧ (t.bay b).faultCause = none ∧ (t.bay b).read = none ∧
        (t.bay b).record = none ∧ (t.bay b).counters = ⟨0, 0, 0, 0, 0, 0, 0, 0, 0⟩) ∧
      (t.supplyLink.engine = Engine.reset ∧ (∀ i, t.supplyLink.identRequests.get i = none) ∧
        t.supplyLink.round = none ∧ t.supplyLink.roundDue = false ∧ t.supplyLink.roundTimer = t.now + 1000) ∧
      ((∀ i, t.store.slots.get i = ⟨none, 0, false, .reading, List.replicate 16 0⟩) ∧ t.store.compactions = 0) ∧
      (∀ i, t.supply i = { state := .absent, highLine := none, lowLine := none, override := 0, lineLow := false
                           dcOk := false, dcOkRun := 0, presentRun := 0, absentRun := 0
                           sticky := ⟨false, false, false, false, false⟩, counted := 0, read := none
                           record := none }) ∧
      (t.alloc.mode = .nPlus1 ∧ t.alloc.overhead = 600 ∧ t.alloc.capTimeout = 5 ∧ t.alloc.budget = 0 ∧
        t.alloc.waiting = []) ∧
      (t.ramp.state = .idle ∧ t.ramp.queue = [] ∧ t.ramp.iref = 0 ∧ t.ramp.rampTimeout = 1500 ∧
        t.ramp.settleTime = 250 ∧ t.ramp.stopTimeout = 120 ∧ t.ramp.shedGrace = 30 ∧
        t.ramp.classCodes.items = [40, 60, 80, 120] ∧ t.ramp.rampTimer = none ∧ t.ramp.settleTimer = none) ∧
      (∀ c, (t.sensor c).gain = 400 ∧ (t.sensor c).offset = -500 ∧ (t.sensor c).warn = 450 ∧
        (t.sensor c).crit = 600 ∧ (t.sensor c).status = .initial ∧ (t.sensor c).lastCode = 0 ∧
        (t.sensor c).zone.val = c.val / 4 ∧ (t.sensor c).enabled = true ∧ (t.sensor c).railRun = 0 ∧
        (t.sensor c).inRangeRun = 0) ∧
      (t.converter.converting = some 0 ∧ t.converter.discarded = false ∧ t.converter.slotEnd = t.now + 10) ∧
      (∀ z : ZoneIx,
        let h := (fans.getLsbD (2 * z.val)).toNat + (fans.getLsbD (2 * z.val + 1)).toNat
        t.zone z = {
          settings := { cooling0 := 0, cooling1 := 1800, cooling2 := 3600, critLimit := 1200, minDuty := 300
                        failsafe := 600, missingDuty := 700, feedforward := 100, slewUp := 1000, slewDown := 50
                        period := 250, controlPeriod := 1000, stall := 600 }
          limit := if h = 2 then 3600 else if h = 1 then 1800 else 0
          thermal := .normal
          curve := [⟨250, 300⟩, ⟨350, 450⟩, ⟨450, 700⟩, ⟨550, 1000⟩]
          output := if h = 2 then 600 else 1000
          compare := if h = 2 then 150 else 250
          lastUpdate := none
          controlTimer := t.now + 1000 }) ∧
      (∀ f, (t.fan f).present = fans.getLsbD f.val ∧
        (t.fan f).health = (if fans.getLsbD f.val then .healthy else .absent) ∧ (t.fan f).lowRun = 0 ∧
        (t.fan f).goodRun = 0 ∧ (t.fan f).rpm = 0 ∧ (t.fan f).pulses = 0) ∧
      t.tachWindow = t.now + 1000 ∧
      (∀ u, (t.uplink u).up = false ∧ (t.uplink u).trusted = decide (u = 0) ∧ (t.uplink u).hold = 10 ∧
        (t.uplink u).holdTimer = none ∧ (t.uplink u).counters = ⟨0, 0, 0, 0, 0, 0, 0, 0⟩) ∧
      (∀ g, t.groups.get g = 0) ∧
      (∀ i, t.stations.entries.get i = none) ∧ t.stations.agingInterval = 300 ∧
      (t.stations.agingTimer = t.now + 300000 ∧ t.stations.fullMark = false ∧ t.stations.learnFail = 0 ∧
        t.stations.moves = 0) ∧
      (∀ i, t.units.get i = { selector := .destAddr, lo := 0, hi := 0, negate := false, direction := .both
                              enabled := false }) ∧
      (∀ i, t.composites.get i = { mask := 0, mode := .any, drop := false, copy := false, threshold := 1
                                   hitCounter := 0, totalHits := 0, latched := false, lastMatch := 0 }) ∧
      (t.agent.managed = false ∧ t.agent.managers = [] ∧ t.agent.silenceTimeout = 30 ∧
        t.agent.silenceTimer = none ∧ t.agent.manager = none ∧ t.agent.queue = [] ∧
        t.agent.execution = none ∧ t.agent.straps = straps) ∧
      t.events = ⟨[], 64, 0⟩ ∧ t.conditions = [] ∧ t.faultInd = false ∧
      ∀ r, r = t ∨ r = State.reset →
        EventsOk r ∧ ConditionsOk r ∧ EnablesOk r ∧ RampOk r ∧ ListsOk r ∧ BudgetOk r ∧ SuppliesOk r ∧
        OutputsOk r ∧ StationsOk r ∧ ActiveUplinksOk r ∧ CompositesOk r ∧ AgentOk r ∧ StoreOk r

/-- No event and no other request changes a setting: each setting of the part keeps its value over every command
but the request that names it, a control frame (which carries requests) and POWER_ON_RESET (sections 1.6,
4.10, 5.5, 6.7, 7.7, 8.5, 9.5, 10.2). -/
def Obligations.SettingsChangeOnlyByRequests : Prop :=
  ∀ (c : Instr) (s t : State), exec c s = .next t → (∀ p straps fans, c ≠ .powerOnReset p straps fans) →
    c ≠ .controlFrameExecution →
    (match c with | .setBay .. => True | _ => ∀ b, (t.bay b).settings = (s.bay b).settings) ∧
    (match c with | .setSupply .. => True | _ => ∀ i, (t.supply i).override = (s.supply i).override) ∧
    (match c with
      | .setPowerPolicy .. => True
      | _ => t.alloc.mode = s.alloc.mode ∧ t.alloc.overhead = s.alloc.overhead ∧
        t.alloc.capTimeout = s.alloc.capTimeout) ∧
    (match c with
      | .setRamp .. => True
      | _ => t.ramp.classCodes = s.ramp.classCodes ∧ t.ramp.rampTimeout = s.ramp.rampTimeout ∧
        t.ramp.settleTime = s.ramp.settleTime ∧ t.ramp.stopTimeout = s.ramp.stopTimeout ∧
        t.ramp.shedGrace = s.ramp.shedGrace) ∧
    (match c with | .setZone .. => True | _ => ∀ z, (t.zone z).settings = (s.zone z).settings) ∧
    (match c with | .loadCurve .. => True | _ => ∀ z, (t.zone z).curve = (s.zone z).curve) ∧
    (match c with
      | .setSensor .. => True
      | _ => ∀ k, (t.sensor k).gain = (s.sensor k).gain ∧ (t.sensor k).offset = (s.sensor k).offset ∧
        (t.sensor k).zone = (s.sensor k).zone ∧ (t.sensor k).warn = (s.sensor k).warn ∧
        (t.sensor k).crit = (s.sensor k).crit ∧ (t.sensor k).enabled = (s.sensor k).enabled) ∧
    (match c with
      | .setUplink .. => True
      | _ => t.stations.agingInterval = s.stations.agingInterval ∧
        ∀ u, (t.uplink u).trusted = (s.uplink u).trusted ∧ (t.uplink u).hold = (s.uplink u).hold) ∧
    (match c with | .setGroup .. => True | _ => t.groups = s.groups) ∧
    (match c with | .setWatch .. => True | _ => t.units = s.units) ∧
    (match c with
      | .setComposite .. => True
      | _ => ∀ i, (t.composites.get i).mask = (s.composites.get i).mask ∧
        (t.composites.get i).mode = (s.composites.get i).mode ∧
        (t.composites.get i).drop = (s.composites.get i).drop ∧
        (t.composites.get i).copy = (s.composites.get i).copy ∧
        (t.composites.get i).threshold = (s.composites.get i).threshold) ∧
    (match c with
      | .setManagers .. => True
      | _ => t.agent.managers = s.agent.managers ∧ t.agent.silenceTimeout = s.agent.silenceTimeout) ∧
    (match c with | .setEventLimit .. => True | _ => t.events.limit = s.events.limit) ∧
    t.agent.straps = s.agent.straps ∧ t.agent.execution = s.agent.execution


/-- The work taken at the end of a change, which is where the model takes it: log 6. It touches the bays, the
waiting list and stamps, the ramp channel, the supply link and the event queue alone; of a bay it leaves the
settings, the power header, the record, the read, the sticky flags and the counters; with no grant to make and
no engine with work it changes nothing. Unless an ONLINE bay with a LOST link holds a cap level (taken there it is
a cap failure, R33, of which BayLinkOutcomesAct speaks), the ADMITTED head of the queue of an IDLE channel is
granted (R91), and an IDLE bay engine takes its first allowed work: in IDENT the identity request, in ONLINE the cap
level before the poll, in STOPPING and SHEDDING the STOP before the poll (R30, Table 2-3). An IDLE supply engine
takes the identity request of the lowest address, else the next poll of its round, else a due round (R41). -/
def Obligations.SettledWorkStaysInItsBlocks : Prop :=
  ∀ s : State,
    let t := settle s
    t = { s with
      bays := t.bays, ramp := t.ramp, supplyLink := t.supplyLink, events := t.events
      alloc := { s.alloc with waiting := t.alloc.waiting, nextStamp := t.alloc.nextStamp } } ∧
    (∀ b, (t.bay b).settings = (s.bay b).settings ∧ (t.bay b).header = (s.bay b).header ∧
      (t.bay b).record = (s.bay b).record ∧ (t.bay b).read = (s.bay b).read ∧
      (t.bay b).sticky = (s.bay b).sticky ∧ (t.bay b).counters = (s.bay b).counters) ∧
    (s.ramp.state ≠ .idle ∨ s.ramp.queue = [] → (∀ b, (s.bay b).nextWork.isNone = true) →
      s.supplyLink.engine.state ≠ .idle → t = s) ∧
    ((∀ b, (s.bay b).state = .online → (s.bay b).linkLost = true → (s.bay b).link.slot = none) →
      (∀ b rest, s.ramp.state = .idle → s.ramp.queue = b :: rest → (s.bay b).state = .admitted →
        t.bay b = (grantTo b s).bay b ∧ t.ramp = (grantTo b s).ramp) ∧
      (grantable s = none → t.ramp = s.ramp) ∧
      ∀ b,
        let y := s.bay b
        let took := fun (l : BayLink) (x : Txn) => t.bay b = { y with link := { l with engine := Engine.send x } }
        (grantable s ≠ some b → y.link.engine.state ≠ .idle → t.bay b = y) ∧
        (y.link.engine.state = .idle →
          (∀ i, y.state = .ident → y.link.identRequest = some i →
            took { y.link with identRequest := none } (.readBlock i)) ∧
          (∀ c, y.state = .online → y.link.slot = some c →
            took { y.link with slot := none } (.cap c.level c.retried)) ∧
          (y.state = .online → y.link.slot = none → y.link.pollDue = true →
            took { y.link with pollDue := false } .status) ∧
          (y.state = .stopping ∨ y.state = .shedding →
            (y.link.pendingStop = true → took { y.link with pendingStop := false } .stop) ∧
            (y.link.pendingStop = false → y.link.pollDue = true → took { y.link with pollDue := false } .status)))) ∧
    (s.supplyLink.engine.state = .idle →
      let l := s.supplyLink
      let due := fun (i : SupIx) => (s.supply i).state = .active ∨ (s.supply i).state = .failed
      let idle := l.round = none ∨ ∃ next, l.round = some next ∧ ∀ j : SupIx, next ≤ j.val → ¬ due j
      (∀ i n, l.identRequests.get i = some n → (∀ j, j < i → l.identRequests.get j = none) →
        t.supplyLink = { l with
          identRequests := l.identRequests.set i none, engine := Engine.send (.supplyReadBlock i n) }) ∧
      ((∀ j, l.identRequests.get j = none) →
        (∀ next i, l.round = some next → next ≤ i.val → due i → (∀ j, j < i → next ≤ j.val → ¬ due j) →
          t.supplyLink = { l with round := some (i.val + 1), engine := Engine.send (.supplyStatus i) }) ∧
        (∀ i, idle → l.roundDue = true → due i → (∀ j, j < i → ¬ due j) →
          t.supplyLink = { l with
            round := some (i.val + 1), roundDue := false, engine := Engine.send (.supplyStatus i) }) ∧
        (idle → l.roundDue = false ∨ (∀ j, ¬ due j) → t.supplyLink = { l with round := none, roundDue := false })))

/-! ### The laws kept by every step -/

/-- The event queue never holds more entries than its limit (R183). The condition set holds at most one entry for a
kind and subject, and FAULT_IND is lit exactly while an entry is unacknowledged (R187, R192). -/
def Obligations.EventsAndConditionsKeepTheirLaws : Prop :=
  (KeptByEveryStep EventsOk) ∧
  (KeptByEveryStep ConditionsOk)

/-- The power enables follow the bay state (R4), and so does the LED (R23, Table 1-8): dark in EMPTY and OFF, slow
blink in SETTLING, IDENT, WAITING and ADMITTED, fast blink in POWERING, STOPPING and SHEDDING, steady in ONLINE, and
a double flash in FAULT. A change of state to another pattern starts it at the beginning of its first lit period, and
one that keeps the pattern lets it run on. Where the lists and the ramp channel agree with the bay states
(PowerListsHoldTheirBays) and the allocations are within their limits (AllocationsStayWithinBudget), no command but
POWER_ON_RESET starts anew a pattern that it leaves as it was, the fast blink apart: a bay can lose main power and be
granted it again in one change. -/
def Obligations.EnablesFollowState : Prop :=
  KeptByEveryStep EnablesOk ∧
  (∀ (b : BayIx) (s : State), s.porstLow = false →
    let elapsed := s.now - (s.bay b).ledSince
    pinLed b s = match (s.bay b).state with
      | .empty | .off => false
      | .settling | .ident | .waiting | .admitted => decide (elapsed % 1000 < 500)
      | .powering | .stopping | .shedding => decide (elapsed % 250 < 125)
      | .online => true
      | .fault => decide (elapsed % 2000 < 200 ∨ (400 ≤ elapsed % 2000 ∧ elapsed % 2000 < 600))) ∧
  (let pattern := fun (st : BayState) => match st with
      | .empty | .off => 0
      | .settling | .ident | .waiting | .admitted => 1
      | .powering | .stopping | .shedding => 2
      | .online => 3
      | .fault => 4
   (∀ (b : BayIx) (st : BayState) (s : State), ((setState b st s).bay b).ledSince =
      if pattern (s.bay b).state = pattern st then (s.bay b).ledSince else s.now) ∧
   ∀ (b : BayIx) (c : Instr) (s t : State), exec c s = .next t →
      ((t.bay b).ledSince = (s.bay b).ledSince ∨ (t.bay b).ledSince = t.now) ∧
      (pattern (s.bay b).state ≠ pattern (t.bay b).state → (t.bay b).ledSince = t.now) ∧
      (RampOk s → ListsOk s → BudgetOk s → (∀ porst straps fans, c ≠ .powerOnReset porst straps fans) →
        pattern (s.bay b).state = pattern (t.bay b).state → pattern (t.bay b).state ≠ 2 →
        (t.bay b).ledSince = (s.bay b).ledSince))

/-- At most one bay is in POWERING, and it is the bay the ramp channel is RAMPING (R88); the waiting list holds
exactly the WAITING bays, in the order of their priorities and waiting stamps, and the ramp queue exactly the
ADMITTED ones (R69, R89). -/
def Obligations.PowerListsHoldTheirBays : Prop := KeptByEveryStep fun s => RampOk s ∧ ListsOk s

/-- The allocations of bays not in SHEDDING never exceed B, nor a zone's its limit (R67). -/
def Obligations.AllocationsStayWithinBudget : Prop := KeptByEveryStep BudgetOk

/-- B and the counted capacities follow the supply records, the mode and the overhead (R63, R64). -/
def Obligations.BudgetFollowsSupplies : Prop := KeptByEveryStep SuppliesOk

/-- A zone's output holds its floors, is 1000 with an unhealthy fan, and drives C (R115, R117); its limit is the
cooling of its healthy fans, held to the critical limit while CRITICAL (R66). -/
def Obligations.FanOutputHoldsItsFloors : Prop := KeptByEveryStep OutputsOk

/-- No two station entries share an address, and LEARNED entries name forwarding bays (R142). -/
def Obligations.StationTableKeepsItsLaws : Prop := KeptByEveryStep StationsOk

/-- A bay's active uplink is UP, is one it names, and is held only while the bay forwards (R131). -/
def Obligations.ActiveUplinkIsUpAndNamed : Prop := KeptByEveryStep ActiveUplinksOk

/-- The inventory store holds whole records: contiguous runs with the mark clear on the first slot alone, blocks in
order, as long as their header's block count, and one record for an owner (R52); an owner that is absent or
whose header has not been accepted holds none; only an owner in IDENT has a read in flight (R45, R51). The next block
of a read is at least 1, in HEADER too: log 9. -/
def Obligations.StoreKeepsItsRecords : Prop := KeptByEveryStep StoreOk

/-- The agent: at most four frames queued and four unicast managers listed, a current manager exactly while MANAGED,
the silence timer then only, and some uplink trusted (R168 to R170, R180, R152). Each composite's hit counter
stays below its threshold, and its total hits within 32 bits (R157, R159). -/
def Obligations.AgentAndCompositesKeepTheirLaws : Prop := KeptByEveryStep AgentOk ∧ KeptByEveryStep CompositesOk

/-! ### Events and conditions (chapter 10) -/

/-- When a change takes the event queue from empty to holding events while MANAGED, one attention frame goes
to the current manager on its uplink if that is UP, with the queue's length and the number of unacknowledged
entries as they stand; in every other case nothing is sent (R178, R194). -/
def Obligations.AttentionFrameAnnouncesEvents : Prop :=
  ∀ (before s : State) (m : Manager),
    (before.events.queue = [] → s.events.queue ≠ [] → s.agent.managed = true → s.agent.manager = some m →
      framePayload (attentionFrame m s) =
        [1, 2, 0, 0, 0, 0, 0, 0] ++ u8 s.events.queue.length ++ u8 s.unacked ++ List.replicate 36 0 ∧
      frameDst (attentionFrame m s) = m.addr ∧ frameType (attentionFrame m s) = controlType ∧
      ((s.uplink m.uplink).up = true →
        promptAttention before s =
          { s.countUplink m.uplink (fun c => { c with framesOut := sat32 c.framesOut }) with
            sent := s.sent ++ [.uplink m.uplink (attentionFrame m s)] }) ∧
      ((s.uplink m.uplink).up = false → promptAttention before s = s)) ∧
    (before.events.queue ≠ [] ∨ s.events.queue = [] ∨ s.agent.managed = false →
      promptAttention before s = s)

/-- READ_EVENTS returns and removes the oldest events, reports and clears the lost count, and is TRUNCATED when
it returns fewer than asked for (R185); SET_EVENT_LIMIT clamps the limit to 8–64, discards the newest events
beyond it and counts them (R186). An event is appended while there is room, and discarded and counted at the
limit (R183, R184). Widths in the bodies: log 12. -/
def Obligations.EventRequestsAct : Prop :=
  (∀ (count : Byte) (s : State), s.porstLow = false → s.events.queue.length ≤ 64 →
    let q := s.events.queue
    let n := min count.toNat q.length
    exec (.readEvents count) s = .next (answer (if n = count.toNat then .ok else .truncated)
      (u8 n ++ u8 (q.length - n) ++ u16 s.events.lost ++ (q.take n).flatMap Event.bytes)
      { s with events := { s.events with queue := q.drop n, lost := 0 } })) ∧
  (∀ (limit : Byte) (s : State), s.porstLow = false →
    let n := if limit.toNat < 8 then 8 else if 64 < limit.toNat then 64 else limit.toNat
    let lost := min (s.events.lost + (s.events.queue.length - n)) 65535
    exec (.setEventLimit limit) s = .next (answer (if n = limit.toNat then .ok else .clamped)
      (u8 n ++ u8 (min n s.events.queue.length) ++ u16 lost)
      { s with events := ⟨s.events.queue.take n, n, lost⟩ })) ∧
  (∀ (k : EventKind) (w : Subject) (detail : Nat) (data : Int) (s : State),
    let t := raise k w detail data s
    (s.events.queue.length < s.events.limit →
      t.events.queue = s.events.queue ++
        [⟨k, w, BitVec.ofNat 8 detail, BitVec.ofNat 32 (s.now / 1000), BitVec.ofInt 32 data⟩] ∧
      t.events.lost = s.events.lost) ∧
    (s.events.limit ≤ s.events.queue.length →
      t.events.queue = s.events.queue ∧ t.events.lost = min (s.events.lost + 1) 65535) ∧
    t = { s with events := { t.events with limit := s.events.limit } })

/-- ACK_CONDITION by its checks in order: an unknown kind, an index beyond the kind's count, no entry, and
otherwise the entry acknowledged, or removed when it is inactive, with FAULT_IND judged again (R190). -/
def Obligations.AckConditionByCase : Prop :=
  ∀ (s : State), s.porstLow = false →
    (∀ kind index : Byte, kind.toNat = 0 ∨ 5 < kind.toNat →
      ∃ body, exec (.ackCondition kind index) s = answered s .badValue body) ∧
    (∀ kind index : Byte, ([14, 3, 6, 6, 12].getD (kind.toNat - 1) 0) ≤ index.toNat →
      1 ≤ kind.toNat → kind.toNat ≤ 5 → exec (.ackCondition kind index) s = answered s .outOfRange []) ∧
    (∀ k : CondKey, (∀ c ∈ s.conditions, c.key ≠ k) →
      ∃ body, exec (.ackCondition (BitVec.ofNat 8 k.kindCode) (BitVec.ofNat 8 k.index)) s =
        answered s .notPresent body) ∧
    (∀ k : CondKey, (∃ c ∈ s.conditions, c.key = k) →
      ∃ t, exec (.ackCondition (BitVec.ofNat 8 k.kindCode) (BitVec.ofNat 8 k.index)) s = .next t ∧
        t = { s with conditions := t.conditions, faultInd := t.faultInd, answer := t.answer } ∧
        t.answer.map (·.status) = some .ok ∧
        (∀ c, c ∈ t.conditions ↔
          (c ∈ s.conditions ∧ c.key ≠ k) ∨
          ∃ d ∈ s.conditions, d.key = k ∧ d.active = true ∧ c = { d with acked := true }) ∧
        t.faultInd = t.conditions.any fun c => !c.acked)

/-! ### Queries -/

/-- The queries that carry no body, QUERY_BAY, and a READ_CONDITIONS of a whole set answer OK and change
nothing; an index beyond B13 answers OUT_OF_RANGE with an empty body (R22, R87, R128, R154, R166, R179,
R191). Widths in the bodies: log 12; the two actions of a composite: log 31; groups of
fixed size without a count: log 32; the time left on a hold timer in seconds: log 28. -/
def Obligations.QueriesChangeNothing : Prop :=
  ∀ (s : State), s.porstLow = false →
    exec .queryChassis s = answered s .ok (chassisBody s) ∧
    exec .queryPower s = answered s .ok (powerBody s) ∧
    exec .queryThermal s = answered s .ok (thermalBody s) ∧
    exec .queryTraffic s = answered s .ok (trafficBody s) ∧
    exec .queryWatch s = answered s .ok (watchBody s) ∧
    (∀ b : BayIx, exec (.queryBay (BitVec.ofNat 8 b.val)) s = answered s .ok (bayBody b s)) ∧
    (∀ n : Byte, 13 < n.toNat → exec (.queryBay n) s = answered s .outOfRange []) ∧
    (s.conditions.length ≤ 41 → exec .readConditions s = answered s .ok
      (u8 s.conditions.length ++ u8 s.unacked ++ u8 s.conditions.length ++ u8 0 ++
        s.conditions.flatMap Condition.bytes))

/-! ### Bays (chapter 1) -/

/-- A presence sample moves a bay between EMPTY, SETTLING and IDENT, and removes the blade of a later state at the
second consecutive absent sample (R10 to R12). The attention button is sampled only outside EMPTY and SETTLING:
the third pressed sample is a press, which powers an OFF bay with press_to_start and does no more elsewhere; in the
pressed condition every sample adds 10 ms, a hold is due at 4 s and each 2 s after it, the first stops an ONLINE bay,
the second forces an ONLINE, STOPPING or SHEDDING bay off, and any other hold is an event alone; the third released
sample ends the push, however long it was (R13, R14). The sample's own 10 ms are counted before the release: log 8. -/
def Obligations.BaySamplesAct : Prop :=
  (∀ (b : BayIx) (s : State), s.porstLow = false →
    let counted := fun p => s.modBay b (Bay.samplePresence p)
    ((s.bay b).state = .empty →
      exec (.presenceSample b true) s = completed s (setState b .settling (s.modBay b fun y =>
        { y with presenceLine := some true, presentRun := 1, absentRun := 0 })) ∧
      exec (.presenceSample b false) s = completed s (counted false)) ∧
    ((s.bay b).state = .settling →
      exec (.presenceSample b false) s = completed s (enterEmpty b (counted false)) ∧
      ((s.bay b).presentRun + 1 < 20 → exec (.presenceSample b true) s = completed s (counted true)) ∧
      (20 ≤ (s.bay b).presentRun + 1 → exec (.presenceSample b true) s =
        completed s (raise .bayInserted (.bay b) 0 0 (enterIdent b (counted true))))) ∧
    ((s.bay b).state ≠ .empty → (s.bay b).state ≠ .settling →
      exec (.presenceSample b true) s = completed s (counted true) ∧
      ((s.bay b).absentRun = 0 → exec (.presenceSample b false) s = completed s (counted false)) ∧
      (1 ≤ (s.bay b).absentRun →
        exec (.presenceSample b false) s = completed s (removeBlade b (counted false))))) ∧
  (∀ (b : BayIx) (p : Bool) (s : State), s.porstLow = false →
    let a := (s.bay b).attention
    let run := exec (.attentionSample b p) s
    let with_ := fun (a : Attention) (s : State) => s.modBay b fun y => { y with attention := a }
    let pressedRun := if p then a.pressedRun + 1 else 0
    let releasedRun := if p then 0 else a.releasedRun + 1
    (((s.bay b).state = .empty ∨ (s.bay b).state = .settling) → run = completed s s) ∧
    ((s.bay b).state ≠ .empty → (s.bay b).state ≠ .settling → a.pressed = false →
      (p = false ∨ pressedRun < 3 →
        run = completed s (with_ { a with pressedRun := pressedRun, releasedRun := releasedRun } s)) ∧
      (p = true → 3 ≤ pressedRun →
        let t := raise .attnPress (.bay b) 0 (s.bay b).state.code
          (with_ ⟨pressedRun, releasedRun, true, 0, a.holdCount⟩ s)
        run = completed s (if (s.bay b).state = .off ∧ (s.bay b).settings.pressToStart = true then
          admissionPass (enterWaiting b t) else t))) ∧
    ((s.bay b).state ≠ .empty → (s.bay b).state ≠ .settling → a.pressed = true →
      let held := a.timeHeld + 10
      let due := ∃ k, held = 4000 + 2000 * k
      let n := min (a.holdCount + 1) 255
      let counted := with_ { a with pressedRun := pressedRun, releasedRun := releasedRun, timeHeld := held } s
      let raised := raise .attnHold (.bay b) 0 n
        (with_ ⟨pressedRun, releasedRun, true, held, n⟩ s)
      let released := with_ ⟨pressedRun, releasedRun, false, 0, 0⟩
      let ends := p = false ∧ 3 ≤ releasedRun
      (¬ due → ¬ ends → run = completed s counted) ∧
      (¬ due → ends → run = completed s (released s)) ∧
      (due →
        let t := if n = 1 ∧ (s.bay b).state = .online then enterStopping b raised
          else if n = 2 ∧ (s.bay b).state.forwarding = true then powerOffToOff b offForced raised
          else raised
        (¬ ends → run = completed s t) ∧ (ends → run = completed s (released t)))))

/-- Removal leaves the bay in EMPTY with both enables deasserted, every blade field of Table 1-2 cleared, the levels
and the cap timer of its cap record too (R68), its link engine as at reset, and its slot settings, presence line and
counters kept; out of the waiting list and the ramp queue, without its condition entry, without LEARNED station
entries, without a record, and with no read in flight (R12, R2); every slot of its record is free, also one of a read
that was in flight (R51, R54). RAMPING ends for a POWERING bay, with the channel in SETTLING. BAY_REMOVED is raised
with the state the bay was in, and an admission pass follows when the allocation was not 0. -/
def Obligations.RemovalReleasesEverything : Prop :=
  ∀ (b : BayIx) (s : State), StationsOk s → RampOk s →
    let old := s.bay b
    let t := removeBlade b s
    t.bay b = { old with
      state := .empty, standbyEnable := false, mainEnable := false, presentRun := 0, absentRun := 0
      attention := ⟨0, 0, false, 0, 0⟩, header := none, alloc := 0, admissionStamp := none, waitingStamp := none
      stopRequested := false, activeUplink := none, linkLost := false
      sticky := ⟨false, false, false, false, false⟩, inlet := none, runState := none, faultCause := none
      deadline := none, lastDecided := none, applied := none, capTimer := none, link := BayLink.reset
      read := none, record := none
      pgoodHigh := (t.bay b).pgoodHigh, pgoodLow := (t.bay b).pgoodLow, ledSince := (t.bay b).ledSince } ∧
    b ∉ t.alloc.waiting ∧ b ∉ t.ramp.queue ∧ t.ramp.state ≠ .ramping b ∧
    (old.state = .powering → t.ramp.iref = 0 ∧ t.ramp.rampTimer = none ∧
      (s.ramp.settleTime ≠ 0 → t.ramp.state = .settling ∧
        t.ramp.settleTimer = some (s.now + s.ramp.settleTime)) ∧
      (s.ramp.settleTime = 0 → t.ramp.state = .idle)) ∧
    t.conditions = s.conditions.filter (fun c => decide (c.key ≠ .bayFault b)) ∧
    t.faultInd = (t.conditions.any fun c => !c.acked) ∧
    t.events = (raise .bayRemoved (.bay b) 0 old.state.code s).events ∧
    (∀ i e, t.stations.entries.get i = some e → e.isLearned = true → e.bay ≠ b) ∧
    (StoreOk s → ∀ i, (t.store.slots.get i).owner ≠ some (.bay b)) ∧
    ∃ u, t = (if 0 < old.alloc then admissionPass u else u) ∧
      u.bay b = t.bay b ∧ (∀ c, c ≠ b → u.bay c = s.bay c) ∧
      u.alloc = { s.alloc with waiting := s.alloc.waiting.filter fun c => decide (c ≠ b) } ∧
      u.ramp.queue = s.ramp.queue.filter (fun c => decide (c ≠ b)) ∧
      (old.state ≠ .powering → u.ramp = { s.ramp with queue := u.ramp.queue }) ∧
      u = { s with bays := u.bays, alloc := u.alloc, ramp := u.ramp, stations := u.stations, store := u.store
                   events := t.events, conditions := t.conditions, faultInd := t.faultInd }

/-- The outcomes of BAY_ACTION ON, CLEAR_FAULT, RECHECK, STOP and FORCE_OFF in every state (R15 to R19, Table 1-7):
ON powers an OFF bay; CLEAR_FAULT and RECHECK remove or end the BAY_FAULT entry, free the old record and enter IDENT
where they are allowed; STOP and FORCE_OFF take the bay off by its state; elsewhere each is refused or finds nothing
to do. A WAITING bay goes to OFF without an admission pass: log 20. Entry to STOPPING sets the pending STOP, starts
the stop timer with its deadline as the operation deadline, stops the cap timer and keeps the allocation and a level
left in the pending-cap slot (R97, R84, R68). Entry to IDENT clears the header, the fault cause, stop_requested, the
inlet, the run state and the link status, asserts standby and begins an identity read, which asks for block 0 (R6,
R45). As a record BAY_ACTION carries the action's code: 0 to 4 act as the five rows, and any other code answers
BAD_VALUE (R15). -/
def Obligations.BayActionByState : Prop :=
  (∀ (s : State), s.porstLow = false →
    (∀ n : Byte, 13 < n.toNat →
      exec (.bayActionOn n) s = completed s (answer .outOfRange [] s) ∧
      exec (.bayActionClearFault n) s = completed s (answer .outOfRange [] s) ∧
      exec (.bayActionRecheck n) s = completed s (answer .outOfRange [] s)) ∧
    ∀ b : BayIx,
      let kept := fun (st : Status) => answer st (u8 (s.bay b).state.code) s
      let anew := fun (t : State) => answer .ok [2] (enterIdent b (releaseRecord (.bay b) t))
      exec (.bayActionOn (BitVec.ofNat 8 b.val)) s = completed s
        (match (s.bay b).state with
        | .empty | .settling => kept .notPresent
        | .ident => kept .busy
        | .off =>
          answer .ok (u8 ((admissionPass (enterWaiting b s)).bay b).state.code) (admissionPass (enterWaiting b s))
        | .waiting | .admitted | .powering | .online => kept .ok
        | .stopping | .shedding | .fault => kept .wrongState) ∧
      exec (.bayActionClearFault (BitVec.ofNat 8 b.val)) s = completed s
        (match (s.bay b).state with
        | .empty | .settling => kept .notPresent
        | .fault => anew (removeCondition (.bayFault b) s)
        | _ => kept .wrongState) ∧
      exec (.bayActionRecheck (BitVec.ofNat 8 b.val)) s = completed s
        (match (s.bay b).state with
        | .empty | .settling => kept .notPresent
        | .ident => kept .busy
        | .off => anew s
        | .fault => anew (endCondition (.bayFault b) s)
        | _ => kept .wrongState)) ∧
  (∀ (s : State), s.porstLow = false →
    (∀ n : Byte, 13 < n.toNat →
      exec (.bayActionStop n) s = completed s (answer .outOfRange [] s) ∧
      exec (.bayActionForceOff n) s = completed s (answer .outOfRange [] s)) ∧
    ∀ b : BayIx,
      let kept := fun (st : Status) => answer st (u8 (s.bay b).state.code) s
      let done := fun (t : State) => answer .ok (u8 (t.bay b).state.code) t
      let dequeued := (leaveRampQueue b s).modBay b fun y => { y with alloc := 0 }
      exec (.bayActionStop (BitVec.ofNat 8 b.val)) s = completed s
        (match (s.bay b).state with
        | .empty | .settling => kept .notPresent
        | .ident => kept .busy
        | .off | .stopping => kept .ok
        | .waiting => done (setState b .off (leaveWaiting b s))
        | .admitted => done (admissionPass (setState b .off dequeued))
        | .powering => done (powerOffToOff b offForced s)
        | .online => done (enterStopping b s)
        | .shedding => done (s.modBay b fun y => { y with stopRequested := true })
        | .fault => kept .wrongState) ∧
      exec (.bayActionForceOff (BitVec.ofNat 8 b.val)) s = completed s
        (match (s.bay b).state with
        | .empty | .settling => kept .notPresent
        | .ident => kept .busy
        | .off => kept .ok
        | .waiting => done (setState b .off (leaveWaiting b s))
        | .admitted => done (admissionPass (setState b .off dequeued))
        | .powering | .online | .stopping | .shedding => done (powerOffToOff b offForced s)
        | .fault => kept .wrongState)) ∧
  (∀ (b : BayIx) (s : State),
    let old := s.bay b
    (let t := enterStopping b s
     let deadline := s.now + s.ramp.stopTimeout * 1000
     t.bay b = { old with
       state := .stopping, standbyEnable := true, mainEnable := true, deadline := some deadline
       capTimer := none, lastDecided := none, ledSince := (t.bay b).ledSince
       link := { old.link with pendingStop := true } } ∧
     (old.state = .online → (t.bay b).ledSince = s.now) ∧
     (∀ c, c ≠ b → t.bay c = s.bay c) ∧ t = { s with bays := t.bays }) ∧
    (let t := enterIdent b s
     (∃ next, t.bay b = { old with
       state := .ident, standbyEnable := true, mainEnable := false, header := none, faultCause := none
       stopRequested := false, inlet := none, runState := none, linkLost := false
       ledSince := (t.bay b).ledSince, link := { old.link with identRequest := some 0 }
       read := some { phase := .header, attempts := 0, blockCount := none, nextBlock := next, retry := []
                      invalidCount := 0, stored := false } }) ∧
     (∀ c, c ≠ b → t.bay c = s.bay c) ∧ t = { s with bays := t.bays })) ∧
  (∀ (tag : BitVec 16) (n : Byte) (room : Nat) (s : State), s.porstLow = false →
    let asRecord := fun (code : Byte) (u : State) => (⟨0x12, tag, [n, code]⟩ : Record).execute room u
    exec (.bayActionOn n) s = .next (change (asRecord 0) s) ∧
    exec (.bayActionStop n) s = .next (change (asRecord 1) s) ∧
    exec (.bayActionForceOff n) s = .next (change (asRecord 2) s) ∧
    exec (.bayActionClearFault n) s = .next (change (asRecord 3) s) ∧
    exec (.bayActionRecheck n) s = .next (change (asRecord 4) s) ∧
    ∀ (code : Byte) (b : BayIx), 4 < code.toNat → n.toNat = b.val →
      asRecord code s = answer .badValue (u8 (s.bay b).state.code) s)

/-- SET_BAY is checked whole before it changes anything, and an accepted one changes the selected settings, for every
selection: a priority is clamped to 7 and re-sorts a WAITING bay with an admission pass, and a changed uplink
makes a fresh selection for a forwarding bay. A zone other than the present one is a zone change: WRONG_STATE from
WAITING to SHEDDING, BAD_VALUE when the bay's floor is above the new zone's full-health cooling limit (R20,
R21). -/
def Obligations.SetBayChecksThenChanges : Prop :=
  ∀ (s : State) (sel priority auto press zone primary alternate group : Byte), s.porstLow = false →
    (∀ n : Byte, 13 < n.toNat → exec (.setBay n sel priority auto press zone primary alternate group) s =
      completed s { s with answer := some ⟨.outOfRange, []⟩ }) ∧
    ∀ b : BayIx,
      let old := (s.bay b).settings
      let run := exec (.setBay (BitVec.ofNat 8 b.val) sel priority auto press zone primary alternate group) s
      ((sel.getLsbD 1 && 1 < auto.toNat || sel.getLsbD 2 && 1 < press.toNat || sel.getLsbD 3 && 2 < zone.toNat ||
          sel.getLsbD 4 && 3 < primary.toNat ||
          sel.getLsbD 5 && 3 < alternate.toNat && alternate.toNat ≠ 255 ||
          sel.getLsbD 6 && 15 < group.toNat) = true →
        run = completed s { s with answer := some ⟨.badValue, old.bytes⟩ }) ∧
      ∀ new : BaySettings,
        new.priority = (if sel.getLsbD 0 then min priority.toNat 7 else old.priority) →
        (if sel.getLsbD 1 then auto.toNat = new.autoPower.toNat else new.autoPower = old.autoPower) →
        (if sel.getLsbD 2 then press.toNat = new.pressToStart.toNat else new.pressToStart = old.pressToStart) →
        (if sel.getLsbD 3 then zone.toNat = new.zone.val else new.zone = old.zone) →
        (if sel.getLsbD 4 then primary.toNat = new.primary.val else new.primary = old.primary) →
        (if sel.getLsbD 5 then alternate.toNat = new.alternate.elim 255 (·.val) else new.alternate = old.alternate) →
        (if sel.getLsbD 6 then group.toNat = new.group.val else new.group = old.group) →
        let tooLow := ∃ h, (s.bay b).header = some h ∧ (s.zone new.zone).settings.cooling2 < h.floorWatts
        (new.zone ≠ old.zone → (s.bay b).state.zoneChangeable = false →
          run = completed s { s with answer := some ⟨.wrongState, old.bytes⟩ }) ∧
        (new.zone ≠ old.zone → (s.bay b).state.zoneChangeable = true → tooLow →
          run = completed s { s with answer := some ⟨.badValue, old.bytes⟩ }) ∧
        (new.zone = old.zone ∨ ((s.bay b).state.zoneChangeable = true ∧ ¬ tooLow) →
          let kept := s.modBay b fun y => { y with settings := new }
          let moved := if (new.primary ≠ old.primary ∨ new.alternate ≠ old.alternate) ∧
              (s.bay b).state.forwarding = true then selectUplink b kept else kept
          run = completed s (answer (if sel.getLsbD 0 = true ∧ 7 < priority.toNat then .clamped else .ok) new.bytes
            (if new.priority ≠ old.priority ∧ (s.bay b).state = .waiting then
              admissionPass (joinWaiting b (leaveWaiting b moved)) else moved)))

/-! ### Links (chapter 2) -/

/-- A well-formed response is received as its payload: fed to an engine in AWAIT_START with a transaction in flight,
the start byte, the length, a payload that fits the transaction, and the check byte, all with good parity and stop
bits, end in success with that payload, whatever stands in the engine's receive fields (R26, R27, R195). A character
in AWAIT_START or RECEIVING without its stop bit is a FRAMING failure, one with its stop bit and odd parity a PARITY
failure, and a length above the fixed one an OVERRUN; at the check byte a sum other than 0, or a frame that does not
fit its transaction, is BAD_CHECK, and a fitting one goes to its owner with the engine IDLE (R27, R195, Table 11-12).
A character in AWAIT_START other than the start byte is discarded with the response timer running on; one in IDLE,
SENDING or QUIET is discarded without a flag (R26 to R28). -/
def Obligations.ResponsesAreReceivedAndJudged : Prop :=
  (∀ (t : Txn) (p : List Byte), fits t p = true ↔ match t with
    | .readBlock i => p.length = 19 ∧ byteAt p 0 = 1 ∧ (byteAt p 1).toNat = i
    | .status => p.length = 5 ∧ byteAt p 0 = 2 ∧ (byteAt p 1).toNat ≤ 2
    | .cap _ _ => p.length = 3 ∧ byteAt p 0 = 3
    | .stop => p.length = 1 ∧ byteAt p 0 = 4
    | .supplyReadBlock a i => p.length = 20 ∧ (byteAt p 0).toNat = a.val ∧ byteAt p 1 = 1 ∧ (byteAt p 2).toNat = i
    | .supplyStatus a => p.length = 3 ∧ (byteAt p 0).toNat = a.val ∧ byteAt p 1 = 2) ∧
  (∀ (now : Nat) (t : Txn) (e : Engine) (p : List Byte), fits t p = true →
    e.state = .awaitStart → e.inFlight = some t →
    ∃ e', (([0x5A] ++ u8 p.length ++ p).foldl (fun r d =>
        match r with
        | CharResult.goOn e => e.onChar now ⟨d, parityBit d, true⟩
        | other => other) (CharResult.goOn e)) = .goOn e' ∧
      e'.onChar now ⟨frameCheck p, parityBit (frameCheck p), true⟩ = .done p) ∧
  (∀ (l : Link) (c : LinkChar) (s : State), s.porstLow = false →
    let e := engineOf l s
    ((e.state = .awaitStart ∨ e.state = .receiving) → c.stop = false →
      exec (.linkCharacter l c) s = completed s (failTxn l .framing (Engine.quiet s.now) s)) ∧
    ((e.state = .awaitStart ∨ e.state = .receiving) → c.stop = true → c.parity ≠ parityBit c.data →
      exec (.linkCharacter l c) s = completed s (failTxn l .parity (Engine.quiet s.now) s)) ∧
    (∀ t, e.state = .receiving → e.rxLength = none → e.inFlight = some t → c.stop = true →
      c.parity = parityBit c.data → t.responseLength < c.data.toNat →
      exec (.linkCharacter l c) s = completed s (failTxn l .overrun (Engine.quiet s.now) s)) ∧
    (∀ t, e.state = .receiving → e.rxLength = none → e.inFlight = some t → c.stop = true →
      c.parity = parityBit c.data → c.data.toNat ≤ t.responseLength →
      exec (.linkCharacter l c) s = completed s (setEngine l { e with rxLength := some c.data } s)) ∧
    (∀ t len, e.state = .receiving → e.rxLength = some len → e.inFlight = some t → c.stop = true →
      c.parity = parityBit c.data →
      let sum := e.rx.foldl (· + ·) len + c.data
      (e.rx.length < len.toNat →
        exec (.linkCharacter l c) s = completed s (setEngine l { e with rx := e.rx ++ [c.data] } s)) ∧
      (len.toNat ≤ e.rx.length → sum ≠ 0 ∨ fits t e.rx = false →
        exec (.linkCharacter l c) s = completed s (failTxn l .badCheck (Engine.quiet s.now) s)) ∧
      (len.toNat ≤ e.rx.length → sum = 0 → fits t e.rx = true →
        exec (.linkCharacter l c) s = completed s (match l with
          | .bay b => bayTxnDone b t e.stale e.rx (setEngine l Engine.reset s)
          | .supply => supplyTxnDone t e.rx (setEngine l Engine.reset s)))) ∧
    (e.state = .awaitStart → c.stop = true → c.parity = parityBit c.data → c.data ≠ 0x5A →
      exec (.linkCharacter l c) s = completed s (setEngine l e s)) ∧
    (e.state = .awaitStart → c.stop = true → c.parity = parityBit c.data → c.data = 0x5A →
      exec (.linkCharacter l c) s = completed s (setEngine l
        { e with state := .receiving, timer := some (s.now + 50), rxLength := none, rx := [] } s)) ∧
    ((e.state = .idle ∨ e.state = .sending) → exec (.linkCharacter l c) s = completed s (setEngine l e s)) ∧
    (e.state = .quiet → exec (.linkCharacter l c) s =
      completed s (setEngine l { e with silence := some (s.now + 2) } s)))

/-- The link events: REQUEST_SENT moves SENDING to AWAIT_START with 50 ms; the response timer fails the
transaction and goes to IDLE, the completion window fails it and goes to QUIET; QUIET ends in IDLE; the poll
timer sets poll due and the round timer a round, each restarting its timer (R25 to R28, R36, R40). An expiry
moves the clock to its deadline: log 1. -/
def Obligations.LinkTimersAct : Prop :=
  ∀ (s : State), s.porstLow = false →
    (∀ l, (engineOf l s).state = .sending → exec (.requestSent l) s =
      .next (setEngine l { engineOf l s with state := .awaitStart, timer := some (s.now + 50) } s)) ∧
    (∀ l d, (engineOf l s).state = .awaitStart → (engineOf l s).timer = some d →
      exec (.responseTimerExpiry l) s = completed s (failTxn l .noResponse Engine.reset (s.reach d))) ∧
    (∀ l d, (engineOf l s).state = .receiving → (engineOf l s).timer = some d →
      exec (.completionWindowExpiry l) s =
        completed s (failTxn l .noResponse (Engine.quiet (max s.now d)) (s.reach d))) ∧
    (∀ l d q, (engineOf l s).state = .quiet → (engineOf l s).timer = some d → (engineOf l s).silence = some q →
      exec (.quietEnd l) s = completed s (setEngine l Engine.reset (s.reach (min q d)))) ∧
    (∀ b d, (s.bay b).state.forwarding = true → (s.bay b).link.pollTimer = some d →
      exec (.pollTimerExpiry b) s = completed s ((s.reach d).modLink b fun x =>
        { x with pollDue := true, pollTimer := some (max s.now d + 1000) })) ∧
    exec .roundTimerExpiry s = completed s { s.reach s.supplyLink.roundTimer with
      supplyLink := { s.supplyLink with
        roundDue := true, roundTimer := max s.now s.supplyLink.roundTimer + 1000 } }

/-- What a bay link engine hands on and what its owner makes of it. A failure sets the sticky flag of its name alone
(R28, R29). A third failed poll in a row makes the link LOST with LINK_LOST and the inlet missing, and a successful
one stores what it reports, clears the count and restores a LOST link (R37, R38); READY_OFF ends a stop or a shed. A
failed CAP is put back once for a retry, is superseded by a newer level, and else is a cap failure, as are an
acknowledgement above its level and a level taken on a LOST link (R32, R33, R83). A CAP that fails on a LOST link:
log 21. Transactions sent before an exit from the main-powered states: log 14. LINK_RESTORED before BAY_OFF: log 7. A
successful poll that ends in IDENT is discarded with its applied level: log 33. An acknowledged STOP leaves no trace
(R34): log 35. -/
def Obligations.BayLinkOutcomesAct : Prop :=
  (∀ (b : BayIx) (c : LinkChar) (p : List Byte) (x : Txn) (s : State), s.porstLow = false →
    let e := (s.bay b).link.engine
    e.onChar s.now c = .done p → e.inFlight = some x →
    exec (.linkCharacter (.bay b) c) s =
      completed s (bayTxnDone b x e.stale p (s.modLink b fun l => { l with engine := Engine.reset }))) ∧
  (∀ (f : Sticky) (k : FailKind), f.set k = ⟨f.parity || decide (k = .parity), f.framing || decide (k = .framing),
    f.overrun || decide (k = .overrun), f.noResponse || decide (k = .noResponse),
    f.badCheck || decide (k = .badCheck)⟩) ∧
  ∀ (b : BayIx) (s : State),
    let y := s.bay b
    (∀ x k next, y.link.engine.inFlight = some x → failTxn (.bay b) k next s =
      bayTxnFailed b x y.link.engine.stale k
        (s.modBay b fun y => { y with sticky := y.sticky.set k, link := { y.link with engine := next } })) ∧
    (∀ stale k,
      let n := min (y.link.failedPolls + 1) 3
      let counted := s.modLink b fun l => { l with failedPolls := n }
      let run := bayTxnFailed b .status stale k s
      (stale = true ∨ y.state.forwarding = false → run = s) ∧
      (stale = false → y.state.forwarding = true →
        (y.linkLost = false → n < 3 → run = counted) ∧
        (y.linkLost = false → n = 3 → run = raise .linkLost (.bay b) k.code 0
          (counted.modBay b fun y => { y with linkLost := true, inlet := none })) ∧
        (y.linkLost = true → run = counted.modBay b fun y => { y with inlet := none }))) ∧
    (∀ level retried stale k,
      let run := bayTxnFailed b (.cap level retried) stale k s
      (stale = true ∨ y.state ≠ .online ∨ y.link.slot ≠ none → run = s) ∧
      (stale = false → y.state = .online → y.link.slot = none →
        (retried = false → y.linkLost = false →
          run = s.modLink b fun l => { l with slot := some ⟨level, true⟩ }) ∧
        (retried = true ∨ y.linkLost = true → run = capFailure b level s))) ∧
    (∀ stale k, bayTxnFailed b .stop stale k s = s) ∧
    (∀ stale p, bayTxnDone b .stop stale p s = s) ∧
    (∀ i stale k, bayTxnFailed b (.readBlock i) stale k s = blockOutcome (.bay b) (.error k) s) ∧
    (∀ i stale p, bayTxnDone b (.readBlock i) stale p s =
      blockOutcome (.bay b) (.ok ((p.drop 2).take 16, byteAt p 18)) s) ∧
    (∀ stale p (r : RunState), byteAt p 1 = BitVec.ofNat 8 r.code →
      let code := (byteAt p 2).toInt
      let stored := s.modBay b fun y => { y with
        runState := some r
        inlet := if -40 ≤ code ∧ code ≤ 125 then some (code * 10) else none
        applied := some (wordAt p 3).toNat }
      let cleared := stored.modLink b fun l => { l with failedPolls := 0 }
      let kept := if y.linkLost = true then
          raise .linkRestored (.bay b) 0 0 (cleared.modBay b fun y => { y with linkLost := false })
        else cleared
      let run := bayTxnDone b .status stale p s
      (y.state = .ident → run = s) ∧
      (y.state ≠ .ident → stale = true ∨ y.state.forwarding = false → run = stored) ∧
      (stale = false → y.state.forwarding = true →
        (r ≠ .readyOff ∨ y.state = .online → run = kept) ∧
        (r = .readyOff → y.state = .stopping → run = powerOffToOff b offReady kept) ∧
        (r = .readyOff → y.state = .shedding → y.settings.autoPower = true → y.stopRequested = false →
          run = admissionPass (enterWaiting b (powerOff b kept))) ∧
        (r = .readyOff → y.state = .shedding → y.settings.autoPower = false ∨ y.stopRequested = true →
          run = powerOffToOff b offReady kept))) ∧
    (∀ level retried stale p,
      let level' := (wordAt p 1).toNat
      let stored := s.modBay b fun y => { y with applied := some level' }
      let run := bayTxnDone b (.cap level retried) stale p s
      (level' ≤ level → y.lastDecided = some level → run = stored.modBay b fun y => { y with capTimer := none }) ∧
      (level' ≤ level → y.lastDecided ≠ some level → run = stored) ∧
      (level < level' → stale = false → run = capFailure b level stored) ∧
      (level < level' → stale = true → run = stored)) ∧
    (∀ c, y.linkLost = true → takeWork b (.cap c) s =
      capFailure b c.level (s.modLink b fun l => { l with slot := none })) ∧
    (∀ level,
      (y.lastDecided = some level → y.state = .online →
        capFailure b level s = shedPass (shedOnlineBay shedCapFailure b s)) ∧
      (y.lastDecided ≠ some level ∨ y.state ≠ .online → capFailure b level s = s))

/-! ### Identity and inventory (chapter 3) -/

/-- READ_IDENTITY by its checks in order: class, index, first block, read in flight, record; a stored record, COMPLETE
or PARTIAL, answers with its state, its first slot and at most the blocks asked for, each with its index, its valid
flag, clear for a block marked invalid, and its data; and nothing is changed (R55, R56). -/
def Obligations.ReadIdentityByCase : Prop :=
  ∀ (cls index first count : Byte) (s : State), s.porstLow = false →
    let run := exec (.readIdentity cls index first count) s
    (cls ≠ 1 → cls ≠ 2 → run = answered s .badValue noIdentity) ∧
    ((cls = 1 ∧ 13 < index.toNat) ∨ (cls = 2 ∧ 5 < index.toNat) → run = answered s .outOfRange []) ∧
    (∀ o, ownerOf cls index = some (some o) →
      (11 < first.toNat → run = answered s .badValue noIdentity) ∧
      (first.toNat ≤ 11 → (readOf o s).isSome = true → run = answered s .busy noIdentity) ∧
      (first.toNat ≤ 11 → readOf o s = none → recordOf o s = none →
        run = answered s .notPresent noIdentity) ∧
      (first.toNat ≤ 11 → readOf o s = none → recordOf o s = some .notStored →
        run = answered s .ok [2, 0xFF, 0, 0]) ∧
      (∀ st start slots, first.toNat ≤ 11 → readOf o s = none → recordOf o s = some st →
        st = .complete ∨ st = .partialRecord → recordSlots o s = some (start, slots) → slots.length ≤ 12 →
        let blocks := (slots.drop first.toNat).take count.toNat
        run = answered s (if blocks.length = count.toNat then .ok else .truncated)
          (u8 (if st = .complete then 0 else 1) ++ u8 start ++ u8 blocks.length ++ u8 0 ++
            blocks.flatMap fun x => u8 x.block ++ u8 (if x.content = .valid then 1 else 0) ++ x.data)))

/-- The outcome of a block that an identity read asked for, by the phase of the read (R43 to R51). A block is good when
its bytes and its check byte sum to 0, and BAD_BLOCK sets no sticky flag. In HEADER a failed block is asked for a
second time and then ends the read; a good one is checked in the order of Table 3-2, for a blade against the
full-health cooling of its zone, and accepted. Pass 1 lists up to 8 failed blocks for pass 2, and pass 2 asks for
each once more. The read ends by its record state. -/
def Obligations.IdentityReadGoesBlockByBlock : Prop :=
  (∀ (d : List Byte) (check : Byte),
    (d.foldl (· + ·) 0 + check = 0 → judgeBlock (.ok (d, check)) = .ok d) ∧
    (d.foldl (· + ·) 0 + check ≠ 0 → judgeBlock (.ok (d, check)) = .error .badBlock)) ∧
  (∀ k, judgeBlock (.error k) = .error k) ∧ (∀ f : Sticky, f.set .badBlock = f) ∧
  ∀ (o : Owner) (res : Except FailKind (List Byte × Byte)) (s : State),
    let run := blockOutcome o res s
    let asking := fun (i : Nat) (r : IdRead) (u : State) => placeRequest o (some i) (setRead o (some r) u)
    (readOf o s = none → run = s) ∧
    (∀ r k, readOf o s = some r → r.phase = .header → judgeBlock res = .error k →
      (r.attempts = 0 → run = asking 0 { r with attempts := 1 } s) ∧
      (r.attempts = 1 → run = readFailed o .identHeader k.code s)) ∧
    (∀ r d, readOf o s = some r → r.phase = .header → judgeBlock res = .ok d →
      let blade := ∃ b, o = .bay b
      let a := (wordAt d 3).toNat
      let w := (wordAt d 5).toNat
      let n := (byteAt d 2).toNat
      let pass : Nat → Prop := fun i =>
        (i = 1 → byteAt d 0 = 1) ∧
        (i = 2 → (blade → byteAt d 1 = 1) ∧ (¬ blade → byteAt d 1 = 2)) ∧
        (i = 3 → 1 ≤ n ∧ n ≤ 12) ∧
        (i = 4 → d.foldl (· ^^^ ·) 0 = 0) ∧
        (i = 5 → (blade → 50 ≤ a ∧ a ≤ 2000 ∧ 50 ≤ w ∧ w ≤ a) ∧
          (¬ blade → 100 ≤ a ∧ a ≤ 4000 ∧ 100 ≤ w ∧ w ≤ 4000)) ∧
        (i = 6 → blade → (byteAt d 7).getLsbD 0 = false → w = a)
      let tooLow := ∃ b, o = .bay b ∧ (s.zone (s.bay b).settings.zone).settings.cooling2 < w
      (∀ i, ¬ pass i → (∀ j, j < i → pass j) → run = readFailed o .identFormat i s) ∧
      ((∀ i, pass i) → tooLow → run = readFailed o .cannotFit w s) ∧
      ((∀ i, pass i) → ¬ tooLow →
        let copied := copyPowerFields o d s
        (∀ b, o = .bay b → copied = s.modBay b fun y => { y with header := some ⟨a, w, (byteAt d 7).getLsbD 0,
          ⟨(byteAt d 7).toNat / 2 % 4, Nat.mod_lt _ (by decide)⟩⟩ }) ∧
        (∀ i, o = .supply i → copied = s.modSupply i fun p => { p with highLine := some a, lowLine := some w }) ∧
        (reserve o n copied = none →
          run = readEnded o .notStored r.invalidCount (raise .inventoryFull o.subject 0 n copied)) ∧
        ∀ u, reserve o n copied = some u →
          let v := writeBlock o 0 (some d) u
          (n = 1 → run = readEnded o .complete 0 v) ∧
          (2 ≤ n → run = asking 1 ⟨.pass1, r.attempts + 1, some n, 1, r.retry, r.invalidCount, true⟩ v))) ∧
    (∀ r n, readOf o s = some r → r.phase = .pass1 → r.blockCount = some n →
      let i := r.nextBlock
      let goOn := fun (retry : List Nat) (invalid : Nat) (u : State) =>
        (i + 1 < n → run = asking (i + 1) { r with nextBlock := i + 1, retry := retry, invalidCount := invalid } u) ∧
        (n ≤ i + 1 →
          (retry = [] → run = readEnded o (if invalid = 0 then .complete else .partialRecord) invalid u) ∧
          (∀ j rest, retry = j :: rest → run = asking j
            { r with phase := .pass2, nextBlock := i + 1, retry := retry, invalidCount := invalid } u))
      (∀ d, judgeBlock res = .ok d → goOn r.retry r.invalidCount (writeBlock o i (some d) s)) ∧
      (∀ k, judgeBlock res = .error k → r.retry.length < 8 → goOn (r.retry ++ [i]) r.invalidCount s) ∧
      (∀ k, judgeBlock res = .error k → 8 ≤ r.retry.length →
        goOn r.retry (r.invalidCount + 1) (writeBlock o i none s))) ∧
    (∀ r i rest, readOf o s = some r → r.phase = .pass2 → r.retry = i :: rest →
      let goOn := fun (invalid : Nat) (u : State) =>
        (rest = [] → run = readEnded o (if invalid = 0 then .complete else .partialRecord) invalid u) ∧
        (∀ j more, rest = j :: more → run = asking j { r with retry := rest, invalidCount := invalid } u)
      (∀ d, judgeBlock res = .ok d → goOn r.invalidCount (writeBlock o i (some d) s)) ∧
      (∀ k, judgeBlock res = .error k → goOn (r.invalidCount + 1) (writeBlock o i none s))) ∧
    (∀ cause data, (∀ b, o = .bay b → (s.bay b).state = .ident → readFailed o cause data s =
        enterFault b cause (raise .bayIdentFailed (.bay b) cause.code data (setRead o none s))) ∧
      (∀ i, o = .supply i → readFailed o cause data s = changeSupply i .unread (setRead o none s))) ∧
    (∀ (st : RecordState) (invalid : Nat),
      let ended := setRecord o (some st) (setRead o none s)
      (∀ b, o = .bay b → (s.bay b).state = .ident →
        let told := raise .bayIdentified (.bay b) st.code invalid ended
        readEnded o st invalid s = if (s.bay b).settings.autoPower = true then admissionPass (enterWaiting b told)
          else setState b .off told) ∧
      (∀ i, o = .supply i →
        readEnded o st invalid s = changeSupply i (if (s.supply i).dcOk = true then .active else .failed) ended))

/-- A reservation takes the lowest run of free slots that is long enough, else compacts the store when enough slots are
free and takes the start of the free run, and else is refused; a compaction moves the records toward slot 0 in
their order and counts itself; a block goes into the slot that holds it; a free releases every slot of the owner,
with nothing else changed (R52 to R54). The figures reported are the free slots and the longest free run (R54). -/
def Obligations.StoreReservesCompactsAndFrees : Prop :=
  ∀ (o : Owner) (s : State),
    let slot := fun (u : State) (i : Fin 128) => u.store.slots.get i
    let free := fun (i : Nat) => ∀ j : Fin 128, j.val = i → (slot s j).owner = none
    let run := fun (start n : Nat) => start + n ≤ 128 ∧ ∀ i, start ≤ i → i < start + n → free i
    let fresh := fun (start i : Nat) =>
      (⟨some o, i - start, decide (start < i), .reading, List.replicate 16 0⟩ : Slot)
    (∀ start n, 1 ≤ n → run start n → (∀ lower, lower < start → ¬ run lower n) →
      ∃ t, reserve o n s = some t ∧ t = { s with store := t.store } ∧ t.store.compactions = s.store.compactions ∧
        ∀ i, slot t i = if start ≤ i.val ∧ i.val < start + n then fresh start i.val else slot s i) ∧
    (∀ n, 1 ≤ n → (∀ start, ¬ run start n) → n ≤ freeSlots s →
      ∃ t, reserve o n s = some t ∧ t = { s with store := t.store } ∧
        t.store.compactions = (compact s).store.compactions ∧
        ∀ i, slot t i = if 128 - freeSlots s ≤ i.val ∧ i.val < 128 - freeSlots s + n
          then fresh (128 - freeSlots s) i.val else slot (compact s) i) ∧
    (∀ n, freeSlots s < n → reserve o n s = none) ∧
    (compact s).store.compactions = min (s.store.compactions + 1) 65535 ∧
    (compact s).store.slots.items =
      s.store.slots.items.filter (fun x => decide (x.owner ≠ none)) ++
      s.store.slots.items.filter (fun x => decide (x.owner = none)) ∧
    compact s = { s with store := (compact s).store } ∧
    (∀ k data i, slot (writeBlock o k data s) i =
      if (slot s i).owner = some o ∧ (slot s i).block = k then
        { slot s i with content := if data = none then .invalid else .valid
                        data := data.getD (List.replicate 16 0) }
      else slot s i) ∧
    (StoreOk s → ∀ i, slot (freeRecord o s) i =
      if (slot s i).owner = some o then { slot s i with owner := none } else slot s i) ∧
    freeRecord o s = { s with store := { (freeRecord o s).store with compactions := s.store.compactions } } ∧
    (∃ start, run start (largestFreeRun s)) ∧ (∀ start n, run start n → n ≤ largestFreeRun s) ∧
    freeSlots s = ((List.finRange 128).filter fun i => decide ((slot s i).owner = none)).length

/-! ### Power (chapters 4 and 5) -/

/-- A supply's presence and DC-OK samples: the 20th consecutive present sample in ABSENT inserts it, the second
absent one in any other state removes it, and three samples of the other level change its DC-OK level (R58, R59).
An insertion starts its identity read, an absence abandons read, request and record. A STATUS poll that succeeds
stores line-low and moves an ACTIVE or FAILED supply by output-ok and its DC-OK level; one that fails sets the
sticky flag alone (R61, R42). A change of state counts the capacity anew, raises SUPPLY_CHANGE, begins SUPPLY_FAILED
at entry to FAILED and ends it at the exit, and recomputes B (R60, R62, R63); a change of B raises BUDGET_CHANGE with
an admission pass at a rise and a shed pass at a fall below the allocations (R64). -/
def Obligations.SupplySamplesAct : Prop :=
  (∀ (i : SupIx) (s : State), s.porstLow = false →
    let present := s.modSupply i fun p => { p with presentRun := p.presentRun + 1, absentRun := 0 }
    let absent := s.modSupply i fun p => { p with presentRun := 0, absentRun := p.absentRun + 1 }
    ((s.supply i).state = .absent →
      exec (.supplyPresenceSample i false) s = completed s absent ∧
      ((s.supply i).presentRun < 19 → exec (.supplyPresenceSample i true) s = completed s present) ∧
      (19 ≤ (s.supply i).presentRun →
        exec (.supplyPresenceSample i true) s = completed s (supplyInserted i present))) ∧
    ((s.supply i).state ≠ .absent →
      exec (.supplyPresenceSample i true) s = completed s present ∧
      ((s.supply i).absentRun = 0 → exec (.supplyPresenceSample i false) s = completed s absent) ∧
      (1 ≤ (s.supply i).absentRun →
        exec (.supplyPresenceSample i false) s = completed s (supplyAbsence i absent))) ∧
    (∀ level, level = (s.supply i).dcOk →
      exec (.dcOkSample i level) s = completed s (s.modSupply i fun p => { p with dcOkRun := 0 })) ∧
    (∀ level, level ≠ (s.supply i).dcOk →
      ((s.supply i).dcOkRun < 2 → exec (.dcOkSample i level) s =
        completed s (s.modSupply i fun p => { p with dcOkRun := p.dcOkRun + 1 })) ∧
      (2 ≤ (s.supply i).dcOkRun → exec (.dcOkSample i level) s =
        completed s (dcOkChanged i (s.modSupply i fun p => { p with dcOk := level, dcOkRun := 0 }))))) ∧
  (∀ (i : SupIx) (s : State),
    let inserted := s.modSupply i fun p => { p with highLine := none, lowLine := none, lineLow := false }
    let addressed := match s.supplyLink.engine.inFlight with
      | some (.supplyStatus a) | some (.supplyReadBlock a _) => decide (a = i)
      | _ => false
    supplyInserted i s = startRead (.supply i) (changeSupply i .ident inserted) ∧
    abandonSupplyTxn i s = { s with supplyLink := { s.supplyLink with
      identRequests := s.supplyLink.identRequests.set i none
      engine := if addressed then Engine.quiet s.now else s.supplyLink.engine } } ∧
    supplyAbsence i s = changeSupply i .absent
      ((releaseRecord (.supply i) (abandonSupplyTxn i (setRead (.supply i) none s))).modSupply i fun p =>
        { p with highLine := none, lowLine := none, lineLow := false, sticky := Sticky.clear
                 presentRun := 0, absentRun := 0 }) ∧
    ((s.supply i).state = .active → (s.supply i).dcOk = false → dcOkChanged i s = changeSupply i .failed s) ∧
    ((s.supply i).state ≠ .active ∨ (s.supply i).dcOk = true →
      dcOkChanged i s = recomputeBudget (recount i s))) ∧
  (∀ (i : SupIx) (ok low : Bool) (s : State),
    let stored := s.modSupply i fun p => { p with lineLow := low }
    let run := supplyPolled i ok low s
    ((s.supply i).state = .active → ok = true → run = recomputeBudget (recount i stored)) ∧
    ((s.supply i).state = .active → ok = false → run = changeSupply i .failed stored) ∧
    ((s.supply i).state = .failed → ok = true → (s.supply i).dcOk = true →
      run = changeSupply i .active stored) ∧
    ((s.supply i).state = .failed → ok = false ∨ (s.supply i).dcOk = false →
      run = recomputeBudget (recount i stored)) ∧
    ((s.supply i).state ≠ .active → (s.supply i).state ≠ .failed → run = s)) ∧
  (∀ (x : Txn) (s : State), s.supplyLink.engine.inFlight = some x →
    (∀ c p, s.porstLow = false → s.supplyLink.engine.onChar s.now c = .done p →
      let taken := setSupplyEngine Engine.reset s
      (∀ i, x = .supplyStatus i → exec (.linkCharacter .supply c) s =
        completed s (supplyPolled i ((byteAt p 2).getLsbD 0) ((byteAt p 2).getLsbD 1) taken)) ∧
      (∀ i n, x = .supplyReadBlock i n → exec (.linkCharacter .supply c) s =
        completed s (blockOutcome (.supply i) (.ok ((p.drop 3).take 16, byteAt p 19)) taken))) ∧
    (∀ i k next,
      let flagged := (setSupplyEngine next s).modSupply i fun p => { p with sticky := p.sticky.set k }
      (x = .supplyStatus i → failTxn .supply k next s = flagged) ∧
      (∀ n, x = .supplyReadBlock i n → failTxn .supply k next s = blockOutcome (.supply i) (.error k) flagged))) ∧
  (∀ (i : SupIx) (st : SupplyState) (s : State),
    let p := s.supply i
    let c : Nat := match st with
      | .active => if p.override ≠ 0 then p.override
        else if p.lineLow then p.lowLine.getD 0 else p.highLine.getD 0
      | .unread => if p.override ≠ 0 ∧ p.dcOk = true then p.override else 0
      | .absent | .ident | .failed => 0
    let moved := raise .supplyChange (.supply i) st.code c
      (s.modSupply i fun p => { p with state := st, counted := c })
    (st = .failed → changeSupply i st s = recomputeBudget (raiseCondition (.supplyFailed i) moved)) ∧
    (st ≠ .failed → p.state = .failed →
      changeSupply i st s = recomputeBudget (endCondition (.supplyFailed i) moved)) ∧
    (st ≠ .failed → p.state ≠ .failed → changeSupply i st s = recomputeBudget moved)) ∧
  (∀ (s : State),
    let raw := rawCapacity s.alloc.mode fun i => (s.supply i).counted
    let b := raw - s.alloc.overhead
    let kept := { s with alloc := { s.alloc with raw := raw, budget := b } }
    let told := raise .budgetChange .chassis s.alloc.mode.code b kept
    (b = s.alloc.budget → recomputeBudget s = kept) ∧
    (s.alloc.budget < b → recomputeBudget s = admissionPass told) ∧
    (b < s.alloc.budget → b < nonShedding none s → recomputeBudget s = shedPass told) ∧
    (b < s.alloc.budget → nonShedding none s ≤ b → recomputeBudget s = told))

/-- SET_SUPPLY stores the override, clamped to 4000, in every supply state, and recomputes c_i and B (R85);
SET_POWER_POLICY refuses an unknown mode and otherwise changes the selected settings, whatever the selection, and
recomputes B at a change of mode or overhead (R86); SET_RAMP clamps and stores the selected values and changes
nothing else, so that running timers keep their deadlines (R103, R104). Widths in the bodies: log 12;
no count before the class codes: log 32. -/
def Obligations.PowerSettingsApply : Prop :=
  ∀ (s : State), s.porstLow = false →
    (∀ n w, 5 < n.toNat → exec (.setSupply n w) s = completed s { s with answer := some ⟨.outOfRange, []⟩ }) ∧
    (∀ (i : SupIx) w,
      let t := recomputeBudget (recount i (s.modSupply i fun p => { p with override := min w.toNat 4000 }))
      exec (.setSupply (BitVec.ofNat 8 i.val) w) s =
        completed s (answer (if 4000 < w.toNat then .clamped else .ok) (supplyBody i t) t)) ∧
    (∀ sel mode overhead timeout, sel.getLsbD 0 = true → 2 < mode.toNat →
      exec (.setPowerPolicy sel mode overhead timeout) s =
        completed s (answer .badValue (policyBody s) s)) ∧
    (∀ (sel mode : Byte) (overhead timeout : BitVec 16) (m : RedundancyMode),
      (if sel.getLsbD 0 then mode.toNat = m.code else m = s.alloc.mode) →
      let kept := { s with alloc := { s.alloc with
        mode := m
        overhead := if sel.getLsbD 1 then min overhead.toNat 3000 else s.alloc.overhead
        capTimeout := if sel.getLsbD 2 then max 1 (min 60 timeout.toNat) else s.alloc.capTimeout } }
      let t := if m ≠ s.alloc.mode ∨ kept.alloc.overhead ≠ s.alloc.overhead then recomputeBudget kept else kept
      exec (.setPowerPolicy sel mode overhead timeout) s = completed s
        (answer (if sel.getLsbD 1 = true ∧ 3000 < overhead.toNat ∨
            sel.getLsbD 2 = true ∧ (timeout.toNat = 0 ∨ 60 < timeout.toNat) then .clamped else .ok)
          (policyBody t) t)) ∧
    (∀ (sel : Byte) (c0 c1 c2 c3 ramp settle stop grace : BitVec 16),
      let clampedIn := fun (i : Nat) (lo hi : Nat) (v : BitVec 16) =>
        sel.getLsbD i = true ∧ (v.toNat < lo ∨ hi < v.toNat)
      let chosen := fun (i : Nat) (lo hi : Nat) (v : BitVec 16) (old : Nat) =>
        if sel.getLsbD i then max lo (min hi v.toNat) else old
      ∃ t, exec (.setRamp sel c0 c1 c2 c3 ramp settle stop grace) s =
          .next (answer (if clampedIn 0 0 255 c0 ∨ clampedIn 1 0 255 c1 ∨ clampedIn 2 0 255 c2 ∨
              clampedIn 3 0 255 c3 ∨ clampedIn 4 100 5000 ramp ∨ clampedIn 5 0 2000 settle ∨
              clampedIn 6 10 600 stop ∨ clampedIn 7 5 300 grace then .clamped else .ok) (rampBody t) t) ∧
        t = { s with ramp := { s.ramp with
          classCodes := t.ramp.classCodes
          rampTimeout := chosen 4 100 5000 ramp s.ramp.rampTimeout
          settleTime := chosen 5 0 2000 settle s.ramp.settleTime
          stopTimeout := chosen 6 10 600 stop s.ramp.stopTimeout
          shedGrace := chosen 7 5 300 grace s.ramp.shedGrace } } ∧
        t.ramp.classCodes.get 0 = chosen 0 0 255 c0 (s.ramp.classCodes.get 0) ∧
        t.ramp.classCodes.get 1 = chosen 1 0 255 c1 (s.ramp.classCodes.get 1) ∧
        t.ramp.classCodes.get 2 = chosen 2 0 255 c2 (s.ramp.classCodes.get 2) ∧
        t.ramp.classCodes.get 3 = chosen 3 0 255 c3 (s.ramp.classCodes.get 3))

/-- The admission pass walks the waiting list: a bay behind a blocked chassis or zone is passed over, one whose maximum
fits H and H_z is admitted in full, a cappable one whose floor fits is admitted at the smallest of its maximum, H and
H_z, and another blocks the chassis when its need exceeds H and else its zone (R67, R72). An admission sets the
allocation and a new stamp, leaves the waiting list and joins the ramp queue (R73); so the head of the list that fits
is admitted. An emptied list brings the uncap pass, which raises ONLINE bays below their maximum in NORMAL zones, by
priority and admission stamp, each by what its maximum, H and H_z leave (R74). A cap decision sets the allocation and
the last decided level, fills the pending-cap slot and starts the cap timer (R82). -/
def Obligations.AdmissionAndUncapPassesAct : Prop :=
  (∀ (s : State) (b : BayIx) (blocked : Bool) (zones : List ZoneIx) (p : PowerHeader),
    (s.bay b).header = some p →
    let z := (s.bay b).settings.zone
    let h : Int := s.alloc.budget - ((allBays.map fun c => (s.bay c).alloc).sum : Nat)
    let hz : Int := (s.zone z).limit -
      ((allBays.map fun c => if (s.bay c).settings.zone = z then (s.bay c).alloc else 0).sum : Nat)
    let full := (p.maxWatts : Int) ≤ h ∧ (p.maxWatts : Int) ≤ hz
    let capped := p.cappable = true ∧ (p.floorWatts : Int) ≤ h ∧ (p.floorWatts : Int) ≤ hz
    let need : Nat := if p.cappable then p.floorWatts else p.maxWatts
    let w := walkOne ⟨s, blocked, zones⟩ b
    headroom none s = h ∧ headroom (some z) s = hz ∧
    (blocked = true ∨ z ∈ zones → w = ⟨s, blocked, zones⟩) ∧
    (blocked = false → z ∉ zones → (s.bay b).state = .waiting →
      (full → w = ⟨admitBay b p.maxWatts s, false, zones⟩) ∧
      (¬ full → capped →
        ∃ level : Nat, (level : Int) = min (p.maxWatts : Int) (min h hz) ∧
          w = ⟨admitBay b level s, false, zones⟩) ∧
      (¬ full → ¬ capped → h < need → w = ⟨s, true, zones⟩) ∧
      (¬ full → ¬ capped → need ≤ h → w = ⟨s, false, z :: zones⟩)) ∧
    (∀ rest, s.alloc.waiting = b :: rest → (s.bay b).state = .waiting → full →
      let t := admissionPass s
      (t.bay b).state = .admitted ∧ (t.bay b).alloc = p.maxWatts ∧ b ∈ t.ramp.queue ∧
      (t.bay b).admissionStamp = some s.alloc.nextStamp) ∧
    (let r : Int := min (p.maxWatts - (s.bay b).alloc) (min h hz)
     (r ≤ 0 → uncapOne s b = s) ∧ (0 < r → uncapOne s b = capDecision b ((s.bay b).alloc + r.toNat) s))) ∧
  (∀ (s : State) (b : BayIx) (level : Nat),
    let t := admitBay b level s
    t = { s with
      bays := t.bays
      alloc := { s.alloc with
        waiting := s.alloc.waiting.filter fun c => decide (c ≠ b), nextStamp := s.alloc.nextStamp + 1 }
      ramp := { s.ramp with queue := s.ramp.queue ++ [b] } } ∧
    (t.bay b).state = .admitted ∧ (t.bay b).alloc = level ∧
    (t.bay b).admissionStamp = some s.alloc.nextStamp ∧ (t.bay b).lastDecided = none ∧
    (t.bay b).applied = none ∧ (t.bay b).mainEnable = false ∧ (t.bay b).settings = (s.bay b).settings ∧
    (t.bay b).header = (s.bay b).header ∧ (t.bay b).link = (s.bay b).link ∧
    (∀ c, c ≠ b → t.bay c = s.bay c) ∧
    capDecision b level s = s.modBay b fun y => { y with
      alloc := level, lastDecided := some level, capTimer := some (s.now + s.alloc.capTimeout * 1000)
      link := { y.link with slot := some ⟨level, false⟩ } }) ∧
  (∀ s : State,
    let w := s.alloc.waiting.foldl walkOne ⟨s, false, []⟩
    let l := uncapCandidates s
    (w.state.alloc.waiting = [] → admissionPass s = uncapPass w.state) ∧
    (w.state.alloc.waiting ≠ [] → admissionPass s = w.state) ∧
    uncapPass s = l.foldl uncapOne s ∧ l.Nodup ∧
    (∀ b, b ∈ l ↔ (s.bay b).state = .online ∧ (s.bay b).alloc < (s.bay b).maxWatts ∧
      (s.zone (s.bay b).settings.zone).thermal = .normal) ∧
    l.Pairwise fun b c => (s.bay c).settings.priority < (s.bay b).settings.priority ∨
      (s.bay b).settings.priority = (s.bay c).settings.priority ∧
        (s.bay b).admissionStamp.getD 0 ≤ (s.bay c).admissionStamp.getD 0)

/-- The shed pass covers the deficits of the zones and then the chassis's, each by five steps over bays of one state,
lowest priority and newest stamp first, and each bay only while the deficit is above 0 (R75); without a deficit it
does nothing, and where only allocated states hold watts it leaves none. Step 1 returns ADMITTED bays to WAITING,
step 2 lowers cappable ONLINE bays toward their floors, step 3 moves STOPPING bays to SHEDDING, step 4 turns the
POWERING bay off into WAITING, step 5 moves ONLINE bays to SHEDDING (R76 to R80). An admission pass follows when an
allocation was lowered or released (R81). -/
def Obligations.ShedPassCoversItsDeficits : Prop :=
  (∀ s : State,
    let t := coverDeficit none (coverDeficit (some 2) (coverDeficit (some 1) (coverDeficit (some 0) s)))
    shedPass s = (if allocated none t < allocated none s then admissionPass t else t) ∧
    (deficit none s ≤ 0 → (∀ z, deficit (some z) s ≤ 0) → shedPass s = s)) ∧
  (∀ (scope : Option ZoneIx) (s : State),
    let inScope := fun b => decide (∀ z, scope = some z → (s.bay b).settings.zone = z)
    let steps := fun (st : BayState) (treat : BayIx → State → State) (u : State) =>
      (shedCandidates scope st u).foldl
        (fun v b => if 0 < deficit scope v ∧ (v.bay b).state = st then treat b v else v) u
    deficit scope s = ((allBays.map fun b =>
      if inScope b ∧ (s.bay b).state ≠ .shedding then (s.bay b).alloc else 0).sum : Nat) - (limitOf scope s : Int) ∧
    coverDeficit scope s = steps .online (shedOnlineBay shedOnline) (steps .powering shedPoweringBay
      (steps .stopping shedStoppingBay (steps .online (shedCapBay scope) (steps .admitted shedAdmittedBay s)))) ∧
    (deficit scope s ≤ 0 → coverDeficit scope s = s) ∧
    ((∀ b, (s.bay b).alloc ≠ 0 → (s.bay b).state.allocated = true) → deficit scope (coverDeficit scope s) ≤ 0) ∧
    ∀ st, (shedCandidates scope st s).Nodup ∧
      (∀ b, b ∈ shedCandidates scope st s ↔ inScope b = true ∧ (s.bay b).state = st) ∧
      (shedCandidates scope st s).Pairwise fun b c => (s.bay b).settings.priority < (s.bay c).settings.priority ∨
        (s.bay b).settings.priority = (s.bay c).settings.priority ∧
          (s.bay c).admissionStamp.getD 0 ≤ (s.bay b).admissionStamp.getD 0) ∧
  (∀ (b : BayIx) (s : State),
    let y := s.bay b
    let grace := s.now + s.ramp.shedGrace * 1000
    let told := fun (t : State) (detail : Nat) => t.events = (raise .bayShed (.bay b) detail y.alloc s).events ∧
      ∀ c, c ≠ b → t.bay c = s.bay c
    let backToWaiting := fun (t : State) => (t.bay b).state = .waiting ∧ (t.bay b).alloc = 0 ∧
      (t.bay b).waitingStamp = some s.alloc.nextStamp ∧ (t.bay b).stopRequested = false ∧
      (t.bay b).mainEnable = false ∧ b ∈ t.alloc.waiting
    (let t := shedAdmittedBay b s
     backToWaiting t ∧ told t 0 ∧ t.ramp = { s.ramp with queue := s.ramp.queue.filter fun c => decide (c ≠ b) }) ∧
    (∀ (scope : Option ZoneIx) (p : PowerHeader), y.header = some p →
      (p.cappable = false ∨ y.alloc ≤ p.floorWatts → shedCapBay scope b s = s) ∧
      (p.cappable = true → p.floorWatts < y.alloc → 0 < deficit scope s →
        let level := max p.floorWatts (y.alloc - (deficit scope s).toNat)
        shedCapBay scope b s = raise .bayCapped (.bay b) (scope.elim 3 (·.val)) level (capDecision b level s))) ∧
    (let t := shedStoppingBay b s
     (t.bay b).state = .shedding ∧ (t.bay b).alloc = y.alloc ∧ (t.bay b).stopRequested = true ∧
     (∀ d, y.deadline = some d → (t.bay b).deadline = some (min d grace)) ∧ (t.bay b).link = y.link ∧
     (t.bay b).mainEnable = true ∧ told t 1) ∧
    (y.state = .powering →
      let t := shedPoweringBay b s
      backToWaiting t ∧ told t 2 ∧ t.ramp = (endRamping s).ramp) ∧
    (∀ detail,
      let t := shedOnlineBay detail b s
      (t.bay b).state = .shedding ∧ (t.bay b).alloc = y.alloc ∧ (t.bay b).stopRequested = y.stopRequested ∧
      (t.bay b).deadline = some grace ∧ (t.bay b).capTimer = none ∧ (t.bay b).lastDecided = none ∧
      (t.bay b).link = { y.link with slot := none, pendingStop := true } ∧
      (t.bay b).mainEnable = true ∧ told t detail))

/-- A bay that leaves the main-powered states for OFF or FAULT deasserts main power and keeps standby; its allocation is
released, with an admission pass after it; its timers stop, the pending work of its link is cancelled, its port is
blocked and its LEARNED entries are purged; a POWERING bay ends the RAMPING; the records of the blade are kept, and a
transaction in flight stays in flight (R9, R94, R95). OFF raises BAY_OFF. Entry to FAULT, from any state, stores the
cause, raises BAY_FAULT with the cause as its detail and the state it left as its data, and raises the BAY_FAULT
condition; from a state without main power the bay keeps all else and no pass follows (R7, R188). -/
def Obligations.PowerOffReleasesTheBay : Prop :=
  (∀ (b : BayIx) (detail : Nat) (cause : FaultCause) (s : State),
    let old := s.bay b
    let released := fun (t : State) (st : BayState) (fault : Option FaultCause) =>
      t.bay b = { old with
        state := st, standbyEnable := true, mainEnable := false, faultCause := fault, alloc := 0
        deadline := none, capTimer := none, lastDecided := none, activeUplink := none
        ledSince := (t.bay b).ledSince
        link := { old.link with slot := none, pendingStop := false, pollDue := false, failedPolls := 0
                                pollTimer := none, engine := (t.bay b).link.engine } } ∧
      (t.bay b).link.engine.inFlight = old.link.engine.inFlight ∧
      (old.state.forwarding = true →
        ∀ i e, t.stations.entries.get i = some e → e.isLearned = true → e.bay ≠ b) ∧
      (old.state = .powering → t.ramp.iref = 0 ∧ t.ramp.rampTimer = none ∧
        (s.ramp.settleTime ≠ 0 → t.ramp.state = .settling ∧
          t.ramp.settleTimer = some (s.now + s.ramp.settleTime)) ∧
        (s.ramp.settleTime = 0 → t.ramp.state = .idle)) ∧
      ∃ u, t = admissionPass u ∧ u.bay b = t.bay b ∧ (∀ c, c ≠ b → u.bay c = s.bay c) ∧
        (old.state ≠ .powering → u.ramp = s.ramp) ∧
        u = { s with bays := u.bays, stations := u.stations, ramp := u.ramp, events := t.events
                     conditions := t.conditions, faultInd := t.faultInd }
    old.state.mainPowered = true →
      (let t := powerOffToOff b detail s
       released t .off old.faultCause ∧ t.events = (raise .bayOff (.bay b) detail old.alloc s).events ∧
       t.conditions = s.conditions ∧ t.faultInd = s.faultInd) ∧
      released (enterFault b cause s) .fault (some cause)) ∧
  (∀ (b : BayIx) (cause : FaultCause) (s : State),
    let old := s.bay b
    let t := enterFault b cause s
    (t.bay b).state = .fault ∧ (t.bay b).faultCause = some cause ∧
    (t.bay b).standbyEnable = true ∧ (t.bay b).mainEnable = false ∧
    (s.events.queue.length < s.events.limit → t.events = { s.events with queue := s.events.queue ++
      [⟨.bayFault, .bay b, BitVec.ofNat 8 cause.code, s.seconds, BitVec.ofNat 32 old.state.code⟩] }) ∧
    (s.events.limit ≤ s.events.queue.length →
      t.events = { s.events with lost := min (s.events.lost + 1) 65535 }) ∧
    t.conditions = (s.conditions.filter fun c => decide (c.key ≠ .bayFault b)) ++
      [⟨.bayFault b, true, false, s.seconds⟩] ∧
    t.faultInd = true ∧
    (old.state.mainPowered = false →
      t.bay b = { old with state := .fault, standbyEnable := true, mainEnable := false, faultCause := some cause
                           ledSince := (t.bay b).ledSince } ∧
      (∀ c, c ≠ b → t.bay c = s.bay c) ∧
      t = { s with bays := t.bays, events := t.events, conditions := t.conditions, faultInd := true }))

/-- The ramp, settle, stop, shed and cap timers at their expiry (R93, R95, R98, R102, R83). The clock moves to the
deadline: log 1. -/
def Obligations.PowerTimersAct : Prop :=
  ∀ (s : State), s.porstLow = false →
    (∀ b d, s.ramp.state = .ramping b → s.ramp.rampTimer = some d → (s.bay b).state = .powering →
      exec .rampTimerExpiry s = completed s (enterFault b .powerGoodTimeout (s.reach d))) ∧
    (∀ d, s.ramp.settleTimer = some d → exec .settleTimerExpiry s = completed s
      { s.reach d with ramp := { s.ramp with state := .idle, settleTimer := none } }) ∧
    (∀ b d, (s.bay b).state = .stopping → (s.bay b).deadline = some d →
      exec (.stopTimerExpiry b) s = completed s (powerOffToOff b offForced (s.reach d))) ∧
    (∀ b d, (s.bay b).state = .shedding → (s.bay b).deadline = some d →
      exec (.shedTimerExpiry b) s = completed s
        (if (s.bay b).settings.autoPower = true ∧ (s.bay b).stopRequested = false then
          admissionPass (enterWaiting b (powerOff b (s.reach d)))
        else powerOffToOff b offForced (s.reach d))) ∧
    (∀ b d, (s.bay b).capTimer = some d →
      let t := (s.reach d).modBay b fun y => { y with capTimer := none }
      exec (.capTimerExpiry b) s = completed s
        (if (s.bay b).state = .online then shedPass (shedOnlineBay shedCapFailure b t) else t))

/-- The grant goes to the ADMITTED head of the queue of an IDLE channel: the bay enters POWERING with main power
on, IREF carries its class code and the ramp timer runs (R91). PGOOD is not sampled with main power off; its
second high sample in POWERING is power-good, and its second low one in ONLINE, STOPPING or SHEDDING is FAULT
with POWER_LOST (R92, R96). Power-good brings the bay ONLINE: RAMPING ends, the port opens on the primary
uplink if it is UP and else on an alternate that is, polling starts with a poll due, and a bay below its
maximum gets its first cap decision, and one at its maximum none (R92, R131, R36, R84); with neither uplink UP the bay
has no active uplink. BAY_ONLINE is raised with detail FULL or CAPPED and the allocation as its data. -/
def Obligations.GrantThenPowerGood : Prop :=
  (∀ (b : BayIx) (rest : List BayIx) (h : PowerHeader) (s : State),
    s.ramp.state = .idle → s.ramp.queue = b :: rest → (s.bay b).state = .admitted →
    (s.bay b).header = some h →
    let t := grantTo b s
    grantable s = some b ∧ (t.bay b).state = .powering ∧ (t.bay b).mainEnable = true ∧
    (t.bay b).pgoodHigh = 0 ∧ (t.bay b).pgoodLow = 0 ∧
    (t.bay b).deadline = some (s.now + s.ramp.rampTimeout) ∧ (t.bay b).alloc = (s.bay b).alloc ∧
    t = { s with bays := t.bays, ramp := { s.ramp with
      state := .ramping b, queue := rest, iref := s.ramp.classCodes.get h.inrushClass
      rampTimer := some (s.now + s.ramp.rampTimeout) } } ∧
    ∀ c, c ≠ b → t.bay c = s.bay c) ∧
  (∀ (b : BayIx) (s : State), s.porstLow = false →
    (∀ level, (s.bay b).mainEnable = false → exec (.pgoodSample b level) s = completed s s) ∧
    ((s.bay b).mainEnable = true → (s.bay b).state = .powering → (s.bay b).pgoodHigh = 1 →
      s.ramp.rampTimer.isSome = true → exec (.pgoodSample b true) s =
        completed s (goOnline b (s.modBay b fun y => { y with pgoodHigh := 2, pgoodLow := 0 }))) ∧
    ((s.bay b).mainEnable = true → (s.bay b).state.forwarding = true → (s.bay b).pgoodLow = 1 →
      exec (.pgoodSample b false) s =
        completed s (enterFault b .powerLost (s.modBay b fun y => { y with pgoodHigh := 0, pgoodLow := 2 }))) ∧
    ((s.bay b).mainEnable = true → (s.bay b).pgoodHigh = 0 → exec (.pgoodSample b true) s =
      completed s (s.modBay b fun y => { y with pgoodHigh := 1, pgoodLow := 0 }))) ∧
  (∀ (b : BayIx) (s : State),
    let t := goOnline b s
    (t.bay b).state = .online ∧ (t.bay b).mainEnable = true ∧ (t.bay b).deadline = none ∧
    t.ramp.iref = 0 ∧ t.ramp.rampTimer = none ∧ t.ramp.state ≠ .ramping b ∧
    ((s.uplink (s.bay b).settings.primary).up = true →
      (t.bay b).activeUplink = some (s.bay b).settings.primary) ∧
    (∀ u, (s.uplink (s.bay b).settings.primary).up = false → (s.bay b).settings.alternate = some u →
      (s.uplink u).up = true → (t.bay b).activeUplink = some u) ∧
    ((s.uplink (s.bay b).settings.primary).up = false →
      (∀ u, (s.bay b).settings.alternate = some u → (s.uplink u).up = false) → (t.bay b).activeUplink = none) ∧
    t.events = (raise .bayOnline (.bay b) (if (s.bay b).alloc < (s.bay b).maxWatts then 1 else 0)
      (s.bay b).alloc s).events ∧
    ((s.bay b).maxWatts ≤ (s.bay b).alloc →
      (t.bay b).link.slot = (s.bay b).link.slot ∧ (t.bay b).lastDecided = (s.bay b).lastDecided ∧
      (t.bay b).capTimer = (s.bay b).capTimer) ∧
    (t.bay b).link.pollDue = true ∧ (t.bay b).link.failedPolls = 0 ∧
    (t.bay b).link.pollTimer = some (s.now + 1000) ∧ (t.bay b).alloc = (s.bay b).alloc ∧
    ((s.bay b).alloc < (s.bay b).maxWatts →
      (t.bay b).link.slot = some ⟨(s.bay b).alloc, false⟩ ∧
      (t.bay b).lastDecided = some (s.bay b).alloc ∧
      (t.bay b).capTimer = some (s.now + s.alloc.capTimeout * 1000)) ∧
    (∀ c, c ≠ b → t.bay c = s.bay c))

/-! ### Thermal sensing and fans (chapter 6) -/

/-- R107: an in-range code, 1 to 4094, becomes code × gain ÷ 1024 plus the offset, clamped to −400 to 1500; it
counts in range and clears the rail run; an INITIAL or VALID channel is VALID with it at once, and a FAULTED one
keeps it stored, FAULTED with no valid reading, until its second consecutive one (R108) makes it VALID, raises
SENSOR_RESTORED with the reading as its data and ends the SENSOR_FAULT condition. The zone is then evaluated again. -/
def Obligations.InRangeCodeIsConverted : Prop :=
  ∀ (c : ChanIx) (code : BitVec 12) (s : State), 1 ≤ code.toNat → code.toNat ≤ 4094 →
    let x := s.sensor c
    let y := (converted c code s).sensor c
    let t : Int := ((code.toNat * x.gain / 1024 : Nat) : Int) + x.offset
    y.reading = (if t < -400 then -400 else if 1500 < t then 1500 else t) ∧
    y.lastCode = code ∧ y.inRangeRun = x.inRangeRun + 1 ∧ y.railRun = 0 ∧
    (x.status = .initial ∨ x.status = .valid → y.status = .valid ∧ y.validReading = some y.reading) ∧
    (x.status = .faulted → x.inRangeRun = 0 → y.status = .faulted ∧ y.validReading = none) ∧
    (x.status = .faulted → 1 ≤ x.inRangeRun → y.status = .valid ∧ y.validReading = some y.reading) ∧
    (let u := converted c code s
     let stored := fun (st : SensorStatus) => s.modSensor c fun x =>
       { x with lastCode := code, reading := y.reading, inRangeRun := x.inRangeRun + 1, railRun := 0, status := st }
     (x.status = .initial ∨ x.status = .valid → u = evaluateZone x.zone (stored .valid)) ∧
     (x.status = .faulted → x.inRangeRun = 0 → u = evaluateZone x.zone (stored .faulted)) ∧
     (x.status = .faulted → 1 ≤ x.inRangeRun →
       u = evaluateZone x.zone (endCondition (.sensorFault c)
         (raise .sensorRestored (.sensor c) 0 y.reading (stored .valid))) ∧
       (∀ e ∈ u.conditions, e.key = .sensorFault c → e.active = false) ∧
       (s.events.queue.length < s.events.limit → ∃ rest, u.events.queue = s.events.queue ++
         ⟨.sensorRestored, .sensor c, 0, s.seconds, BitVec.ofInt 32 y.reading⟩ :: rest))) ∧
    y.gain = x.gain ∧ y.offset = x.offset ∧ y.zone = x.zone ∧ y.warn = x.warn ∧ y.crit = x.crit ∧
    y.enabled = x.enabled ∧ ∀ d, d ≠ c → (converted c code s).sensor d = s.sensor d

/-- A conversion that delivers a rail code, 0 or 4095, is not converted: the code is stored, the reading kept and the
rail run counted. The second consecutive one faults an INITIAL or VALID channel, with SENSOR_FAULT and its condition;
a first one leaves the status, and a FAULTED channel stays FAULTED without an event of its own (R108). The zone is
then evaluated again, with what follows from that (R109). -/
def Obligations.SecondRailCodeFaultsTheChannel : Prop :=
  ∀ (c : ChanIx) (code : BitVec 12) (s : State), code = 0 ∨ code = 4095 →
    let x := s.sensor c
    let t := converted c code s
    let counted := s.modSensor c fun x => { x with lastCode := code, railRun := x.railRun + 1, inRangeRun := 0 }
    (t.sensor c).reading = x.reading ∧ (t.sensor c).railRun = x.railRun + 1 ∧ (t.sensor c).inRangeRun = 0 ∧
    (t.sensor c).lastCode = code ∧ (t.sensor c).zone = x.zone ∧ (∀ d, d ≠ c → t.sensor d = s.sensor d) ∧
    (x.railRun = 0 ∨ x.status = .faulted ∨ x.status = .disabled →
      (t.sensor c).status = x.status ∧ t = evaluateZone x.zone counted) ∧
    (1 ≤ x.railRun → x.status = .initial ∨ x.status = .valid →
      (t.sensor c).status = .faulted ∧ t.faultInd = true ∧
      (∃ e ∈ t.conditions, e.key = .sensorFault c ∧ e.active = true ∧ e.acked = false) ∧
      t = evaluateZone x.zone (raiseCondition (.sensorFault c)
        (raise .sensorFault (.sensor c) (if code = 4095 then 1 else 0) code.toNat
          (counted.modSensor c fun x => { x with status := .faulted }))) ∧
      (s.events.queue.length < s.events.limit → ∃ e rest, t.events.queue = s.events.queue ++ e :: rest ∧
        e.kind = .sensorFault ∧ e.subject = .sensor c ∧ e.data = BitVec.ofNat 32 code.toNat ∧
        e.detail = (if code = 4095 then 1 else 0)))

/-- The end of a conversion slot judges the code of the channel in progress, unless it was disabled, and the next
slot takes the first enabled channel above it, else the lowest (R106); its channel is the one the slot after it goes
on from. After an idle or discarded slot the order goes on from the last channel begun: log 15. The clock moves to
the end of the slot: log 1. -/
def Obligations.ConversionSlotEnds : Prop :=
  ∀ (code : BitVec 12) (s : State), s.porstLow = false →
    let r := s.reach s.converter.slotEnd
    (∀ c, s.converter.converting = some c → s.converter.discarded = false → (s.sensor c).status ≠ .disabled →
      exec (.conversionSlotEnd code) s = completed s (beginSlot (converted c code r))) ∧
    (∀ c, s.converter.converting = some c → s.converter.discarded = true →
      exec (.conversionSlotEnd code) s = completed s (beginSlot r)) ∧
    (s.converter.converting = none → exec (.conversionSlotEnd code) s = completed s (beginSlot r)) ∧
    (∀ c, (beginSlot s).converter.converting = some c →
      (beginSlot s).converter.lastChan = c ∧ (s.sensor c).enabled = true ∧ (beginSlot s).converter.slotEnd = s.now + 10 ∧
      (∀ d, (s.sensor d).enabled = true → s.converter.lastChan < d → s.converter.lastChan < c ∧ c ≤ d) ∧
      ((∀ d, (s.sensor d).enabled = true → d ≤ s.converter.lastChan) →
        ∀ d, (s.sensor d).enabled = true → c ≤ d)) ∧
    ((beginSlot s).converter.converting = none ↔ ∀ c, (s.sensor c).enabled = false) ∧
    ((∀ c, (s.sensor c).enabled = false) → (beginSlot s).converter.lastChan = s.converter.lastChan)

/-- The thermal state of a zone follows the readings its VALID channels hold, each against its own thresholds, with 20
tenths of hysteresis under crit in CRITICAL (R109). An evaluation that finds it unchanged does nothing; a change
raises the event of the new state with the previous one and the highest reading (−32768 for none), begins or ends
ZONE_CRITICAL, and recomputes L_z, and entry to CRITICAL updates the zone's fans at once (R110). L_z is cooling[z][h]
for h healthy fans, and in CRITICAL no more than crit[z] (R66). The allocator comes before the fans: log 7. -/
def Obligations.ZoneThermalStateFollowsItsReadings : Prop :=
  ∀ (z : ZoneIx) (s : State),
    let l := validSensors z s
    let old := (s.zone z).thermal
    let margin : Int := if old = .critical then 20 else 0
    let hot := ∃ x ∈ l, x.crit - margin ≤ x.reading
    let new := evaluateThermal old l
    let moved := s.modZone z fun x => { x with thermal := new }
    let told := raise (match new with
      | .normal => .zoneNormal
      | .warm => .zoneWarm
      | .critical => .zoneCritical) (.zone z) old.code (highestReading l) moved
    (∀ x, x ∈ l ↔ ∃ c, x = s.sensor c ∧ x.zone = z ∧ x.status = .valid) ∧
    (new = .critical ↔ hot) ∧
    (new = .warm ↔ ¬ hot ∧ ∃ x ∈ l, x.warn ≤ x.reading) ∧
    (new = old → evaluateZone z s = s) ∧
    (new ≠ old → new = .critical →
      evaluateZone z s = updateZone z (recomputeLimit z (raiseCondition (.zoneCritical z) told))) ∧
    (new ≠ old → old = .critical → evaluateZone z s = recomputeLimit z (endCondition (.zoneCritical z) told)) ∧
    (new ≠ old → new ≠ .critical → old ≠ .critical → evaluateZone z s = recomputeLimit z told) ∧
    ((evaluateZone z s).zone z).thermal = new ∧
    (new ≠ old → ((evaluateZone z s).zone z).limit = zoneLimit z moved) ∧
    (let h := ((List.finRange 6).filter fun f => f.val / 2 = z.val ∧ (s.fan f).health = .healthy).length
     let c := (s.zone z).settings
     let cooling := if h = 0 then c.cooling0 else if h = 1 then c.cooling1 else c.cooling2
     zoneLimit z s = if old = .critical then min cooling c.critLimit else cooling) ∧
    (∀ x ∈ l, x.reading ≤ highestReading l) ∧ (l = [] → highestReading l = -32768) ∧
    (l ≠ [] → (∀ x ∈ l, -400 ≤ x.reading) → ∃ x ∈ l, x.reading = highestReading l)

/-- The curve value of a temperature, for a curve with strictly increasing temperatures and duties up to 1000: a
point's duty at it, the first duty below the first point, the last above the last, and between two neighbours the
earlier duty plus the quotient of section 6.3 rounded to the nearest integer, an exact half toward the higher value,
which lies between their duties (R111). -/
def Obligations.CurveValueFollowsItsPoints : Prop :=
  ∀ (l : List CurvePoint) (t : Int), increasing l = true → (∀ p ∈ l, p.duty ≤ 1000) →
    curveValue l t ≤ 1000 ∧
    (∀ p ∈ l, curveValue l p.temp = p.duty) ∧
    (∀ p, l.head? = some p → t ≤ p.temp → curveValue l t = p.duty) ∧
    (∀ p, l.getLast? = some p → p.temp ≤ t → curveValue l t = p.duty) ∧
    (∀ a b p q, l = a ++ p :: q :: b → p.temp ≤ t → t < q.temp →
      let num := ((q.duty : Int) - p.duty) * (t - p.temp)
      let den := q.temp - p.temp
      let rise := (curveValue l t : Int) - p.duty
      den * (2 * rise - 1) ≤ 2 * num ∧ 2 * num < den * (2 * rise + 1) ∧
      min p.duty q.duty ≤ curveValue l t ∧ curveValue l t ≤ max p.duty q.duty)

/-- A control period expiry restarts the timer and updates the zone: 1000 with an unhealthy fan, and otherwise the
output rises by at most slew_up, falls by at most slew_down, by exactly that much toward a demand beyond it, and
reaches the demand within them, raised to the floors (R114, R115). The demand is the largest contribution, at most
1000: the curve values of the zone's VALID channels and of the inlets of its ONLINE, STOPPING and SHEDDING bays, the
missing-reading duty when a reading is missing, the feedforward of those bays' allocations, and the minimum and
failsafe duties (R112). The clock moves to the deadline, from which the timer restarts: log 1. -/
def Obligations.ControlPeriodUpdatesTheZone : Prop :=
  ∀ (z : ZoneIx) (s : State), s.porstLow = false →
    ∃ t, exec (.controlPeriodExpiry z) s = .next t ∧
      (t.zone z).controlTimer = max s.now (s.zone z).controlTimer + (s.zone z).settings.controlPeriod ∧
      (t.zone z).settings = (s.zone z).settings ∧ (t.zone z).thermal = (s.zone z).thermal ∧
      (t.zone z).compare = ((t.zone z).output * (s.zone z).settings.period + 500) / 1000 ∧
      (zoneUnhealthy z s = true → (t.zone z).output = 1000) ∧
      (∀ d, zoneUnhealthy z s = false → (t.zone z).lastUpdate.map (·.demand) = some d →
        outputFloor s.agent.managed (s.zone z).settings ≤ (s.zone z).output →
        d ≤ 1000 ∧
        (t.zone z).output ≤ max (s.zone z).output d ∧
        (t.zone z).output ≤ (s.zone z).output + (s.zone z).settings.slewUp ∧
        (s.zone z).output ≤ (t.zone z).output + (s.zone z).settings.slewDown ∧
        outputFloor s.agent.managed (s.zone z).settings ≤ (t.zone z).output ∧
        (outputFloor s.agent.managed (s.zone z).settings ≤ d →
          d ≤ (s.zone z).output + (s.zone z).settings.slewUp →
          (s.zone z).output ≤ d + (s.zone z).settings.slewDown → (t.zone z).output = d)) ∧
      (∀ d, zoneUnhealthy z s = false → (t.zone z).lastUpdate.map (·.demand) = some d →
        let x := s.zone z
        let floor := max x.settings.minDuty (if s.agent.managed then 0 else x.settings.failsafe)
        (x.output + x.settings.slewUp ≤ d → (t.zone z).output = max floor (x.output + x.settings.slewUp)) ∧
        (d + x.settings.slewDown ≤ x.output → (t.zone z).output = max floor (x.output - x.settings.slewDown)) ∧
        (d ≤ x.output + x.settings.slewUp → x.output ≤ d + x.settings.slewDown →
          (t.zone z).output = max floor d)) ∧
      (∀ w, w ≠ z → t.zone w = s.zone w) ∧ (∃ d, (t.zone z).lastUpdate = some d) ∧
      ∀ d, (t.zone z).lastUpdate = some d →
        let x := s.zone z
        let sensors := fun v => ∃ c, (s.sensor c).zone = z ∧ (s.sensor c).status = .valid ∧
          v = curveValue x.curve (s.sensor c).reading
        let runs := fun b => (s.bay b).settings.zone = z ∧ (s.bay b).state.forwarding = true
        let inlets := fun v => ∃ b i, runs b ∧ (s.bay b).inlet = some i ∧ v = curveValue x.curve i
        let largestOf := fun (values : Nat → Prop) (m : Option Nat) =>
          (m = none → ∀ v, ¬ values v) ∧ ∀ k, m = some k → values k ∧ ∀ v, values v → v ≤ k
        largestOf sensors d.sensor ∧ largestOf inlets d.inlet ∧
        (d.missing = true ↔ (∃ c, (s.sensor c).zone = z ∧
            ((s.sensor c).status = .initial ∨ (s.sensor c).status = .faulted)) ∨
          ∃ b, runs b ∧ (s.bay b).inlet = none) ∧
        d.feedforward = (allBays.map fun b => if (s.bay b).settings.zone = z ∧ (s.bay b).state.forwarding = true
          then (s.bay b).alloc else 0).sum * x.settings.feedforward / 1000 ∧
        d.demand = min 1000 (max (max (max (d.sensor.getD 0) (d.inlet.getD 0))
          (max (if d.missing then x.settings.missingDuty else 0) d.feedforward))
          (max x.settings.minDuty (if s.agent.managed then 0 else x.settings.failsafe)))

/-- A tachometer pulse counts, saturating at 1023, and nothing else changes; a window's end gives every fan 30 rpm
for each pulse, starts counting again, and then judges the six fans, each against its zone's output at the
window's end (R119). A fan's judgement: a HEALTHY fan stalls at its third consecutive low window with the output
at 200 or more, and a STALLED or RETURNING fan is HEALTHY at its third consecutive good one (R120, R121). The
fans are judged in ascending order: log 7; the clock moves to the window's end: log 1. A stall raises FAN_FAULT, with
detail STALL and the rpm, and its condition; a proved fan raises FAN_RESTORED, with the state it left HEALTHY for and
the rpm, and ends the condition; each change to or from HEALTHY recomputes L_z with its pass and updates the zone, the
limit first: log 7 (R120, R121, R123). A fan presence sample
changes the level at the third consecutive sample of the other level: a fan pulled is ABSENT with both run counts 0,
one seated is RETURNING (R118, R122). -/
def Obligations.FansAreJudgedAndDebounced : Prop :=
  ((∀ (s : State), s.porstLow = false →
    (∀ f, exec (.tachPulse f) s = .next (s.modFan f fun x => { x with pulses := min (x.pulses + 1) 1023 })) ∧
    exec .tachWindowEnd s = completed s (windowEnd s) ∧
    (∀ f, ((windowEnd s).fan f).rpm = (s.fan f).pulses * 30 ∧ ((windowEnd s).fan f).pulses = 0) ∧
    (windowEnd s).tachWindow = max s.now s.tachWindow + 1000 ∧
    windowEnd s = [0, 1, 2, 3, 4, 5].foldl (fun u f => judgeFan (s.zone (fanZone f)).output f u)
      { s.reach s.tachWindow with
        tachWindow := max s.now s.tachWindow + 1000
        fans := s.fans.map fun x => { x with rpm := x.pulses * 30, pulses := 0 } }) ∧
  (∀ (output : Nat) (f : FanIx) (s : State),
    let x := s.fan f
    let t := judgeFan output f s
    let low := x.rpm < (s.zone (fanZone f)).settings.stall
    let handedOn := fun (u : State) => updateZone (fanZone f) (recomputeLimit (fanZone f) u)
    let limited := fun (u : State) =>
      let z := u.zone (fanZone f)
      let h := ((List.finRange 6).filter fun g => decide (fanZone g = fanZone f ∧ (u.fan g).health = .healthy)).length
      let cooling := if h = 0 then z.settings.cooling0 else if h = 1 then z.settings.cooling1 else z.settings.cooling2
      z.limit = if z.thermal = .critical then min cooling z.settings.critLimit else cooling
    let told := fun (u : State) (kind : EventKind) (detail : Nat) => s.events.queue.length < s.events.limit →
      ∃ rest, u.events.queue = s.events.queue ++
        ⟨kind, .fan f, BitVec.ofNat 8 detail, s.seconds, BitVec.ofNat 32 x.rpm⟩ :: rest
    (x.health = .absent → t = s) ∧
    (x.health = .healthy → output < 200 → (t.fan f).health = .healthy ∧ (t.fan f).lowRun = 0) ∧
    (x.health = .healthy → ¬ low → (t.fan f).health = .healthy ∧ (t.fan f).lowRun = 0) ∧
    (x.health = .healthy → low → 200 ≤ output → x.lowRun < 2 →
      (t.fan f).health = .healthy ∧ (t.fan f).lowRun = x.lowRun + 1) ∧
    (x.health = .healthy → low → 200 ≤ output → 2 ≤ x.lowRun →
      (t.fan f).health = .stalled ∧ (t.fan f).goodRun = 0 ∧ (t.zone (fanZone f)).output = 1000 ∧
      (∃ c ∈ t.conditions, c.key = .fanFault f ∧ c.active = true ∧ c.acked = false) ∧
      t = handedOn (raiseCondition (.fanFault f) (raise .fanFault (.fan f) 0 x.rpm (s.modFan f fun y =>
        { y with health := .stalled, lowRun := x.lowRun + 1, goodRun := 0, leftAs := some .stall }))) ∧
      limited t ∧ told t .fanFault 0) ∧
    (x.health = .stalled ∨ x.health = .returning → low →
      (t.fan f).health = x.health ∧ (t.fan f).goodRun = 0) ∧
    (x.health = .stalled ∨ x.health = .returning → ¬ low → x.goodRun < 2 →
      (t.fan f).health = x.health ∧ (t.fan f).goodRun = x.goodRun + 1) ∧
    (x.health = .stalled ∨ x.health = .returning → ¬ low → 2 ≤ x.goodRun →
      (t.fan f).health = .healthy ∧ (t.fan f).lowRun = 0 ∧
      (∀ c ∈ t.conditions, c.key = .fanFault f → c.active = false) ∧ limited t ∧
      ∀ left, x.leftAs = some left →
        let detail := if left = .absent then 1 else 0
        t = handedOn (endCondition (.fanFault f) (raise .fanRestored (.fan f) detail x.rpm (s.modFan f fun y =>
          { y with health := .healthy, lowRun := 0, goodRun := x.goodRun + 1, leftAs := none }))) ∧
        told t .fanRestored detail) ∧
    ∀ g, g ≠ f → t.fan g = s.fan g)) ∧
  (∀ (f : FanIx) (p : Bool) (s : State), s.porstLow = false →
    let x := s.fan f
    (p = x.present → exec (.fanPresenceSample f p) s =
      completed s (s.modFan f fun y => { y with presenceRun := 0 })) ∧
    (p ≠ x.present → x.presenceRun < 2 → exec (.fanPresenceSample f p) s =
      completed s (s.modFan f fun y => { y with presenceRun := y.presenceRun + 1 })) ∧
    (p ≠ x.present → 2 ≤ x.presenceRun → p = true → x.health = .absent →
      exec (.fanPresenceSample f p) s = completed s (s.modFan f fun y =>
        { y with present := true, presenceRun := 0, health := .returning, goodRun := 0 })) ∧
    (p ≠ x.present → 2 ≤ x.presenceRun → p = false → x.health = .stalled ∨ x.health = .returning →
      exec (.fanPresenceSample f p) s = completed s (s.modFan f fun y =>
        { y with present := false, presenceRun := 0, health := .absent, lowRun := 0, goodRun := 0 })) ∧
    (p ≠ x.present → 2 ≤ x.presenceRun → p = false → x.health = .healthy →
      exec (.fanPresenceSample f p) s = completed s (updateZone (fanZone f) (recomputeLimit (fanZone f)
        (s.modFan f fun y => { y with
          present := false, presenceRun := 0, health := .absent, lowRun := 0, goodRun := 0
          leftAs := some .absent })))))

/-- SET_ZONE: OUT_OF_RANGE beyond Z2, BAD_VALUE for a full-health cooling limit below a floor, and otherwise, for
every selection, the selected rows of Table 6-4 clamped to their ranges (the three cooling values are one row), with
the output raised to a raised floor, C recomputed, and L_z recomputed with its pass (R124, R125, R116). The body
sends C in two bytes: log 12. -/
def Obligations.SetZoneChecksThenChanges : Prop :=
  ∀ (sel : BitVec 16) (v : ZoneValues) (s : State), s.porstLow = false →
    (∀ n : Byte, 2 < n.toNat → exec (.setZone n sel v) s =
      completed s { s with answer := some ⟨.outOfRange, []⟩ }) ∧
    ∀ z : ZoneIx,
      let old := (s.zone z).settings
      let clampedIn := fun (row lo hi : Nat) (x : BitVec 16) =>
        sel.getLsbD row = true ∧ (x.toNat < lo ∨ hi < x.toNat)
      let chosen := fun (row lo hi : Nat) (x : BitVec 16) (kept : Nat) =>
        if sel.getLsbD row then max lo (min hi x.toNat) else kept
      let new : ZoneSettings :=
        { cooling0 := chosen 0 0 10000 v.cooling0 old.cooling0
          cooling1 := chosen 0 0 10000 v.cooling1 old.cooling1
          cooling2 := chosen 0 0 10000 v.cooling2 old.cooling2
          critLimit := chosen 1 0 10000 v.critLimit old.critLimit
          minDuty := chosen 2 0 1000 v.minDuty old.minDuty
          failsafe := chosen 3 0 1000 v.failsafe old.failsafe
          missingDuty := chosen 4 0 1000 v.missingDuty old.missingDuty
          feedforward := chosen 5 0 1000 v.feedforward old.feedforward
          slewUp := chosen 6 1 1000 v.slewUp old.slewUp
          slewDown := chosen 7 1 1000 v.slewDown old.slewDown
          period := chosen 8 10 1000 v.period old.period
          controlPeriod := chosen 9 250 5000 v.controlPeriod old.controlPeriod
          stall := chosen 10 100 10000 v.stall old.stall }
      let tooLow := ∃ b h, (s.bay b).settings.zone = z ∧ (s.bay b).header = some h ∧ new.cooling2 < h.floorWatts
      let run := exec (.setZone (BitVec.ofNat 8 z.val) sel v) s
      (sel.getLsbD 0 = true → tooLow →
        run = completed s { s with answer := some ⟨.badValue, zoneBody z s⟩ }) ∧
      (sel.getLsbD 0 = false ∨ ¬ tooLow →
        let raised := max (if old.minDuty < new.minDuty then new.minDuty else 0)
          (if s.agent.managed = false ∧ old.failsafe < new.failsafe then new.failsafe else 0)
        let out := max (s.zone z).output raised
        let t := recomputeLimit z (s.modZone z fun x => { x with
          settings := new, output := out, compare := (out * new.period + 500) / 1000 })
        run = completed s (answer
          (if clampedIn 0 0 10000 v.cooling0 ∨ clampedIn 0 0 10000 v.cooling1 ∨ clampedIn 0 0 10000 v.cooling2 ∨
              clampedIn 1 0 10000 v.critLimit ∨ clampedIn 2 0 1000 v.minDuty ∨ clampedIn 3 0 1000 v.failsafe ∨
              clampedIn 4 0 1000 v.missingDuty ∨ clampedIn 5 0 1000 v.feedforward ∨ clampedIn 6 1 1000 v.slewUp ∨
              clampedIn 7 1 1000 v.slewDown ∨ clampedIn 8 10 1000 v.period ∨
              clampedIn 9 250 5000 v.controlPeriod ∨ clampedIn 10 100 10000 v.stall then .clamped else .ok)
          (zoneBody z t) t))

/-- LOAD_CURVE: BAD_LENGTH for a list that disagrees with its count, OUT_OF_RANGE beyond Z2, BAD_VALUE for a count
of 0 or above 8 or temperatures not strictly increasing once clamped, and otherwise the new curve whole;
nothing else changes (R126, R174, R175). The count and the list come as separate operands: log 24. -/
def Obligations.LoadCurveChecksThenReplaces : Prop :=
  ∀ (count : Byte) (points : List (BitVec 16 × BitVec 16)) (s : State), s.porstLow = false →
    (∀ n : Byte, points.length ≠ count.toNat → exec (.loadCurve n count points) s = answered s .badLength []) ∧
    (∀ n : Byte, points.length = count.toNat → 2 < n.toNat →
      exec (.loadCurve n count points) s = answered s .outOfRange []) ∧
    ∀ z : ZoneIx, points.length = count.toNat →
      let clampT := fun (x : Int) => if x < -400 then (-400 : Int) else if 1500 < x then 1500 else x
      let new : List CurvePoint := points.map fun p => ⟨clampT p.1.toInt, min 1000 p.2.toNat⟩
      let run := exec (.loadCurve (BitVec.ofNat 8 z.val) count points) s
      (count.toNat = 0 ∨ 8 < count.toNat ∨ ¬ new.Pairwise (fun p q => p.temp < q.temp) →
        run = answered s .badValue (curveBytes (s.zone z).curve)) ∧
      (1 ≤ count.toNat → count.toNat ≤ 8 → new.Pairwise (fun p q => p.temp < q.temp) →
        ∃ t, run = .next t ∧ t = { s.modZone z (fun x => { x with curve := new }) with answer := t.answer } ∧
          ∃ st, t.answer = some ⟨st, curveBytes new⟩ ∧
            (st = .ok ↔ ∀ p ∈ points, clampT p.1.toInt = p.1.toInt ∧ p.2.toNat ≤ 1000) ∧
            (st = .ok ∨ st = .clamped))

/-- SET_SENSOR: OUT_OF_RANGE beyond T11, BAD_VALUE for an unknown zone or enabled code, and otherwise, for every
selection, the selected settings with their clamps; turning a channel off makes it DISABLED and turning it on INITIAL,
and the zones that the change concerns are evaluated again (R127, R105, R109). The old zone of a moved channel comes
before its new one: log 7; an enabled code is checked outside the selection too: log 30; only a
selected value answers CLAMPED: log 34. -/
def Obligations.SetSensorChecksThenChanges : Prop :=
  ∀ (sel zone enabled : Byte) (gain offset warn crit : BitVec 16) (s : State), s.porstLow = false →
    (∀ n : Byte, 11 < n.toNat → exec (.setSensor n sel gain offset zone warn crit enabled) s =
      completed s { s with answer := some ⟨.outOfRange, []⟩ }) ∧
    ∀ c : ChanIx,
      let run := exec (.setSensor (BitVec.ofNat 8 c.val) sel gain offset zone warn crit enabled) s
      (sel.getLsbD 2 = true ∧ 2 < zone.toNat ∨ 1 < enabled.toNat →
        run = completed s { s with answer := some ⟨.badValue, sensorBody c s⟩ }) ∧
      (∀ (z : ZoneIx) (on : Bool),
        (if sel.getLsbD 2 then zone.toNat = z.val else z = (s.sensor c).zone) →
        enabled.toNat ≤ 1 → (if sel.getLsbD 5 then enabled.toNat = on.toNat else on = (s.sensor c).enabled) →
        let old := s.sensor c
        let chosen := fun (row : Nat) (lo hi : Int) (x : BitVec 16) (kept : Int) =>
          if sel.getLsbD row then max lo (min hi x.toInt) else kept
        let clampedIn := fun (row : Nat) (lo hi : Int) (x : BitVec 16) =>
          sel.getLsbD row = true ∧ (x.toInt < lo ∨ hi < x.toInt)
        let w := chosen 3 (-400) 1500 warn old.warn
        let k := chosen 4 (-400) 1500 crit old.crit
        let kept := s.modSensor c fun x => { x with
          gain := if sel.getLsbD 0 then gain.toNat else x.gain
          offset := chosen 1 (-2000) 2000 offset x.offset
          zone := z, warn := w, crit := k }
        let turned := if on = old.enabled then kept
          else if on then kept.modSensor c fun x =>
            { x with enabled := true, status := .initial, railRun := 0, inRangeRun := 0 }
          else disableSensor c kept
        let t := if z ≠ old.zone then evaluateZone z (evaluateZone old.zone turned)
          else if w ≠ old.warn ∨ k ≠ old.crit ∨ on ≠ old.enabled then evaluateZone z turned
          else turned
        run = completed s (answer (if clampedIn 1 (-2000) 2000 offset ∨ clampedIn 3 (-400) 1500 warn ∨
          clampedIn 4 (-400) 1500 crit then .clamped else .ok) (sensorBody c t) t)) ∧
      ((disableSensor c s).sensor c).status = .disabled ∧ ((disableSensor c s).sensor c).enabled = false ∧
      ((disableSensor c s).sensor c).railRun = 0 ∧ ((disableSensor c s).sensor c).inRangeRun = 0 ∧
      (s.converter.converting = some c → (disableSensor c s).converter.discarded = true) ∧
      (∀ e ∈ (disableSensor c s).conditions, (s.sensor c).status = .faulted → e.key = .sensorFault c →
        e.active = false) ∧
      (disableSensor c s).events = s.events

/-! ### Forwarding (chapter 7) -/

/-- A whole frame on a bay port raises frames up and is dropped at the first check it fails, with that check's
counter; one that passes the first three goes to the watch units and on (R136). One that passes all goes up as it
came when its bay's group has tag value 0, and else with that tag after its source address, four bytes longer;
frames out counts it as an UP uplink takes it, and a DOWN one discards it (R134, R137, R130). -/
def Obligations.UpstreamChecksInOrder : Prop :=
  ∀ (b : BayIx) (f : Frame) (s : State), s.porstLow = false → frameWhole f = true →
    let up := s.countBay b fun c => { c with framesUp := sat32 c.framesUp }
    let run := exec (.bayPortFrame b f) s
    ((s.bay b).state.forwarding = false →
      run = completed s (up.countBay b fun c => { c with blocked := sat32 c.blocked })) ∧
    ((s.bay b).state.forwarding = true → (s.bay b).activeUplink = none →
      run = completed s (up.countBay b fun c => { c with noUplink := sat32 c.noUplink })) ∧
    (∀ u, (s.bay b).state.forwarding = true → (s.bay b).activeUplink = some u → frameTagged f = true →
      run = completed s (up.countBay b fun c => { c with tagViolation := sat32 c.tagViolation })) ∧
    (∀ u, (s.bay b).state.forwarding = true → (s.bay b).activeUplink = some u → frameTagged f = false →
      let w := watch (upstreamFields b u f up) f up
      let l := learn b (frameSrc f) w.2
      run = completed s
        (if w.1 then w.2.countBay b fun c => { c with watchDrop := sat32 c.watchDrop }
        else if l.1 then l.2.countBay b fun c => { c with stationConflict := sat32 c.stationConflict }
        else transmit u (upstreamFrame b f l.2) l.2)) ∧
    (let tag := s.groups.get (s.bay b).settings.group
     (tag = 0 → upstreamFrame b f s = f) ∧
     (tag ≠ 0 → tag ≤ 4094 →
       upstreamFrame b f s = f.take 12 ++ [0x81#8, 0x00#8, BitVec.ofNat 8 (tag / 256), BitVec.ofNat 8 tag] ++ f.drop 12 ∧
       (upstreamFrame b f s).length = f.length + 4 ∧
       frameTag (upstreamFrame b f s) = some (BitVec.ofNat 12 tag) ∧ stripTag (upstreamFrame b f s) = f)) ∧
    ∀ (u : UplinkIx) (g : Frame),
      ((s.uplink u).up = true → transmit u g s =
        { s.countUplink u (fun c => { c with framesOut := min (c.framesOut + 1) 4294967295 }) with
          sent := s.sent ++ [.uplink u g] }) ∧
      ((s.uplink u).up = false → transmit u g s = s)

/-- A whole frame on an UP uplink raises frames in; one to the part's addresses goes to the agent by its type code
and is else counted OWN_ADDRESS; one of no group is dropped; any other meets the watch units and is delivered
to its station's bay or flooded (R138). -/
def Obligations.DownstreamGoesByDestination : Prop :=
  ∀ (u : UplinkIx) (f : Frame) (s : State), s.porstLow = false → frameWhole f = true →
    (s.uplink u).up = true →
    let inn := s.countUplink u fun c => { c with framesIn := sat32 c.framesIn }
    let mine := frameDst f = stationAddr s.agent.straps ∨ frameDst f = controlGroupAddr
    let set := allGroups.filter fun g => s.groups.get g = ((frameTag f).getD 0).toNat
    let run := exec (.uplinkFrame u f) s
    (mine → frameType f = controlType → run = completed s (judgeControl ⟨f, u⟩ inn)) ∧
    (mine → frameType f ≠ controlType →
      run = completed s (inn.countUplink u fun c => { c with ownAddress := sat32 c.ownAddress })) ∧
    (¬ mine → set = [] →
      run = completed s (inn.countUplink u fun c => { c with unknownGroup := sat32 c.unknownGroup })) ∧
    (¬ mine → set ≠ [] →
      let w := watch (downstreamFields u f set inn) f inn
      (w.1 = true → run = completed s (w.2.countUplink u fun c => { c with watchDrop := sat32 c.watchDrop })) ∧
      (∀ i e, w.1 = false → isGroup (frameDst f) = false → stationOf (frameDst f) w.2 = some (i, e) →
        run = completed s (deliverTo u f set e.bay w.2)) ∧
      (w.1 = false → isGroup (frameDst f) = true ∨ stationOf (frameDst f) w.2 = none →
        run = completed s (flood u f set w.2)))

/-- R140 and R141: a frame that the watch units let pass and whose unicast destination has a station entry goes
to the entry's bay, checked for an open port, the active uplink and the group in that order, and is delivered
with its tag stripped; any other is flooded, once to each open bay on that uplink in a group of the set, and is
counted NO_BAY when there is none. -/
def Obligations.DeliveryAndFlooding : Prop :=
  ∀ (u : UplinkIx) (f : Frame) (set : List GroupIx) (s : State),
    let t := flood u f set s
    let w := watch (downstreamFields u f set s) f s
    let takes := fun (b : BayIx) => (s.bay b).state.forwarding && (s.bay b).activeUplink = some u &&
      decide ((s.bay b).settings.group ∈ set)
    (∀ i e, w.1 = false → isGroup (frameDst f) = false → stationOf (frameDst f) w.2 = some (i, e) →
      sendDown u f set s = deliverTo u f set e.bay w.2) ∧
    (w.1 = false → isGroup (frameDst f) = true ∨ stationOf (frameDst f) w.2 = none →
      sendDown u f set s = flood u f set w.2) ∧
    (∀ b, (s.bay b).state.forwarding = false →
      deliverTo u f set b s = s.countBay b fun c => { c with blocked := sat32 c.blocked }) ∧
    (∀ b, (s.bay b).state.forwarding = true → (s.bay b).activeUplink ≠ some u →
      deliverTo u f set b s = s.countBay b fun c => { c with notActive := sat32 c.notActive }) ∧
    (∀ b, (s.bay b).state.forwarding = true → (s.bay b).activeUplink = some u →
      (s.bay b).settings.group ∉ set →
      deliverTo u f set b s = s.countBay b fun c => { c with groupMismatch := sat32 c.groupMismatch }) ∧
    (∀ b, (s.bay b).state.forwarding = true → (s.bay b).activeUplink = some u →
      (s.bay b).settings.group ∈ set →
      deliverTo u f set b s = { s.countBay b (fun c => { c with framesDown := sat32 c.framesDown }) with
        sent := s.sent ++ [.bay b (stripTag f)] }) ∧
    ((∀ b, takes b = false) →
      flood u f set s = s.countUplink u fun c => { c with noBay := sat32 c.noBay }) ∧
    ((∃ b, takes b = true) →
      (∀ b, t.bay b = if takes b then
        { s.bay b with counters := { (s.bay b).counters with framesDown := sat32 (s.bay b).counters.framesDown } }
        else s.bay b) ∧
      (∃ new, t.sent = s.sent ++ new ∧
        (∀ x, x ∈ new ↔ ∃ b, takes b = true ∧ x = .bay b (stripTag f)) ∧ new.Nodup) ∧
      t = { s with bays := t.bays, sent := t.sent })

/-- Learning by what the table holds for the source: a new LEARNED entry at the lowest free index, a failure
counted, an age set to 0, a move counted, and a STATIC entry of another bay a conflict (R143). A failure raises
STATION_FULL with the bay as its subject and the learn-fail counter as its data exactly while the full mark is clear,
and sets the mark (R144). The aging timer:
LEARNED entries of age 0 become age 1, older ones are removed, STATIC ones stay, and the timer restarts with the
interval held now (R146), from the deadline to which the clock moves: log 1. -/
def Obligations.StationsAreLearnedAndAged : Prop :=
  (∀ (b : BayIx) (a : Addr) (s : State),
    (isGroup a = true → learn b a s = (false, s)) ∧
    (isGroup a = false →
      (stationOf a s = none → ∀ i, s.stations.entries.get i = none →
        (∀ j, j < i → s.stations.entries.get j ≠ none) →
        learn b a s = (false, putStation i ⟨a, b, .learned 0⟩ s)) ∧
      (stationOf a s = none → (∀ i, s.stations.entries.get i ≠ none) →
        learn b a s = (false, learnFailed b s) ∧
        let n : Nat := min (s.stations.learnFail + 1) 4294967295
        let counted := { s with stations := { s.stations with learnFail := n, fullMark := true } }
        (learnFailed b s).stations = counted.stations ∧
        (s.stations.fullMark = true → learnFailed b s = counted) ∧
        (s.stations.fullMark = false → learnFailed b s = raise .stationFull (.bay b) 0 n counted ∧
          (s.events.queue.length < s.events.limit → (learnFailed b s).events.queue = s.events.queue ++
            [⟨.stationFull, .bay b, 0, s.seconds, BitVec.ofNat 32 n⟩]))) ∧
      (∀ i age, stationOf a s = some (i, ⟨a, b, .learned age⟩) →
        learn b a s = (false, putStation i ⟨a, b, .learned 0⟩ s)) ∧
      (∀ i c age, c ≠ b → stationOf a s = some (i, ⟨a, c, .learned age⟩) →
        (learn b a s).1 = false ∧ (learn b a s).2.stations =
          { (putStation i ⟨a, b, .learned 0⟩ s).stations with moves := sat32 s.stations.moves } ∧
        (learn b a s).2.events = s.events) ∧
      (∀ i mark, stationOf a s = some (i, ⟨a, b, .fixed mark⟩) → learn b a s = (false, s)) ∧
      (∀ i c mark, c ≠ b → stationOf a s = some (i, ⟨a, c, .fixed mark⟩) →
        (learn b a s).1 = true ∧
        (mark = some b → (learn b a s).2 = s) ∧
        (mark ≠ some b → (learn b a s).2 = putStation i ⟨a, c, .fixed (some b)⟩
          (raise .stationConflict (.bay b) c.val i.val s))))) ∧
  (∀ (s : State), s.porstLow = false →
    ∃ t, exec .agingTimerExpiry s = .next t ∧
      (∀ i, t.stations.entries.get i =
        match s.stations.entries.get i with
        | some ⟨a, b, .learned 0⟩ => some ⟨a, b, .learned 1⟩
        | some ⟨a, b, .fixed m⟩ => some ⟨a, b, .fixed m⟩
        | _ => none) ∧
      t.stations.agingTimer = max s.now s.stations.agingTimer + s.stations.agingInterval * 1000 ∧
      t.stations.fullMark = (s.stations.fullMark && !(s.stations.entries.items.any fun e =>
        e.any fun x => x.age.any (1 ≤ ·))) ∧
      t.bays = s.bays ∧ t.events = s.events ∧ t.uplinks = s.uplinks)

/-- Link reports and the hold timer: a report of the present state changes nothing, a fall takes the uplink from
every bay on it and stops its hold, a rise gives it to bays without one that name it and starts the hold, or makes
the failback at once with a hold of 0, and the hold's expiry returns bays to their primary (R130, R132, R133).
UPLINK_DOWN, UPLINK_UP, FAILOVER and FAILBACK are raised with the counts of bays that the rules name. The clock moves
to the hold's deadline, and an expiry of a stopped hold timer changes nothing: log 1; UPLINK_UP comes before the
FAILBACK of a hold of 0: log 7. -/
def Obligations.UplinkRisesAndFalls : Prop :=
  ∀ (u : UplinkIx) (s : State), s.porstLow = false →
    let fallen := uplinkFall u s
    let risen := uplinkRise u s
    let returned := failback u s
    let hold := (s.uplink u).hold
    let named := fun b => (s.bay b).settings.primary = u ∨ (s.bay b).settings.alternate = some u
    let home := fun b => (s.bay b).state.forwarding = true ∧ (s.bay b).settings.primary = u
    let number := fun (p : BayIx → Bool) => (allBays.filter p).length
    let onIt := fun b => (s.bay b).state.forwarding && decide ((s.bay b).activeUplink = some u)
    let takers := number fun b =>
      (s.bay b).state.forwarding && (s.bay b).activeUplink.isNone && decide (named b)
    let left := number fun b => onIt b && (fallen.bay b).activeUplink.isNone
    let away := number fun b => (s.bay b).state.forwarding && decide ((s.bay b).settings.primary = u) &&
      decide ((s.bay b).activeUplink ≠ some u)
    let awayElsewhere := number fun b => (s.bay b).state.forwarding && decide ((s.bay b).settings.primary = u) &&
      decide ((s.bay b).activeUplink ≠ some u) && (s.bay b).activeUplink.isSome
    exec (.uplinkLinkReport u (s.uplink u).up) s = completed s s ∧
    ((s.uplink u).up = true → exec (.uplinkLinkReport u false) s = completed s (uplinkFall u s)) ∧
    ((s.uplink u).up = false → exec (.uplinkLinkReport u true) s = completed s (uplinkRise u s)) ∧
    (∀ d, (s.uplink u).holdTimer = some d → (s.uplink u).up = true → exec (.holdTimerExpiry u) s =
      completed s (failback u ((s.reach d).modUplink u fun x => { x with holdTimer := none }))) ∧
    ((s.uplink u).holdTimer = none → exec (.holdTimerExpiry u) s = completed s s) ∧
    fallen = { s with bays := fallen.bays, uplinks := fallen.uplinks, events := fallen.events } ∧
    (∀ w, fallen.uplink w = if w = u then { s.uplink u with up := false, holdTimer := none } else s.uplink w) ∧
    (∀ b, fallen.bay b = if (s.bay b).state.forwarding = true ∧ (s.bay b).activeUplink = some u then
        { s.bay b with activeUplink :=
            if (fallen.uplink (s.bay b).settings.primary).up then some (s.bay b).settings.primary
            else (s.bay b).settings.alternate.filter fun w => (fallen.uplink w).up }
      else s.bay b) ∧
    (let down := raise .uplinkDown (.uplink u) 0 0 s
     fallen.events = if number onIt = 0 then down.events
       else (raise .failover (.uplink u) left (number onIt - left : Nat) down).events) ∧
    risen = { s with bays := risen.bays, uplinks := risen.uplinks, events := risen.events } ∧
    (∀ w, risen.uplink w = if w = u then
        { s.uplink u with
          up := true, holdTimer := if hold = 0 then (s.uplink u).holdTimer else some (s.now + hold * 1000) }
      else s.uplink w) ∧
    (∀ b, risen.bay b = if ((s.bay b).state.forwarding = true ∧ (s.bay b).activeUplink = none ∧ named b) ∨
        (hold = 0 ∧ home b) then { s.bay b with activeUplink := some u } else s.bay b) ∧
    (let rise := raise .uplinkUp (.uplink u) 0 takers s
     risen.events = if hold = 0 ∧ awayElsewhere ≠ 0 then
       (raise .failback (.uplink u) 0 awayElsewhere rise).events else rise.events) ∧
    returned = { s with bays := returned.bays, events := returned.events } ∧
    (∀ b, returned.bay b = if home b then { s.bay b with activeUplink := some u } else s.bay b) ∧
    returned.events = if away = 0 then s.events else (raise .failback (.uplink u) 0 away s).events

/-- SET_UPLINK and SET_GROUP check their request whole, refuse to clear the last trusted uplink, and change what is
selected, whatever the selection, and nothing else (R151, R152). The group table is sent without a count: log 32; the
time left on a hold timer in seconds, rounded down: logs 28 and 12. -/
def Obligations.ForwardingSettingsApply : Prop :=
  ∀ (s : State), s.porstLow = false →
    (∀ n sel on hold aging, 3 < n.toNat → exec (.setUplink n sel on hold aging) s = answered s .outOfRange []) ∧
    (∀ (u : UplinkIx) sel on hold aging, sel.getLsbD 0 = true → 1 < on.toNat →
      exec (.setUplink (BitVec.ofNat 8 u.val) sel on hold aging) s = answered s .badValue (setUplinkBody u s)) ∧
    (∀ (u : UplinkIx) sel hold aging, sel.getLsbD 0 = true → (∀ w, w ≠ u → (s.uplink w).trusted = false) →
      exec (.setUplink (BitVec.ofNat 8 u.val) sel 0 hold aging) s = answered s .badValue (setUplinkBody u s)) ∧
    (∀ (u : UplinkIx) (sel on : Byte) (hold aging : BitVec 16) (trusted : Bool),
      (if sel.getLsbD 0 then on.toNat = trusted.toNat else trusted = (s.uplink u).trusted) →
      (sel.getLsbD 0 = false ∨ trusted = true ∨ ∃ w, w ≠ u ∧ (s.uplink w).trusted = true) →
      let interval := if sel.getLsbD 2 then max 10 (min 3600 aging.toNat) else s.stations.agingInterval
      let t := { s.modUplink u (fun x => { x with
          trusted := trusted, hold := if sel.getLsbD 1 then min 600 hold.toNat else x.hold }) with
        stations := { s.stations with agingInterval := interval } }
      exec (.setUplink (BitVec.ofNat 8 u.val) sel on hold aging) s =
        answered t (if sel.getLsbD 1 = true ∧ 600 < hold.toNat ∨
          sel.getLsbD 2 = true ∧ (aging.toNat < 10 ∨ 3600 < aging.toNat) then .clamped else .ok) (setUplinkBody u t)) ∧
    (∀ n tag, 15 < n.toNat → exec (.setGroup n tag) s = answered s .outOfRange []) ∧
    (∀ (g : GroupIx) tag, 4094 < tag.toNat →
      exec (.setGroup (BitVec.ofNat 8 g.val) tag) s = answered s .badValue (groupBytes s)) ∧
    (∀ (g : GroupIx) tag, tag.toNat ≤ 4094 →
      let t := { s with groups := s.groups.set g tag.toNat }
      exec (.setGroup (BitVec.ofNat 8 g.val) tag) s = answered t .ok (groupBytes t))

/-- ADD_STATION replaces the entry that holds the address, else takes the lowest free index, else the index of a
LEARNED entry of the highest age, and is FULL in a table of STATIC entries, with conflict marks or without (R148).
REMOVE_STATION removes the entry that holds the address and clears the full mark, and answers NOT_PRESENT when none
holds it (R149);
READ_STATIONS returns the occupied entries from the first index, as many as asked for and fit, and refuses a
first index above 255 (R150). Its next index after a read that ends exactly at the last occupied entry: log 27; the
148 entries that fit a request standing alone: log 4; the one byte of a reported station index: log 12. -/
def Obligations.StationRequestsAct : Prop :=
  (∀ (a : Addr) (s : State), s.porstLow = false →
    (∀ n, 13 < n.toNat → exec (.addStation a n) s = answered s .outOfRange []) ∧
    ∀ b : BayIx,
      let run := exec (.addStation a (BitVec.ofNat 8 b.val)) s
      let placed := fun (i : StationIx) => putStation i ⟨a, b, .fixed none⟩ s
      (isGroup a = true → ∃ body, run = answered s .badValue body) ∧
      (isGroup a = false →
        (∀ i, locate a s.stations = some i →
          run = answered (placed i) .ok (u8 i.val)) ∧
        (∀ i, locate a s.stations = none → s.stations.entries.get i = none →
          (∀ j, j < i → s.stations.entries.get j ≠ none) →
          run = answered (placed i) .ok (u8 i.val)) ∧
        (∀ i e n, locate a s.stations = none → (∀ j, s.stations.entries.get j ≠ none) →
          s.stations.entries.get i = some e → e.age = some n →
          (∀ j x m, s.stations.entries.get j = some x → x.age = some m → m ≤ n ∧ (m = n → i ≤ j)) →
          ∃ t, run = .next t ∧ t.answer = some ⟨.ok, u8 i.val⟩ ∧
            t.stations = { (placed i).stations with fullMark := false }) ∧
        (locate a s.stations = none → (∀ j, ∃ x m k, s.stations.entries.get j = some ⟨x, m, .fixed k⟩) →
          ∃ body, run = answered s .full body))) ∧
  (∀ (s : State), s.porstLow = false →
    (∀ a i, locate a s.stations = some i → exec (.removeStation a) s = answered { s with
      stations := { s.stations with entries := s.stations.entries.set i none, fullMark := false } } .ok []) ∧
    (∀ a, locate a s.stations = none → exec (.removeStation a) s = answered s .notPresent []) ∧
    (∀ first count : BitVec 16, 255 < first.toNat → ∃ body,
      exec (.readStations first count) s = answered { s with draws := s.draws + 1 } .badValue body) ∧
    (∀ first count : BitVec 16, first.toNat ≤ 255 →
      let all := occupiedFrom first.toNat 0 s.stations.entries.items
      let returned := all.take (min count.toNat 148)
      ∃ next : Nat, exec (.readStations first count) s = answered { s with draws := s.draws + 1 }
          (if returned.length = count.toNat then .ok else .truncated)
          (u16 returned.length ++ u16 next ++ returned.flatMap stationItem) ∧
        (all.length ≤ returned.length → next = 256) ∧
        (∀ p, returned.length < all.length → returned.getLast? = some p → next = p.1 + 1)))

/-! ### Watch units (chapter 8) -/

/-- The watch units are handed the fields of Table 7-3, LENGTH with the check sequence: log 16 (R139). A unit matches
exactly the frames of a direction it names, while enabled, whose value for its field is in
range, or out of range with negate on, and only BAY on a downstream frame without a station entry has no value
(R155, R156); a composite hits on a nonempty match set in mode ANY and on its whole nonempty mask in mode ALL,
both composites are judged against the same unit results, and a frame that neither hits changes nothing and is
not dropped (R158). A hit counts, keeps its match set, returns the counter to 0 at the threshold and latches then;
an unlatched one raises WATCH_HIT there (R159). The frame is dropped when a composite with DROP on has hit it (R160),
and each hit with COPY on sends the frame as received to the current manager's uplink while MANAGED and that uplink is
UP, whose frames-out counter it raises (R161). -/
def Obligations.UnitsMatchAndCompositesHit : Prop :=
  (∀ (w : WatchUnit) (v : WatchFields), w.hits v = true ↔
    w.enabled = true ∧ (w.direction = .both ∨ (w.direction = .up ∧ v.up = true) ∨
      (w.direction = .down ∧ v.up = false)) ∧
    ∃ x, v.value w.selector = some x ∧ ((w.lo ≤ x ∧ x ≤ w.hi) ↔ w.negate = false)) ∧
  (∀ (b : BayIx) (u : UplinkIx) (f : Frame) (set : List GroupIx) (x : Selector) (s : State),
    (upstreamFields b u f s).value x ≠ none ∧
    ((downstreamFields u f set s).value x = none ↔
      x = .bay ∧ (isGroup (frameDst f) = true ∨ stationOf (frameDst f) s = none))) ∧
  (∀ (u : UplinkIx) (f : Frame) (s : State),
    let typeCode := wordAt f (if wordAt f 12 = 0x8100#16 then 16 else 12)
    (∀ b, let v := upstreamFields b u f s
      v.up = true ∧ v.value .destAddr = some (addrAt f 0).toNat ∧ v.value .srcAddr = some (addrAt f 6).toNat ∧
      v.value .group = some (s.bay b).settings.group.val ∧ v.value .length = some (f.length + 4) ∧
      v.value .typeCode = some typeCode.toNat ∧ v.value .bay = some b.val ∧ v.value .uplink = some u.val) ∧
    (let inSet := fun g => s.groups.get g = ((frameTag f).getD 0).toNat
     let v := downstreamFields u f (allGroups.filter inSet) s
     v.up = false ∧ v.value .destAddr = some (addrAt f 0).toNat ∧ v.value .srcAddr = some (addrAt f 6).toNat ∧
     (∀ g, inSet g → (∀ h, inSet h → g ≤ h) → v.value .group = some g.val) ∧ v.value .length = some (f.length + 4) ∧
     v.value .typeCode = some typeCode.toNat ∧ v.value .uplink = some u.val ∧
     (∀ i e, isGroup (frameDst f) = false → stationOf (frameDst f) s = some (i, e) →
       v.value .bay = some e.bay.val))) ∧
  (∀ (units : Tab WatchUnit 8) (v : WatchFields) (i : UnitIx),
    (unitMatches units v).getLsbD i.val = (units.get i).hits v) ∧
  (∀ (c : Composite) (m set : BitVec 8), c.hit m = some set ↔
    set = c.mask &&& m ∧ set ≠ 0 ∧ (c.mode = .all → set = c.mask)) ∧
  (∀ (v : WatchFields) (f : Frame) (s : State),
    let m := unitMatches s.units v
    ((∀ i, (s.composites.get i).hit m = none) → watch v f s = (false, s)) ∧
    ∀ i, ((watch v f s).2.composites.get i).totalHits =
      if (s.composites.get i).hit m = none then (s.composites.get i).totalHits
      else min ((s.composites.get i).totalHits + 1) 4294967295) ∧
  (∀ (v : WatchFields) (f : Frame) (s : State),
    let m := unitMatches s.units v
    let t := (watch v f s).2
    let hits := fun i => ((s.composites.get i).hit m).isSome
    let crosses := fun i => hits i && decide ((s.composites.get i).threshold ≤ (s.composites.get i).hitCounter + 1)
    let total := fun i => min ((s.composites.get i).totalHits + 1) 4294967295
    ((watch v f s).1 = true ↔ ∃ i, hits i = true ∧ (s.composites.get i).drop = true) ∧
    (∀ i,
      let c := s.composites.get i
      ((c.hit m) = none → t.composites.get i = c) ∧
      (∀ set, c.hit m = some set → t.composites.get i = { c with
        totalHits := total i, lastMatch := set
        hitCounter := if crosses i then 0 else c.hitCounter + 1, latched := c.latched || crosses i })) ∧
    (∀ g, s.agent.managed = true → s.agent.manager = some g → (s.uplink g.uplink).up = true →
      let copies := ((List.finRange 2).filter fun i => hits i && (s.composites.get i).copy).length
      t.sent = s.sent ++ List.replicate copies (.uplink g.uplink f) ∧
      ∀ w, t.uplink w = if w = g.uplink ∧ 0 < copies then
          { s.uplink w with counters := { (s.uplink w).counters with
            framesOut := min ((s.uplink w).counters.framesOut + copies) 4294967295 } }
        else s.uplink w) ∧
    (s.agent.managed = false ∨ s.agent.manager = none ∨
      (∃ g, s.agent.manager = some g ∧ (s.uplink g.uplink).up = false) → t.sent = s.sent ∧ t.uplinks = s.uplinks) ∧
    (s.events.queue.length + 2 ≤ s.events.limit → ∃ new, t.events.queue = s.events.queue ++ new ∧ new.Nodup ∧
      ∀ e, e ∈ new ↔ ∃ i set, crosses i = true ∧ (s.composites.get i).latched = false ∧
        (s.composites.get i).hit m = some set ∧
        e = ⟨.watchHit, .composite i, set, BitVec.ofNat 32 (s.now / 1000), BitVec.ofNat 32 (total i)⟩) ∧
    t = { s with composites := t.composites, uplinks := t.uplinks, sent := t.sent, events := t.events })

/-- SET_WATCH replaces a unit's record whole with its bounds clamped, SET_COMPOSITE a composite's settings with
its count started afresh and total hits kept, and ARM_COMPOSITE clears the latch alone; refusals change
nothing (R163 to R165). The bodies send the two actions as two bytes: log 31. -/
def Obligations.WatchSettingsApply : Prop :=
  ∀ (s : State), s.porstLow = false →
    (∀ n sel neg dir on lo hi, 7 < n.toNat →
      exec (.setWatch n sel neg dir on lo hi) s = answered s .outOfRange []) ∧
    (∀ (i : UnitIx) sel neg dir on lo hi,
      6 < sel.toNat ∨ 1 < neg.toNat ∨ 2 < dir.toNat ∨ 1 < on.toNat →
      exec (.setWatch (BitVec.ofNat 8 i.val) sel neg dir on lo hi) s =
        answered s .badValue (s.units.get i).bytes) ∧
    (∀ (i : UnitIx) x (neg on : Bool) (d : WatchDir) lo hi,
      let w : WatchUnit := ⟨x, min lo.toNat x.highest, min hi.toNat x.highest, neg, d, on⟩
      exec (.setWatch (BitVec.ofNat 8 i.val) (BitVec.ofNat 8 x.code) (BitVec.ofNat 8 neg.toNat)
          (BitVec.ofNat 8 d.code) (BitVec.ofNat 8 on.toNat) lo hi) s =
        answered { s with units := s.units.set i w }
          (if x.highest < lo.toNat ∨ x.highest < hi.toNat then .clamped else .ok) w.bytes) ∧
    (∀ n mask mode drop copy threshold, 1 < n.toNat →
      exec (.setComposite n mask mode drop copy threshold) s = answered s .outOfRange [] ∧
      exec (.armComposite n) s = answered s .outOfRange []) ∧
    (∀ (i : CompIx) mask mode drop copy threshold, 1 < mode.toNat ∨ 1 < drop.toNat ∨ 1 < copy.toNat →
      exec (.setComposite (BitVec.ofNat 8 i.val) mask mode drop copy threshold) s =
        answered s .badValue (s.composites.get i).bytes) ∧
    (∀ (i : CompIx) mask (m : CompositeMode) (drop copy : Bool) threshold,
      let c : Composite := ⟨mask, m, drop, copy, if threshold = 0 then 1 else threshold.toNat, 0,
        (s.composites.get i).totalHits, false, 0⟩
      exec (.setComposite (BitVec.ofNat 8 i.val) mask (BitVec.ofNat 8 m.code) (BitVec.ofNat 8 drop.toNat)
          (BitVec.ofNat 8 copy.toNat) threshold) s =
        answered { s with composites := s.composites.set i c }
          (if threshold = 0 then .clamped else .ok) c.bytes) ∧
    (∀ i : CompIx,
      let c := { s.composites.get i with latched := false }
      exec (.armComposite (BitVec.ofNat 8 i.val)) s =
        answered { s with composites := s.composites.set i c } .ok c.bytes)

/-! ### In-band management (chapter 9) -/

/-- A control frame is accepted only from a trusted uplink, a unicast source, a listed manager or an empty list,
and with room in the queue; a rejection changes the rejected counter alone, and an acceptance queues the
frame and makes its sender the current manager, MANAGED (R168, R169). The silence timer's expiry: UNMANAGED with
no current manager and the timer stopped, MANAGER_LOST raised, every zone's output at least its failsafe duty,
and the request queue kept (R170); the clock moves to its deadline: log 1. -/
def Obligations.ManagementBeginsAndEnds : Prop :=
  (∀ (c : ControlFrame) (s : State),
    let ok := (s.uplink c.uplink).trusted = true ∧ isGroup (frameSrc c.frame) = false ∧
      (s.agent.managers = [] ∨ frameSrc c.frame ∈ s.agent.managers) ∧ s.agent.queue.length < 4
    let t := judgeControl c s
    (¬ ok → t = s.countUplink c.uplink fun n => { n with controlRejected := sat32 n.controlRejected }) ∧
    (ok →
      t.agent.queue = s.agent.queue ++ [c] ∧ t.agent.managed = true ∧
      t.agent.manager = some ⟨frameSrc c.frame, c.uplink, frameTag c.frame⟩ ∧
      (t.uplink c.uplink).counters.controlAccepted = sat32 (s.uplink c.uplink).counters.controlAccepted ∧
      (s.agent.silenceTimeout ≠ 0 → t.agent.silenceTimer = some (s.now + s.agent.silenceTimeout * 1000)) ∧
      t.agent.managers = s.agent.managers ∧ t.agent.execution = s.agent.execution ∧
      (s.agent.managed = true → t.events = s.events) ∧
      (s.agent.managed = false → s.events.queue.length < s.events.limit →
        ∃ e, t.events.queue = s.events.queue ++ [e] ∧ e.kind = .managerRestored ∧
          e.subject = .uplink c.uplink))) ∧
  (∀ (d : Nat) (m : Manager) (s : State), s.porstLow = false → s.agent.silenceTimer = some d →
    s.agent.manager = some m →
    let t := enterUnmanaged (s.reach d)
    exec .silenceTimerExpiry s = completed s t ∧
    t.agent.managed = false ∧ t.agent.manager = none ∧ t.agent.silenceTimer = none ∧
    t.agent.queue = s.agent.queue ∧ t.agent.execution = s.agent.execution ∧
    (∀ z, zoneUnhealthy z s = false → (s.zone z).settings.failsafe ≤ (t.zone z).output) ∧
    (s.events.queue.length < s.events.limit → ∃ e, t.events.queue = s.events.queue ++ [e] ∧
      e.kind = .managerLost ∧ e.subject = .uplink m.uplink ∧
      e.data = BitVec.ofNat 32 s.agent.silenceTimeout))

/-- The agent's turn: with no frame in execution and none queued it does nothing; a bad header is answered with
BAD_HEADER and no records; an unknown kind with BAD_KIND and a wrong body length with BAD_LENGTH, each with an empty
body and nothing else changed by the record; any other record goes to its owning rule (R172 to R174). A record is
executed as one change, and its answer goes into the response, which is handed over with the last record or when
stop-on-error ends the frame, and otherwise waits for the next turn (R172 to R177). The frame also ends where the
next record runs past its end, or its smallest response has no room (R174, R176). A record whose whole answer has no
room ends it too, without effect: log 26. The kinds and body lengths are those of Table 11-4, a record of a kind does
what the kind's own command does (the changes that can leave work or prompt an attention frame are made whole by the
command), its body holding the command's operands in order, and CLEAR takes its scopes together; a record that reads
a list acts so with the room of a frame's first record. The response frame: its addresses, tag, type code, header,
records and padding (R177, R194), sent and counted on the arrival uplink while that is UP (R130). One record a turn:
log 13. -/
def Obligations.AgentTakesItsTurn : Prop :=
  (∀ (s : State), s.porstLow = false → s.agent.execution = none →
    (s.agent.queue = [] → exec .controlFrameExecution s = .next s) ∧
    (∀ (c : ControlFrame) rest, s.agent.queue = c :: rest →
      let p := framePayload c.frame
      let taken := { s with agent := { s.agent with queue := rest } }
      (p.length < 8 → exec .controlFrameExecution s = .next (respond c true 0 0 [] taken)) ∧
      (8 ≤ p.length → byteAt p 0 ≠ 1 ∨ byteAt p 6 = 0 ∨ 32 < (byteAt p 6).toNat →
        exec .controlFrameExecution s = .next (respond c true (wordAt p 4) 0 [] taken)) ∧
      (8 ≤ p.length → byteAt p 0 = 1 → 1 ≤ (byteAt p 6).toNat → (byteAt p 6).toNat ≤ 32 →
        exec .controlFrameExecution s = .next (runRecord ⟨c, 8, 0, []⟩
          { taken with agent := { taken.agent with execution := some ⟨c, 8, 0, []⟩ } })))) ∧
  (∀ (c : ControlFrame) (bad : Bool) (sequence : BitVec 16) (n : Nat) (records : List Byte) (s : State),
    let t := respond c bad sequence n records s
    ∃ f : Frame,
      frameDst f = frameSrc c.frame ∧ frameSrc f = 0x024F56000000#48 ||| s.agent.straps.setWidth 48 ∧
      frameTag f = frameTag c.frame ∧ (∀ v, frameTag c.frame = some v → wordAt f 14 = v.setWidth 16) ∧
      frameType f = 0xA7C4#16 ∧
      framePayload f = [1, 1, 0, if bad then 1 else 0] ++ u16 sequence.toNat ++ [BitVec.ofNat 8 n, 0] ++ records ++
        List.replicate (38 - records.length) 0 ∧
      ((s.uplink c.uplink).up = true → t = { s with
        uplinks := (s.countUplink c.uplink fun k => { k with framesOut := sat32 k.framesOut }).uplinks
        sent := s.sent ++ [.uplink c.uplink f], agent := { s.agent with execution := none } }) ∧
      ((s.uplink c.uplink).up = false → t = { s with agent := { s.agent with execution := none } })) ∧
  (∀ (p : List Byte) (at_ : Nat),
    let len := (wordAt p (at_ + 4)).toNat
    recordAt p at_ = if at_ + 6 ≤ p.length ∧ at_ + 6 + len ≤ p.length then
      some ⟨byteAt p at_, wordAt p (at_ + 2), (p.drop (at_ + 6)).take len⟩ else none) ∧
  (∀ (r : Record) (room : Nat) (s : State),
    (Kind.ofCode r.kind = none → r.execute room s = { s with answer := some ⟨.badKind, []⟩ }) ∧
    (∀ k, Kind.ofCode r.kind = some k → r.body.length ≠ k.bodyLength r.body →
      r.execute room s = { s with answer := some ⟨.badLength, []⟩ }) ∧
    (∀ k, Kind.ofCode r.kind = some k → r.body.length = k.bodyLength r.body →
      r.execute room s = k.run r.body room s)) ∧
  (∀ (r : Record) (room : Nat) (s : State),
    let count := (byteAt r.body 1).toNat
    let length := match r.kind.toNat with
      | 0x01 | 0x22 | 0x33 | 0x45 | 0x53 | 0x61 => some 0
      | 0x03 | 0x10 | 0x52 | 0x60 | 0x63 => some 1
      | 0x12 | 0x62 => some 2
      | 0x18 | 0x20 | 0x41 | 0x44 => some 4
      | 0x21 | 0x43 => some 6
      | 0x40 | 0x42 | 0x51 => some 8
      | 0x11 => some 9
      | 0x32 => some 12
      | 0x28 | 0x50 => some 18
      | 0x30 => some 30
      | 0x02 => some (4 + 6 * count)
      | 0x31 => some (2 + 4 * count)
      | _ => none
    (length = none → r.execute room s = { s with answer := some ⟨.badKind, []⟩ }) ∧
    ∀ n, length = some n → r.body.length ≠ n → r.execute room s = { s with answer := some ⟨.badLength, []⟩ }) ∧
  (∀ (c : Instr) (tag : BitVec 16) (reserved : Byte) (room : Nat) (s : State), s.porstLow = false →
    let inRoom := fun (room : Nat) (code : Byte) (body : List Byte) =>
      exec c s = .next ((⟨code, tag, body⟩ : Record).execute room s)
    let is := inRoom room
    let changes := fun (code : Byte) (body : List Byte) =>
      exec c s = .next (change ((⟨code, tag, body⟩ : Record).execute room) s)
    let w := fun (x : BitVec 16) => u16 x.toNat
    let a := fun (x : Addr) => u48 x.toNat
    match c with
    | .queryChassis => is 0x01 []
    | .setManagers sel count timeout addrs => is 0x02 ([sel, count] ++ w timeout ++ addrs.flatMap a)
    | .clearStations => is 0x03 [1]
    | .clearCounters => is 0x03 [2]
    | .clearEvents => is 0x03 [4]
    | .queryBay bay => is 0x10 [bay]
    | .setBay bay sel priority autoPower pressToStart zone primary alternate group =>
      changes 0x11 [bay, sel, priority, autoPower, pressToStart, zone, primary, alternate, group]
    | .bayActionOn bay => changes 0x12 [bay, 0]
    | .bayActionStop bay => changes 0x12 [bay, 1]
    | .bayActionForceOff bay => changes 0x12 [bay, 2]
    | .bayActionClearFault bay => changes 0x12 [bay, 3]
    | .bayActionRecheck bay => changes 0x12 [bay, 4]
    | .readIdentity cls index first count => inRoom 1486 0x18 [cls, index, first, count]
    | .setSupply supply watts => changes 0x20 ([supply, reserved] ++ w watts)
    | .setPowerPolicy sel mode overhead capTimeout => changes 0x21 ([sel, mode] ++ w overhead ++ w capTimeout)
    | .queryPower => is 0x22 []
    | .setRamp sel code0 code1 code2 code3 rampTimeout settle stopTimeout shedGrace =>
      is 0x28 ([sel, reserved] ++ w code0 ++ w code1 ++ w code2 ++ w code3 ++ w rampTimeout ++ w settle ++
        w stopTimeout ++ w shedGrace)
    | .setZone zone sel v =>
      changes 0x30 ([zone, reserved] ++ w sel ++ w v.cooling0 ++ w v.cooling1 ++ w v.cooling2 ++ w v.critLimit ++
        w v.minDuty ++ w v.failsafe ++ w v.missingDuty ++ w v.feedforward ++ w v.slewUp ++ w v.slewDown ++
        w v.period ++ w v.controlPeriod ++ w v.stall)
    | .loadCurve zone count points => is 0x31 ([zone, count] ++ points.flatMap fun p => w p.1 ++ w p.2)
    | .setSensor chan sel gain offset zone warn crit enabled =>
      changes 0x32 ([chan, sel] ++ w gain ++ w offset ++ [zone] ++ w warn ++ w crit ++ [enabled])
    | .queryThermal => is 0x33 []
    | .setUplink uplink sel trusted hold aging => is 0x40 ([uplink, sel, trusted, reserved] ++ w hold ++ w aging)
    | .setGroup group value => is 0x41 ([group, reserved] ++ w value)
    | .addStation addr bay => is 0x42 (a addr ++ [bay, reserved])
    | .removeStation addr => is 0x43 (a addr)
    | .readStations first count => inRoom 1486 0x44 (w first ++ w count)
    | .queryTraffic => is 0x45 []
    | .setWatch unit selector negate direction enabled lo hi =>
      is 0x50 ([unit, selector, negate, direction, enabled, reserved] ++ a lo ++ a hi)
    | .setComposite comp mask mode drop copy threshold =>
      is 0x51 ([comp, mask, mode, drop, copy, reserved] ++ w threshold)
    | .armComposite comp => is 0x52 [comp]
    | .queryWatch => is 0x53 []
    | .readEvents count => inRoom 1486 0x60 [count]
    | .readConditions => inRoom 1486 0x61 []
    | .ackCondition kind index => is 0x62 [kind, index]
    | .setEventLimit limit => is 0x63 [limit]
    | _ => True) ∧
  (∀ (scopes : Byte) (tag : BitVec 16) (room : Nat) (s : State),
    (⟨0x03, tag, [scopes]⟩ : Record).execute room s =
      let stations := if scopes.getLsbD 0 then clearStations s else s
      let counters := if scopes.getLsbD 1 then clearCounters stations else stations
      answer .ok [scopes &&& 7] (if scopes.getLsbD 2 then clearEvents counters else counters)) ∧
  (∀ (x : Execution) (s : State), s.porstLow = false → s.agent.execution = some x →
    let p := framePayload x.control.frame
    let ends := exec .controlFrameExecution s =
      .next (respond x.control false (wordAt p 4) x.answered x.records s)
    (recordAt p x.offset = none → ends) ∧
    ∀ r, recordAt p x.offset = some r →
      (1500 < x.records.length + r.smallest + 14 → ends) ∧
      ∀ (a : Answer) (t : State), t = change (r.execute (1500 - 8 - x.records.length - 6)) s → t.answer = some a →
        (1500 < x.records.length + a.body.length + 14 → ends) ∧
        (x.records.length + r.smallest + 14 ≤ 1500 → x.records.length + a.body.length + 14 ≤ 1500 →
          let y : Execution := { x with
            offset := x.offset + 6 + r.body.length, answered := x.answered + 1
            records := x.records ++ [r.kind, BitVec.ofNat 8 a.status.code] ++ u16 r.tag.toNat ++
              u16 a.body.length ++ a.body }
          let last := x.answered + 1 = (byteAt p 6).toNat ∨ ((byteAt p 2).getLsbD 0 = true ∧
            a.status ≠ .ok ∧ a.status ≠ .clamped ∧ a.status ≠ .truncated)
          (¬ last → exec .controlFrameExecution s = .next { t with agent := { t.agent with execution := some y } }) ∧
          (last → exec .controlFrameExecution s =
            .next (respond x.control false (wordAt p 4) y.answered y.records t))))

/-- SET_MANAGERS: BAD_LENGTH for a list that disagrees with its count, BAD_VALUE for more than four addresses or a
group address, and otherwise, for every selection, the selected list and timeout, with the silence timer
restarted while MANAGED and stopped by 0 (R180). -/
def Obligations.SetManagersChecksThenChanges : Prop :=
  ∀ (count : Byte) (timeout : BitVec 16) (addrs : List Addr) (s : State), s.porstLow = false →
    (∀ sel, addrs.length ≠ count.toNat → exec (.setManagers sel count timeout addrs) s = answered s .badLength []) ∧
    (∀ sel, addrs.length = count.toNat → sel.getLsbD 0 = true → 4 < count.toNat ∨ (∃ a ∈ addrs, isGroup a = true) →
      exec (.setManagers sel count timeout addrs) s = answered s .badValue (managersBody s)) ∧
    (∀ sel, addrs.length = count.toNat →
      (sel.getLsbD 0 = true → count.toNat ≤ 4 ∧ ∀ a ∈ addrs, isGroup a = false) →
      let w := if timeout.toNat = 0 then 0 else max 5 (min 600 timeout.toNat)
      let timer := if w = 0 then none else if s.agent.managed then some (s.now + w * 1000) else s.agent.silenceTimer
      let t := { s with agent := { s.agent with
        managers := if sel.getLsbD 0 then addrs else s.agent.managers
        silenceTimeout := if sel.getLsbD 1 then w else s.agent.silenceTimeout
        silenceTimer := if sel.getLsbD 1 then timer else s.agent.silenceTimer } }
      exec (.setManagers sel count timeout addrs) s =
        answered t (if sel.getLsbD 1 = true ∧ w ≠ timeout.toNat then .clamped else .ok) (managersBody t))

/-- CLEAR with each scope: STATIC station entries stay and LEARNED ones go, and the removal of any clears the full mark
(R144); every counter, conflict mark and sticky flag is cleared with latches, masks and settings kept; the event queue
is emptied with its limit kept (R181). -/
def Obligations.ClearClearsItsScope : Prop :=
  ∀ (s : State), s.porstLow = false →
    (∃ t, exec .clearStations s = .next t ∧ t.answer = some ⟨.ok, [1]⟩ ∧
      (∀ i, t.stations.entries.get i = (s.stations.entries.get i).filter fun e => !e.isLearned) ∧
      ((∃ i e, s.stations.entries.get i = some e ∧ e.isLearned = true) → t.stations.fullMark = false) ∧
      ((∀ i e, s.stations.entries.get i = some e → e.isLearned = false) →
        t.stations.fullMark = s.stations.fullMark) ∧
      t = { s with answer := t.answer, stations :=
        { s.stations with entries := t.stations.entries, fullMark := t.stations.fullMark } }) ∧
    (∃ t, exec .clearCounters s = .next t ∧ t.answer = some ⟨.ok, [2]⟩ ∧
      (∀ b, t.bay b = { s.bay b with
        counters := ⟨0, 0, 0, 0, 0, 0, 0, 0, 0⟩, sticky := ⟨false, false, false, false, false⟩ }) ∧
      (∀ i, t.supply i = { s.supply i with sticky := ⟨false, false, false, false, false⟩ }) ∧
      (∀ u, t.uplink u = { s.uplink u with counters := ⟨0, 0, 0, 0, 0, 0, 0, 0⟩ }) ∧
      (∀ i, t.composites.get i = { s.composites.get i with hitCounter := 0, totalHits := 0 }) ∧
      t.stations.learnFail = 0 ∧ t.stations.moves = 0 ∧
      (∀ i, t.stations.entries.get i = (s.stations.entries.get i).map Station.unmarked) ∧
      t.events = s.events ∧ t.conditions = s.conditions ∧ t.agent = s.agent ∧ t.alloc = s.alloc) ∧
    exec .clearEvents s = answered { s with events := { s.events with queue := [], lost := 0 } } .ok [4]
end

