-- ==== Sys2Proof/Laws/Tab.lean ====
section
/-! SUPPORT. Laws of the tables: reading after writing, mapping and filling, and equality by entries. -/

namespace Sys2Proof

@[simp] theorem Tab.get_set_self {α : Type} {n : Nat} (t : Tab α n) (i : Fin n) (x : α) :
    (t.set i x).get i = x := by
  simp [Tab.get, Tab.set]

theorem Tab.get_set_ne {α : Type} {n : Nat} (t : Tab α n) {i j : Fin n} (h : j ≠ i) (x : α) :
    (t.set i x).get j = t.get j := by
  have h' : i.val ≠ j.val := fun e => h (Fin.ext e.symm)
  simp [Tab.get, Tab.set, h']

theorem Tab.get_set {α : Type} {n : Nat} (t : Tab α n) (i j : Fin n) (x : α) :
    (t.set i x).get j = if j = i then x else t.get j := by
  split
  · next h => subst h; exact t.get_set_self j x
  · next h => exact t.get_set_ne h x

@[simp] theorem Tab.get_map {α β : Type} {n : Nat} (t : Tab α n) (f : α → β) (i : Fin n) :
    (t.map f).get i = f (t.get i) := by
  simp [Tab.get, Tab.map]

@[simp] theorem Tab.get_fill {α : Type} {n : Nat} (x : α) (i : Fin n) : (Tab.fill n x).get i = x := by
  simp [Tab.get, Tab.fill]

theorem mapFrom_getElem? {α β : Type} (f : Nat → α → β) (l : List α) (i k : Nat) :
    (mapFrom f i l)[k]? = l[k]?.map (f (i + k)) := by
  induction l generalizing i k with
  | nil => simp [mapFrom]
  | cons x xs ih =>
    cases k with
    | zero => simp [mapFrom]
    | succ k =>
      have e : i + 1 + k = i + (k + 1) := by omega
      simp [mapFrom, ih, e]

theorem Tab.get_eq_getElem? {α : Type} {n : Nat} (t : Tab α n) (i : Fin n) :
    t.items[i.val]? = some (t.get i) := by
  have h : i.val < t.items.length := by rw [t.len]; exact i.isLt
  simp [Tab.get, h]

@[simp] theorem Tab.get_mapIdx {α β : Type} {n : Nat} (t : Tab α n) (f : Nat → α → β) (i : Fin n) :
    (t.mapIdx f).get i = f i.val (t.get i) := by
  have h := (t.mapIdx f).get_eq_getElem? i
  rw [show (t.mapIdx f).items = mapFrom f 0 t.items from rfl, mapFrom_getElem?,
    t.get_eq_getElem?, Nat.zero_add] at h
  simpa using h.symm

/-- Two tables with the same entries are equal. -/
theorem Tab.ext_get {α : Type} {n : Nat} {t u : Tab α n} (h : ∀ i, t.get i = u.get i) : t = u := by
  cases t with
  | mk l hl =>
    cases u with
    | mk m hm =>
      have e : l = m := by
        apply List.ext_getElem (hl.trans hm.symm)
        intro k h1 h2
        exact h ⟨k, hl ▸ h1⟩
      subst e
      rfl

theorem Tab.set_get {α : Type} {n : Nat} (t : Tab α n) (i : Fin n) : t.set i (t.get i) = t := by
  apply Tab.ext_get
  intro j
  rw [Tab.get_set]
  split
  · next h => rw [h]
  · rfl

theorem Tab.set_set {α : Type} {n : Nat} (t : Tab α n) (i : Fin n) (x y : α) :
    (t.set i x).set i y = t.set i y := by
  apply Tab.ext_get
  intro j
  simp only [Tab.get_set]
  split <;> rfl

theorem Tab.mem_items {α : Type} {n : Nat} (t : Tab α n) (x : α) : x ∈ t.items ↔ ∃ i, t.get i = x := by
  constructor
  · intro h
    obtain ⟨k, hk, e⟩ := List.getElem_of_mem h
    exact ⟨⟨k, t.len ▸ hk⟩, e⟩
  · rintro ⟨i, rfl⟩
    exact List.getElem_mem _

theorem mem_allBays (b : BayIx) : b ∈ allBays := by revert b; decide
theorem mem_allSupplies (i : SupIx) : i ∈ allSupplies := by revert i; decide
theorem mem_allZones (z : ZoneIx) : z ∈ allZones := by revert z; decide
theorem mem_allFans (f : FanIx) : f ∈ allFans := by revert f; decide
theorem mem_allChans (c : ChanIx) : c ∈ allChans := by revert c; decide
theorem mem_allUplinks (u : UplinkIx) : u ∈ allUplinks := by revert u; decide
theorem mem_allUnits (i : UnitIx) : i ∈ allUnits := by revert i; decide
theorem mem_allComps (i : CompIx) : i ∈ allComps := by revert i; decide
theorem mem_allGroups (g : GroupIx) : g ∈ allGroups := by revert g; decide
theorem allBays_nodup : allBays.Nodup := by decide

end Sys2Proof
end

