-- ==== Sys2Proof/Laws/State.lean ====
section
/-! SUPPORT. What each update of the state does to each field: one lemma per field per update. -/

namespace Sys2Proof.Machine

variable (s : State)

/-! ### modBay -/

@[simp] theorem State.modBay_now (i : BayIx) (f : Bay → Bay) : (s.modBay i f).now = s.now := rfl
@[simp] theorem State.modBay_porstLow (i : BayIx) (f : Bay → Bay) : (s.modBay i f).porstLow = s.porstLow := rfl
@[simp] theorem State.modBay_supplyLink (i : BayIx) (f : Bay → Bay) : (s.modBay i f).supplyLink = s.supplyLink := rfl
@[simp] theorem State.modBay_store (i : BayIx) (f : Bay → Bay) : (s.modBay i f).store = s.store := rfl
@[simp] theorem State.modBay_supplies (i : BayIx) (f : Bay → Bay) : (s.modBay i f).supplies = s.supplies := rfl
@[simp] theorem State.modBay_alloc (i : BayIx) (f : Bay → Bay) : (s.modBay i f).alloc = s.alloc := rfl
@[simp] theorem State.modBay_ramp (i : BayIx) (f : Bay → Bay) : (s.modBay i f).ramp = s.ramp := rfl
@[simp] theorem State.modBay_sensors (i : BayIx) (f : Bay → Bay) : (s.modBay i f).sensors = s.sensors := rfl
@[simp] theorem State.modBay_converter (i : BayIx) (f : Bay → Bay) : (s.modBay i f).converter = s.converter := rfl
@[simp] theorem State.modBay_zones (i : BayIx) (f : Bay → Bay) : (s.modBay i f).zones = s.zones := rfl
@[simp] theorem State.modBay_fans (i : BayIx) (f : Bay → Bay) : (s.modBay i f).fans = s.fans := rfl
@[simp] theorem State.modBay_tachWindow (i : BayIx) (f : Bay → Bay) : (s.modBay i f).tachWindow = s.tachWindow := rfl
@[simp] theorem State.modBay_uplinks (i : BayIx) (f : Bay → Bay) : (s.modBay i f).uplinks = s.uplinks := rfl
@[simp] theorem State.modBay_groups (i : BayIx) (f : Bay → Bay) : (s.modBay i f).groups = s.groups := rfl
@[simp] theorem State.modBay_stations (i : BayIx) (f : Bay → Bay) : (s.modBay i f).stations = s.stations := rfl
@[simp] theorem State.modBay_units (i : BayIx) (f : Bay → Bay) : (s.modBay i f).units = s.units := rfl
@[simp] theorem State.modBay_composites (i : BayIx) (f : Bay → Bay) : (s.modBay i f).composites = s.composites := rfl
@[simp] theorem State.modBay_agent (i : BayIx) (f : Bay → Bay) : (s.modBay i f).agent = s.agent := rfl
@[simp] theorem State.modBay_events (i : BayIx) (f : Bay → Bay) : (s.modBay i f).events = s.events := rfl
@[simp] theorem State.modBay_conditions (i : BayIx) (f : Bay → Bay) : (s.modBay i f).conditions = s.conditions := rfl
@[simp] theorem State.modBay_faultInd (i : BayIx) (f : Bay → Bay) : (s.modBay i f).faultInd = s.faultInd := rfl
@[simp] theorem State.modBay_sent (i : BayIx) (f : Bay → Bay) : (s.modBay i f).sent = s.sent := rfl
@[simp] theorem State.modBay_answer (i : BayIx) (f : Bay → Bay) : (s.modBay i f).answer = s.answer := rfl
@[simp] theorem State.modBay_draws (i : BayIx) (f : Bay → Bay) : (s.modBay i f).draws = s.draws := rfl
@[simp] theorem State.modBay_pending (i : BayIx) (f : Bay → Bay) : (s.modBay i f).pending = s.pending := rfl
@[simp] theorem State.modBay_supply (i : BayIx) (f : Bay → Bay) (k : SupIx) : (s.modBay i f).supply k = s.supply k := rfl
@[simp] theorem State.modBay_sensor (i : BayIx) (f : Bay → Bay) (k : ChanIx) : (s.modBay i f).sensor k = s.sensor k := rfl
@[simp] theorem State.modBay_zone (i : BayIx) (f : Bay → Bay) (k : ZoneIx) : (s.modBay i f).zone k = s.zone k := rfl
@[simp] theorem State.modBay_fan (i : BayIx) (f : Bay → Bay) (k : FanIx) : (s.modBay i f).fan k = s.fan k := rfl
@[simp] theorem State.modBay_uplink (i : BayIx) (f : Bay → Bay) (k : UplinkIx) : (s.modBay i f).uplink k = s.uplink k := rfl

/-! ### modSupply -/

@[simp] theorem State.modSupply_now (i : SupIx) (f : Supply → Supply) : (s.modSupply i f).now = s.now := rfl
@[simp] theorem State.modSupply_porstLow (i : SupIx) (f : Supply → Supply) : (s.modSupply i f).porstLow = s.porstLow := rfl
@[simp] theorem State.modSupply_bays (i : SupIx) (f : Supply → Supply) : (s.modSupply i f).bays = s.bays := rfl
@[simp] theorem State.modSupply_supplyLink (i : SupIx) (f : Supply → Supply) : (s.modSupply i f).supplyLink = s.supplyLink := rfl
@[simp] theorem State.modSupply_store (i : SupIx) (f : Supply → Supply) : (s.modSupply i f).store = s.store := rfl
@[simp] theorem State.modSupply_alloc (i : SupIx) (f : Supply → Supply) : (s.modSupply i f).alloc = s.alloc := rfl
@[simp] theorem State.modSupply_ramp (i : SupIx) (f : Supply → Supply) : (s.modSupply i f).ramp = s.ramp := rfl
@[simp] theorem State.modSupply_sensors (i : SupIx) (f : Supply → Supply) : (s.modSupply i f).sensors = s.sensors := rfl
@[simp] theorem State.modSupply_converter (i : SupIx) (f : Supply → Supply) : (s.modSupply i f).converter = s.converter := rfl
@[simp] theorem State.modSupply_zones (i : SupIx) (f : Supply → Supply) : (s.modSupply i f).zones = s.zones := rfl
@[simp] theorem State.modSupply_fans (i : SupIx) (f : Supply → Supply) : (s.modSupply i f).fans = s.fans := rfl
@[simp] theorem State.modSupply_tachWindow (i : SupIx) (f : Supply → Supply) : (s.modSupply i f).tachWindow = s.tachWindow := rfl
@[simp] theorem State.modSupply_uplinks (i : SupIx) (f : Supply → Supply) : (s.modSupply i f).uplinks = s.uplinks := rfl
@[simp] theorem State.modSupply_groups (i : SupIx) (f : Supply → Supply) : (s.modSupply i f).groups = s.groups := rfl
@[simp] theorem State.modSupply_stations (i : SupIx) (f : Supply → Supply) : (s.modSupply i f).stations = s.stations := rfl
@[simp] theorem State.modSupply_units (i : SupIx) (f : Supply → Supply) : (s.modSupply i f).units = s.units := rfl
@[simp] theorem State.modSupply_composites (i : SupIx) (f : Supply → Supply) : (s.modSupply i f).composites = s.composites := rfl
@[simp] theorem State.modSupply_agent (i : SupIx) (f : Supply → Supply) : (s.modSupply i f).agent = s.agent := rfl
@[simp] theorem State.modSupply_events (i : SupIx) (f : Supply → Supply) : (s.modSupply i f).events = s.events := rfl
@[simp] theorem State.modSupply_conditions (i : SupIx) (f : Supply → Supply) : (s.modSupply i f).conditions = s.conditions := rfl
@[simp] theorem State.modSupply_faultInd (i : SupIx) (f : Supply → Supply) : (s.modSupply i f).faultInd = s.faultInd := rfl
@[simp] theorem State.modSupply_sent (i : SupIx) (f : Supply → Supply) : (s.modSupply i f).sent = s.sent := rfl
@[simp] theorem State.modSupply_answer (i : SupIx) (f : Supply → Supply) : (s.modSupply i f).answer = s.answer := rfl
@[simp] theorem State.modSupply_draws (i : SupIx) (f : Supply → Supply) : (s.modSupply i f).draws = s.draws := rfl
@[simp] theorem State.modSupply_pending (i : SupIx) (f : Supply → Supply) : (s.modSupply i f).pending = s.pending := rfl
@[simp] theorem State.modSupply_bay (i : SupIx) (f : Supply → Supply) (k : BayIx) : (s.modSupply i f).bay k = s.bay k := rfl
@[simp] theorem State.modSupply_sensor (i : SupIx) (f : Supply → Supply) (k : ChanIx) : (s.modSupply i f).sensor k = s.sensor k := rfl
@[simp] theorem State.modSupply_zone (i : SupIx) (f : Supply → Supply) (k : ZoneIx) : (s.modSupply i f).zone k = s.zone k := rfl
@[simp] theorem State.modSupply_fan (i : SupIx) (f : Supply → Supply) (k : FanIx) : (s.modSupply i f).fan k = s.fan k := rfl
@[simp] theorem State.modSupply_uplink (i : SupIx) (f : Supply → Supply) (k : UplinkIx) : (s.modSupply i f).uplink k = s.uplink k := rfl

/-! ### modSensor -/

@[simp] theorem State.modSensor_now (i : ChanIx) (f : Sensor → Sensor) : (s.modSensor i f).now = s.now := rfl
@[simp] theorem State.modSensor_porstLow (i : ChanIx) (f : Sensor → Sensor) : (s.modSensor i f).porstLow = s.porstLow := rfl
@[simp] theorem State.modSensor_bays (i : ChanIx) (f : Sensor → Sensor) : (s.modSensor i f).bays = s.bays := rfl
@[simp] theorem State.modSensor_supplyLink (i : ChanIx) (f : Sensor → Sensor) : (s.modSensor i f).supplyLink = s.supplyLink := rfl
@[simp] theorem State.modSensor_store (i : ChanIx) (f : Sensor → Sensor) : (s.modSensor i f).store = s.store := rfl
@[simp] theorem State.modSensor_supplies (i : ChanIx) (f : Sensor → Sensor) : (s.modSensor i f).supplies = s.supplies := rfl
@[simp] theorem State.modSensor_alloc (i : ChanIx) (f : Sensor → Sensor) : (s.modSensor i f).alloc = s.alloc := rfl
@[simp] theorem State.modSensor_ramp (i : ChanIx) (f : Sensor → Sensor) : (s.modSensor i f).ramp = s.ramp := rfl
@[simp] theorem State.modSensor_converter (i : ChanIx) (f : Sensor → Sensor) : (s.modSensor i f).converter = s.converter := rfl
@[simp] theorem State.modSensor_zones (i : ChanIx) (f : Sensor → Sensor) : (s.modSensor i f).zones = s.zones := rfl
@[simp] theorem State.modSensor_fans (i : ChanIx) (f : Sensor → Sensor) : (s.modSensor i f).fans = s.fans := rfl
@[simp] theorem State.modSensor_tachWindow (i : ChanIx) (f : Sensor → Sensor) : (s.modSensor i f).tachWindow = s.tachWindow := rfl
@[simp] theorem State.modSensor_uplinks (i : ChanIx) (f : Sensor → Sensor) : (s.modSensor i f).uplinks = s.uplinks := rfl
@[simp] theorem State.modSensor_groups (i : ChanIx) (f : Sensor → Sensor) : (s.modSensor i f).groups = s.groups := rfl
@[simp] theorem State.modSensor_stations (i : ChanIx) (f : Sensor → Sensor) : (s.modSensor i f).stations = s.stations := rfl
@[simp] theorem State.modSensor_units (i : ChanIx) (f : Sensor → Sensor) : (s.modSensor i f).units = s.units := rfl
@[simp] theorem State.modSensor_composites (i : ChanIx) (f : Sensor → Sensor) : (s.modSensor i f).composites = s.composites := rfl
@[simp] theorem State.modSensor_agent (i : ChanIx) (f : Sensor → Sensor) : (s.modSensor i f).agent = s.agent := rfl
@[simp] theorem State.modSensor_events (i : ChanIx) (f : Sensor → Sensor) : (s.modSensor i f).events = s.events := rfl
@[simp] theorem State.modSensor_conditions (i : ChanIx) (f : Sensor → Sensor) : (s.modSensor i f).conditions = s.conditions := rfl
@[simp] theorem State.modSensor_faultInd (i : ChanIx) (f : Sensor → Sensor) : (s.modSensor i f).faultInd = s.faultInd := rfl
@[simp] theorem State.modSensor_sent (i : ChanIx) (f : Sensor → Sensor) : (s.modSensor i f).sent = s.sent := rfl
@[simp] theorem State.modSensor_answer (i : ChanIx) (f : Sensor → Sensor) : (s.modSensor i f).answer = s.answer := rfl
@[simp] theorem State.modSensor_draws (i : ChanIx) (f : Sensor → Sensor) : (s.modSensor i f).draws = s.draws := rfl
@[simp] theorem State.modSensor_pending (i : ChanIx) (f : Sensor → Sensor) : (s.modSensor i f).pending = s.pending := rfl
@[simp] theorem State.modSensor_bay (i : ChanIx) (f : Sensor → Sensor) (k : BayIx) : (s.modSensor i f).bay k = s.bay k := rfl
@[simp] theorem State.modSensor_supply (i : ChanIx) (f : Sensor → Sensor) (k : SupIx) : (s.modSensor i f).supply k = s.supply k := rfl
@[simp] theorem State.modSensor_zone (i : ChanIx) (f : Sensor → Sensor) (k : ZoneIx) : (s.modSensor i f).zone k = s.zone k := rfl
@[simp] theorem State.modSensor_fan (i : ChanIx) (f : Sensor → Sensor) (k : FanIx) : (s.modSensor i f).fan k = s.fan k := rfl
@[simp] theorem State.modSensor_uplink (i : ChanIx) (f : Sensor → Sensor) (k : UplinkIx) : (s.modSensor i f).uplink k = s.uplink k := rfl

/-! ### modZone -/

@[simp] theorem State.modZone_now (i : ZoneIx) (f : Zone → Zone) : (s.modZone i f).now = s.now := rfl
@[simp] theorem State.modZone_porstLow (i : ZoneIx) (f : Zone → Zone) : (s.modZone i f).porstLow = s.porstLow := rfl
@[simp] theorem State.modZone_bays (i : ZoneIx) (f : Zone → Zone) : (s.modZone i f).bays = s.bays := rfl
@[simp] theorem State.modZone_supplyLink (i : ZoneIx) (f : Zone → Zone) : (s.modZone i f).supplyLink = s.supplyLink := rfl
@[simp] theorem State.modZone_store (i : ZoneIx) (f : Zone → Zone) : (s.modZone i f).store = s.store := rfl
@[simp] theorem State.modZone_supplies (i : ZoneIx) (f : Zone → Zone) : (s.modZone i f).supplies = s.supplies := rfl
@[simp] theorem State.modZone_alloc (i : ZoneIx) (f : Zone → Zone) : (s.modZone i f).alloc = s.alloc := rfl
@[simp] theorem State.modZone_ramp (i : ZoneIx) (f : Zone → Zone) : (s.modZone i f).ramp = s.ramp := rfl
@[simp] theorem State.modZone_sensors (i : ZoneIx) (f : Zone → Zone) : (s.modZone i f).sensors = s.sensors := rfl
@[simp] theorem State.modZone_converter (i : ZoneIx) (f : Zone → Zone) : (s.modZone i f).converter = s.converter := rfl
@[simp] theorem State.modZone_fans (i : ZoneIx) (f : Zone → Zone) : (s.modZone i f).fans = s.fans := rfl
@[simp] theorem State.modZone_tachWindow (i : ZoneIx) (f : Zone → Zone) : (s.modZone i f).tachWindow = s.tachWindow := rfl
@[simp] theorem State.modZone_uplinks (i : ZoneIx) (f : Zone → Zone) : (s.modZone i f).uplinks = s.uplinks := rfl
@[simp] theorem State.modZone_groups (i : ZoneIx) (f : Zone → Zone) : (s.modZone i f).groups = s.groups := rfl
@[simp] theorem State.modZone_stations (i : ZoneIx) (f : Zone → Zone) : (s.modZone i f).stations = s.stations := rfl
@[simp] theorem State.modZone_units (i : ZoneIx) (f : Zone → Zone) : (s.modZone i f).units = s.units := rfl
@[simp] theorem State.modZone_composites (i : ZoneIx) (f : Zone → Zone) : (s.modZone i f).composites = s.composites := rfl
@[simp] theorem State.modZone_agent (i : ZoneIx) (f : Zone → Zone) : (s.modZone i f).agent = s.agent := rfl
@[simp] theorem State.modZone_events (i : ZoneIx) (f : Zone → Zone) : (s.modZone i f).events = s.events := rfl
@[simp] theorem State.modZone_conditions (i : ZoneIx) (f : Zone → Zone) : (s.modZone i f).conditions = s.conditions := rfl
@[simp] theorem State.modZone_faultInd (i : ZoneIx) (f : Zone → Zone) : (s.modZone i f).faultInd = s.faultInd := rfl
@[simp] theorem State.modZone_sent (i : ZoneIx) (f : Zone → Zone) : (s.modZone i f).sent = s.sent := rfl
@[simp] theorem State.modZone_answer (i : ZoneIx) (f : Zone → Zone) : (s.modZone i f).answer = s.answer := rfl
@[simp] theorem State.modZone_draws (i : ZoneIx) (f : Zone → Zone) : (s.modZone i f).draws = s.draws := rfl
@[simp] theorem State.modZone_pending (i : ZoneIx) (f : Zone → Zone) : (s.modZone i f).pending = s.pending := rfl
@[simp] theorem State.modZone_bay (i : ZoneIx) (f : Zone → Zone) (k : BayIx) : (s.modZone i f).bay k = s.bay k := rfl
@[simp] theorem State.modZone_supply (i : ZoneIx) (f : Zone → Zone) (k : SupIx) : (s.modZone i f).supply k = s.supply k := rfl
@[simp] theorem State.modZone_sensor (i : ZoneIx) (f : Zone → Zone) (k : ChanIx) : (s.modZone i f).sensor k = s.sensor k := rfl
@[simp] theorem State.modZone_fan (i : ZoneIx) (f : Zone → Zone) (k : FanIx) : (s.modZone i f).fan k = s.fan k := rfl
@[simp] theorem State.modZone_uplink (i : ZoneIx) (f : Zone → Zone) (k : UplinkIx) : (s.modZone i f).uplink k = s.uplink k := rfl

/-! ### modFan -/

@[simp] theorem State.modFan_now (i : FanIx) (f : Fan → Fan) : (s.modFan i f).now = s.now := rfl
@[simp] theorem State.modFan_porstLow (i : FanIx) (f : Fan → Fan) : (s.modFan i f).porstLow = s.porstLow := rfl
@[simp] theorem State.modFan_bays (i : FanIx) (f : Fan → Fan) : (s.modFan i f).bays = s.bays := rfl
@[simp] theorem State.modFan_supplyLink (i : FanIx) (f : Fan → Fan) : (s.modFan i f).supplyLink = s.supplyLink := rfl
@[simp] theorem State.modFan_store (i : FanIx) (f : Fan → Fan) : (s.modFan i f).store = s.store := rfl
@[simp] theorem State.modFan_supplies (i : FanIx) (f : Fan → Fan) : (s.modFan i f).supplies = s.supplies := rfl
@[simp] theorem State.modFan_alloc (i : FanIx) (f : Fan → Fan) : (s.modFan i f).alloc = s.alloc := rfl
@[simp] theorem State.modFan_ramp (i : FanIx) (f : Fan → Fan) : (s.modFan i f).ramp = s.ramp := rfl
@[simp] theorem State.modFan_sensors (i : FanIx) (f : Fan → Fan) : (s.modFan i f).sensors = s.sensors := rfl
@[simp] theorem State.modFan_converter (i : FanIx) (f : Fan → Fan) : (s.modFan i f).converter = s.converter := rfl
@[simp] theorem State.modFan_zones (i : FanIx) (f : Fan → Fan) : (s.modFan i f).zones = s.zones := rfl
@[simp] theorem State.modFan_tachWindow (i : FanIx) (f : Fan → Fan) : (s.modFan i f).tachWindow = s.tachWindow := rfl
@[simp] theorem State.modFan_uplinks (i : FanIx) (f : Fan → Fan) : (s.modFan i f).uplinks = s.uplinks := rfl
@[simp] theorem State.modFan_groups (i : FanIx) (f : Fan → Fan) : (s.modFan i f).groups = s.groups := rfl
@[simp] theorem State.modFan_stations (i : FanIx) (f : Fan → Fan) : (s.modFan i f).stations = s.stations := rfl
@[simp] theorem State.modFan_units (i : FanIx) (f : Fan → Fan) : (s.modFan i f).units = s.units := rfl
@[simp] theorem State.modFan_composites (i : FanIx) (f : Fan → Fan) : (s.modFan i f).composites = s.composites := rfl
@[simp] theorem State.modFan_agent (i : FanIx) (f : Fan → Fan) : (s.modFan i f).agent = s.agent := rfl
@[simp] theorem State.modFan_events (i : FanIx) (f : Fan → Fan) : (s.modFan i f).events = s.events := rfl
@[simp] theorem State.modFan_conditions (i : FanIx) (f : Fan → Fan) : (s.modFan i f).conditions = s.conditions := rfl
@[simp] theorem State.modFan_faultInd (i : FanIx) (f : Fan → Fan) : (s.modFan i f).faultInd = s.faultInd := rfl
@[simp] theorem State.modFan_sent (i : FanIx) (f : Fan → Fan) : (s.modFan i f).sent = s.sent := rfl
@[simp] theorem State.modFan_answer (i : FanIx) (f : Fan → Fan) : (s.modFan i f).answer = s.answer := rfl
@[simp] theorem State.modFan_draws (i : FanIx) (f : Fan → Fan) : (s.modFan i f).draws = s.draws := rfl
@[simp] theorem State.modFan_pending (i : FanIx) (f : Fan → Fan) : (s.modFan i f).pending = s.pending := rfl
@[simp] theorem State.modFan_bay (i : FanIx) (f : Fan → Fan) (k : BayIx) : (s.modFan i f).bay k = s.bay k := rfl
@[simp] theorem State.modFan_supply (i : FanIx) (f : Fan → Fan) (k : SupIx) : (s.modFan i f).supply k = s.supply k := rfl
@[simp] theorem State.modFan_sensor (i : FanIx) (f : Fan → Fan) (k : ChanIx) : (s.modFan i f).sensor k = s.sensor k := rfl
@[simp] theorem State.modFan_zone (i : FanIx) (f : Fan → Fan) (k : ZoneIx) : (s.modFan i f).zone k = s.zone k := rfl
@[simp] theorem State.modFan_uplink (i : FanIx) (f : Fan → Fan) (k : UplinkIx) : (s.modFan i f).uplink k = s.uplink k := rfl

/-! ### modUplink -/

@[simp] theorem State.modUplink_now (i : UplinkIx) (f : Uplink → Uplink) : (s.modUplink i f).now = s.now := rfl
@[simp] theorem State.modUplink_porstLow (i : UplinkIx) (f : Uplink → Uplink) : (s.modUplink i f).porstLow = s.porstLow := rfl
@[simp] theorem State.modUplink_bays (i : UplinkIx) (f : Uplink → Uplink) : (s.modUplink i f).bays = s.bays := rfl
@[simp] theorem State.modUplink_supplyLink (i : UplinkIx) (f : Uplink → Uplink) : (s.modUplink i f).supplyLink = s.supplyLink := rfl
@[simp] theorem State.modUplink_store (i : UplinkIx) (f : Uplink → Uplink) : (s.modUplink i f).store = s.store := rfl
@[simp] theorem State.modUplink_supplies (i : UplinkIx) (f : Uplink → Uplink) : (s.modUplink i f).supplies = s.supplies := rfl
@[simp] theorem State.modUplink_alloc (i : UplinkIx) (f : Uplink → Uplink) : (s.modUplink i f).alloc = s.alloc := rfl
@[simp] theorem State.modUplink_ramp (i : UplinkIx) (f : Uplink → Uplink) : (s.modUplink i f).ramp = s.ramp := rfl
@[simp] theorem State.modUplink_sensors (i : UplinkIx) (f : Uplink → Uplink) : (s.modUplink i f).sensors = s.sensors := rfl
@[simp] theorem State.modUplink_converter (i : UplinkIx) (f : Uplink → Uplink) : (s.modUplink i f).converter = s.converter := rfl
@[simp] theorem State.modUplink_zones (i : UplinkIx) (f : Uplink → Uplink) : (s.modUplink i f).zones = s.zones := rfl
@[simp] theorem State.modUplink_fans (i : UplinkIx) (f : Uplink → Uplink) : (s.modUplink i f).fans = s.fans := rfl
@[simp] theorem State.modUplink_tachWindow (i : UplinkIx) (f : Uplink → Uplink) : (s.modUplink i f).tachWindow = s.tachWindow := rfl
@[simp] theorem State.modUplink_groups (i : UplinkIx) (f : Uplink → Uplink) : (s.modUplink i f).groups = s.groups := rfl
@[simp] theorem State.modUplink_stations (i : UplinkIx) (f : Uplink → Uplink) : (s.modUplink i f).stations = s.stations := rfl
@[simp] theorem State.modUplink_units (i : UplinkIx) (f : Uplink → Uplink) : (s.modUplink i f).units = s.units := rfl
@[simp] theorem State.modUplink_composites (i : UplinkIx) (f : Uplink → Uplink) : (s.modUplink i f).composites = s.composites := rfl
@[simp] theorem State.modUplink_agent (i : UplinkIx) (f : Uplink → Uplink) : (s.modUplink i f).agent = s.agent := rfl
@[simp] theorem State.modUplink_events (i : UplinkIx) (f : Uplink → Uplink) : (s.modUplink i f).events = s.events := rfl
@[simp] theorem State.modUplink_conditions (i : UplinkIx) (f : Uplink → Uplink) : (s.modUplink i f).conditions = s.conditions := rfl
@[simp] theorem State.modUplink_faultInd (i : UplinkIx) (f : Uplink → Uplink) : (s.modUplink i f).faultInd = s.faultInd := rfl
@[simp] theorem State.modUplink_sent (i : UplinkIx) (f : Uplink → Uplink) : (s.modUplink i f).sent = s.sent := rfl
@[simp] theorem State.modUplink_answer (i : UplinkIx) (f : Uplink → Uplink) : (s.modUplink i f).answer = s.answer := rfl
@[simp] theorem State.modUplink_draws (i : UplinkIx) (f : Uplink → Uplink) : (s.modUplink i f).draws = s.draws := rfl
@[simp] theorem State.modUplink_pending (i : UplinkIx) (f : Uplink → Uplink) : (s.modUplink i f).pending = s.pending := rfl
@[simp] theorem State.modUplink_bay (i : UplinkIx) (f : Uplink → Uplink) (k : BayIx) : (s.modUplink i f).bay k = s.bay k := rfl
@[simp] theorem State.modUplink_supply (i : UplinkIx) (f : Uplink → Uplink) (k : SupIx) : (s.modUplink i f).supply k = s.supply k := rfl
@[simp] theorem State.modUplink_sensor (i : UplinkIx) (f : Uplink → Uplink) (k : ChanIx) : (s.modUplink i f).sensor k = s.sensor k := rfl
@[simp] theorem State.modUplink_zone (i : UplinkIx) (f : Uplink → Uplink) (k : ZoneIx) : (s.modUplink i f).zone k = s.zone k := rfl
@[simp] theorem State.modUplink_fan (i : UplinkIx) (f : Uplink → Uplink) (k : FanIx) : (s.modUplink i f).fan k = s.fan k := rfl

/-! ### modLink -/

@[simp] theorem State.modLink_now (i : BayIx) (f : BayLink → BayLink) : (s.modLink i f).now = s.now := rfl
@[simp] theorem State.modLink_porstLow (i : BayIx) (f : BayLink → BayLink) : (s.modLink i f).porstLow = s.porstLow := rfl
@[simp] theorem State.modLink_supplyLink (i : BayIx) (f : BayLink → BayLink) : (s.modLink i f).supplyLink = s.supplyLink := rfl
@[simp] theorem State.modLink_store (i : BayIx) (f : BayLink → BayLink) : (s.modLink i f).store = s.store := rfl
@[simp] theorem State.modLink_supplies (i : BayIx) (f : BayLink → BayLink) : (s.modLink i f).supplies = s.supplies := rfl
@[simp] theorem State.modLink_alloc (i : BayIx) (f : BayLink → BayLink) : (s.modLink i f).alloc = s.alloc := rfl
@[simp] theorem State.modLink_ramp (i : BayIx) (f : BayLink → BayLink) : (s.modLink i f).ramp = s.ramp := rfl
@[simp] theorem State.modLink_sensors (i : BayIx) (f : BayLink → BayLink) : (s.modLink i f).sensors = s.sensors := rfl
@[simp] theorem State.modLink_converter (i : BayIx) (f : BayLink → BayLink) : (s.modLink i f).converter = s.converter := rfl
@[simp] theorem State.modLink_zones (i : BayIx) (f : BayLink → BayLink) : (s.modLink i f).zones = s.zones := rfl
@[simp] theorem State.modLink_fans (i : BayIx) (f : BayLink → BayLink) : (s.modLink i f).fans = s.fans := rfl
@[simp] theorem State.modLink_tachWindow (i : BayIx) (f : BayLink → BayLink) : (s.modLink i f).tachWindow = s.tachWindow := rfl
@[simp] theorem State.modLink_uplinks (i : BayIx) (f : BayLink → BayLink) : (s.modLink i f).uplinks = s.uplinks := rfl
@[simp] theorem State.modLink_groups (i : BayIx) (f : BayLink → BayLink) : (s.modLink i f).groups = s.groups := rfl
@[simp] theorem State.modLink_stations (i : BayIx) (f : BayLink → BayLink) : (s.modLink i f).stations = s.stations := rfl
@[simp] theorem State.modLink_units (i : BayIx) (f : BayLink → BayLink) : (s.modLink i f).units = s.units := rfl
@[simp] theorem State.modLink_composites (i : BayIx) (f : BayLink → BayLink) : (s.modLink i f).composites = s.composites := rfl
@[simp] theorem State.modLink_agent (i : BayIx) (f : BayLink → BayLink) : (s.modLink i f).agent = s.agent := rfl
@[simp] theorem State.modLink_events (i : BayIx) (f : BayLink → BayLink) : (s.modLink i f).events = s.events := rfl
@[simp] theorem State.modLink_conditions (i : BayIx) (f : BayLink → BayLink) : (s.modLink i f).conditions = s.conditions := rfl
@[simp] theorem State.modLink_faultInd (i : BayIx) (f : BayLink → BayLink) : (s.modLink i f).faultInd = s.faultInd := rfl
@[simp] theorem State.modLink_sent (i : BayIx) (f : BayLink → BayLink) : (s.modLink i f).sent = s.sent := rfl
@[simp] theorem State.modLink_answer (i : BayIx) (f : BayLink → BayLink) : (s.modLink i f).answer = s.answer := rfl
@[simp] theorem State.modLink_draws (i : BayIx) (f : BayLink → BayLink) : (s.modLink i f).draws = s.draws := rfl
@[simp] theorem State.modLink_pending (i : BayIx) (f : BayLink → BayLink) : (s.modLink i f).pending = s.pending := rfl
@[simp] theorem State.modLink_supply (i : BayIx) (f : BayLink → BayLink) (k : SupIx) : (s.modLink i f).supply k = s.supply k := rfl
@[simp] theorem State.modLink_sensor (i : BayIx) (f : BayLink → BayLink) (k : ChanIx) : (s.modLink i f).sensor k = s.sensor k := rfl
@[simp] theorem State.modLink_zone (i : BayIx) (f : BayLink → BayLink) (k : ZoneIx) : (s.modLink i f).zone k = s.zone k := rfl
@[simp] theorem State.modLink_fan (i : BayIx) (f : BayLink → BayLink) (k : FanIx) : (s.modLink i f).fan k = s.fan k := rfl
@[simp] theorem State.modLink_uplink (i : BayIx) (f : BayLink → BayLink) (k : UplinkIx) : (s.modLink i f).uplink k = s.uplink k := rfl

/-! ### countBay -/

@[simp] theorem State.countBay_now (i : BayIx) (f : BayCounters → BayCounters) : (s.countBay i f).now = s.now := rfl
@[simp] theorem State.countBay_porstLow (i : BayIx) (f : BayCounters → BayCounters) : (s.countBay i f).porstLow = s.porstLow := rfl
@[simp] theorem State.countBay_supplyLink (i : BayIx) (f : BayCounters → BayCounters) : (s.countBay i f).supplyLink = s.supplyLink := rfl
@[simp] theorem State.countBay_store (i : BayIx) (f : BayCounters → BayCounters) : (s.countBay i f).store = s.store := rfl
@[simp] theorem State.countBay_supplies (i : BayIx) (f : BayCounters → BayCounters) : (s.countBay i f).supplies = s.supplies := rfl
@[simp] theorem State.countBay_alloc (i : BayIx) (f : BayCounters → BayCounters) : (s.countBay i f).alloc = s.alloc := rfl
@[simp] theorem State.countBay_ramp (i : BayIx) (f : BayCounters → BayCounters) : (s.countBay i f).ramp = s.ramp := rfl
@[simp] theorem State.countBay_sensors (i : BayIx) (f : BayCounters → BayCounters) : (s.countBay i f).sensors = s.sensors := rfl
@[simp] theorem State.countBay_converter (i : BayIx) (f : BayCounters → BayCounters) : (s.countBay i f).converter = s.converter := rfl
@[simp] theorem State.countBay_zones (i : BayIx) (f : BayCounters → BayCounters) : (s.countBay i f).zones = s.zones := rfl
@[simp] theorem State.countBay_fans (i : BayIx) (f : BayCounters → BayCounters) : (s.countBay i f).fans = s.fans := rfl
@[simp] theorem State.countBay_tachWindow (i : BayIx) (f : BayCounters → BayCounters) : (s.countBay i f).tachWindow = s.tachWindow := rfl
@[simp] theorem State.countBay_uplinks (i : BayIx) (f : BayCounters → BayCounters) : (s.countBay i f).uplinks = s.uplinks := rfl
@[simp] theorem State.countBay_groups (i : BayIx) (f : BayCounters → BayCounters) : (s.countBay i f).groups = s.groups := rfl
@[simp] theorem State.countBay_stations (i : BayIx) (f : BayCounters → BayCounters) : (s.countBay i f).stations = s.stations := rfl
@[simp] theorem State.countBay_units (i : BayIx) (f : BayCounters → BayCounters) : (s.countBay i f).units = s.units := rfl
@[simp] theorem State.countBay_composites (i : BayIx) (f : BayCounters → BayCounters) : (s.countBay i f).composites = s.composites := rfl
@[simp] theorem State.countBay_agent (i : BayIx) (f : BayCounters → BayCounters) : (s.countBay i f).agent = s.agent := rfl
@[simp] theorem State.countBay_events (i : BayIx) (f : BayCounters → BayCounters) : (s.countBay i f).events = s.events := rfl
@[simp] theorem State.countBay_conditions (i : BayIx) (f : BayCounters → BayCounters) : (s.countBay i f).conditions = s.conditions := rfl
@[simp] theorem State.countBay_faultInd (i : BayIx) (f : BayCounters → BayCounters) : (s.countBay i f).faultInd = s.faultInd := rfl
@[simp] theorem State.countBay_sent (i : BayIx) (f : BayCounters → BayCounters) : (s.countBay i f).sent = s.sent := rfl
@[simp] theorem State.countBay_answer (i : BayIx) (f : BayCounters → BayCounters) : (s.countBay i f).answer = s.answer := rfl
@[simp] theorem State.countBay_draws (i : BayIx) (f : BayCounters → BayCounters) : (s.countBay i f).draws = s.draws := rfl
@[simp] theorem State.countBay_pending (i : BayIx) (f : BayCounters → BayCounters) : (s.countBay i f).pending = s.pending := rfl
@[simp] theorem State.countBay_supply (i : BayIx) (f : BayCounters → BayCounters) (k : SupIx) : (s.countBay i f).supply k = s.supply k := rfl
@[simp] theorem State.countBay_sensor (i : BayIx) (f : BayCounters → BayCounters) (k : ChanIx) : (s.countBay i f).sensor k = s.sensor k := rfl
@[simp] theorem State.countBay_zone (i : BayIx) (f : BayCounters → BayCounters) (k : ZoneIx) : (s.countBay i f).zone k = s.zone k := rfl
@[simp] theorem State.countBay_fan (i : BayIx) (f : BayCounters → BayCounters) (k : FanIx) : (s.countBay i f).fan k = s.fan k := rfl
@[simp] theorem State.countBay_uplink (i : BayIx) (f : BayCounters → BayCounters) (k : UplinkIx) : (s.countBay i f).uplink k = s.uplink k := rfl

/-! ### countUplink -/

@[simp] theorem State.countUplink_now (i : UplinkIx) (f : UplinkCounters → UplinkCounters) : (s.countUplink i f).now = s.now := rfl
@[simp] theorem State.countUplink_porstLow (i : UplinkIx) (f : UplinkCounters → UplinkCounters) : (s.countUplink i f).porstLow = s.porstLow := rfl
@[simp] theorem State.countUplink_bays (i : UplinkIx) (f : UplinkCounters → UplinkCounters) : (s.countUplink i f).bays = s.bays := rfl
@[simp] theorem State.countUplink_supplyLink (i : UplinkIx) (f : UplinkCounters → UplinkCounters) : (s.countUplink i f).supplyLink = s.supplyLink := rfl
@[simp] theorem State.countUplink_store (i : UplinkIx) (f : UplinkCounters → UplinkCounters) : (s.countUplink i f).store = s.store := rfl
@[simp] theorem State.countUplink_supplies (i : UplinkIx) (f : UplinkCounters → UplinkCounters) : (s.countUplink i f).supplies = s.supplies := rfl
@[simp] theorem State.countUplink_alloc (i : UplinkIx) (f : UplinkCounters → UplinkCounters) : (s.countUplink i f).alloc = s.alloc := rfl
@[simp] theorem State.countUplink_ramp (i : UplinkIx) (f : UplinkCounters → UplinkCounters) : (s.countUplink i f).ramp = s.ramp := rfl
@[simp] theorem State.countUplink_sensors (i : UplinkIx) (f : UplinkCounters → UplinkCounters) : (s.countUplink i f).sensors = s.sensors := rfl
@[simp] theorem State.countUplink_converter (i : UplinkIx) (f : UplinkCounters → UplinkCounters) : (s.countUplink i f).converter = s.converter := rfl
@[simp] theorem State.countUplink_zones (i : UplinkIx) (f : UplinkCounters → UplinkCounters) : (s.countUplink i f).zones = s.zones := rfl
@[simp] theorem State.countUplink_fans (i : UplinkIx) (f : UplinkCounters → UplinkCounters) : (s.countUplink i f).fans = s.fans := rfl
@[simp] theorem State.countUplink_tachWindow (i : UplinkIx) (f : UplinkCounters → UplinkCounters) : (s.countUplink i f).tachWindow = s.tachWindow := rfl
@[simp] theorem State.countUplink_groups (i : UplinkIx) (f : UplinkCounters → UplinkCounters) : (s.countUplink i f).groups = s.groups := rfl
@[simp] theorem State.countUplink_stations (i : UplinkIx) (f : UplinkCounters → UplinkCounters) : (s.countUplink i f).stations = s.stations := rfl
@[simp] theorem State.countUplink_units (i : UplinkIx) (f : UplinkCounters → UplinkCounters) : (s.countUplink i f).units = s.units := rfl
@[simp] theorem State.countUplink_composites (i : UplinkIx) (f : UplinkCounters → UplinkCounters) : (s.countUplink i f).composites = s.composites := rfl
@[simp] theorem State.countUplink_agent (i : UplinkIx) (f : UplinkCounters → UplinkCounters) : (s.countUplink i f).agent = s.agent := rfl
@[simp] theorem State.countUplink_events (i : UplinkIx) (f : UplinkCounters → UplinkCounters) : (s.countUplink i f).events = s.events := rfl
@[simp] theorem State.countUplink_conditions (i : UplinkIx) (f : UplinkCounters → UplinkCounters) : (s.countUplink i f).conditions = s.conditions := rfl
@[simp] theorem State.countUplink_faultInd (i : UplinkIx) (f : UplinkCounters → UplinkCounters) : (s.countUplink i f).faultInd = s.faultInd := rfl
@[simp] theorem State.countUplink_sent (i : UplinkIx) (f : UplinkCounters → UplinkCounters) : (s.countUplink i f).sent = s.sent := rfl
@[simp] theorem State.countUplink_answer (i : UplinkIx) (f : UplinkCounters → UplinkCounters) : (s.countUplink i f).answer = s.answer := rfl
@[simp] theorem State.countUplink_draws (i : UplinkIx) (f : UplinkCounters → UplinkCounters) : (s.countUplink i f).draws = s.draws := rfl
@[simp] theorem State.countUplink_pending (i : UplinkIx) (f : UplinkCounters → UplinkCounters) : (s.countUplink i f).pending = s.pending := rfl
@[simp] theorem State.countUplink_bay (i : UplinkIx) (f : UplinkCounters → UplinkCounters) (k : BayIx) : (s.countUplink i f).bay k = s.bay k := rfl
@[simp] theorem State.countUplink_supply (i : UplinkIx) (f : UplinkCounters → UplinkCounters) (k : SupIx) : (s.countUplink i f).supply k = s.supply k := rfl
@[simp] theorem State.countUplink_sensor (i : UplinkIx) (f : UplinkCounters → UplinkCounters) (k : ChanIx) : (s.countUplink i f).sensor k = s.sensor k := rfl
@[simp] theorem State.countUplink_zone (i : UplinkIx) (f : UplinkCounters → UplinkCounters) (k : ZoneIx) : (s.countUplink i f).zone k = s.zone k := rfl
@[simp] theorem State.countUplink_fan (i : UplinkIx) (f : UplinkCounters → UplinkCounters) (k : FanIx) : (s.countUplink i f).fan k = s.fan k := rfl

/-! ### modComposite -/

@[simp] theorem State.modComposite_now (i : CompIx) (f : Composite → Composite) : (s.modComposite i f).now = s.now := rfl
@[simp] theorem State.modComposite_porstLow (i : CompIx) (f : Composite → Composite) : (s.modComposite i f).porstLow = s.porstLow := rfl
@[simp] theorem State.modComposite_bays (i : CompIx) (f : Composite → Composite) : (s.modComposite i f).bays = s.bays := rfl
@[simp] theorem State.modComposite_supplyLink (i : CompIx) (f : Composite → Composite) : (s.modComposite i f).supplyLink = s.supplyLink := rfl
@[simp] theorem State.modComposite_store (i : CompIx) (f : Composite → Composite) : (s.modComposite i f).store = s.store := rfl
@[simp] theorem State.modComposite_supplies (i : CompIx) (f : Composite → Composite) : (s.modComposite i f).supplies = s.supplies := rfl
@[simp] theorem State.modComposite_alloc (i : CompIx) (f : Composite → Composite) : (s.modComposite i f).alloc = s.alloc := rfl
@[simp] theorem State.modComposite_ramp (i : CompIx) (f : Composite → Composite) : (s.modComposite i f).ramp = s.ramp := rfl
@[simp] theorem State.modComposite_sensors (i : CompIx) (f : Composite → Composite) : (s.modComposite i f).sensors = s.sensors := rfl
@[simp] theorem State.modComposite_converter (i : CompIx) (f : Composite → Composite) : (s.modComposite i f).converter = s.converter := rfl
@[simp] theorem State.modComposite_zones (i : CompIx) (f : Composite → Composite) : (s.modComposite i f).zones = s.zones := rfl
@[simp] theorem State.modComposite_fans (i : CompIx) (f : Composite → Composite) : (s.modComposite i f).fans = s.fans := rfl
@[simp] theorem State.modComposite_tachWindow (i : CompIx) (f : Composite → Composite) : (s.modComposite i f).tachWindow = s.tachWindow := rfl
@[simp] theorem State.modComposite_uplinks (i : CompIx) (f : Composite → Composite) : (s.modComposite i f).uplinks = s.uplinks := rfl
@[simp] theorem State.modComposite_groups (i : CompIx) (f : Composite → Composite) : (s.modComposite i f).groups = s.groups := rfl
@[simp] theorem State.modComposite_stations (i : CompIx) (f : Composite → Composite) : (s.modComposite i f).stations = s.stations := rfl
@[simp] theorem State.modComposite_units (i : CompIx) (f : Composite → Composite) : (s.modComposite i f).units = s.units := rfl
@[simp] theorem State.modComposite_agent (i : CompIx) (f : Composite → Composite) : (s.modComposite i f).agent = s.agent := rfl
@[simp] theorem State.modComposite_events (i : CompIx) (f : Composite → Composite) : (s.modComposite i f).events = s.events := rfl
@[simp] theorem State.modComposite_conditions (i : CompIx) (f : Composite → Composite) : (s.modComposite i f).conditions = s.conditions := rfl
@[simp] theorem State.modComposite_faultInd (i : CompIx) (f : Composite → Composite) : (s.modComposite i f).faultInd = s.faultInd := rfl
@[simp] theorem State.modComposite_sent (i : CompIx) (f : Composite → Composite) : (s.modComposite i f).sent = s.sent := rfl
@[simp] theorem State.modComposite_answer (i : CompIx) (f : Composite → Composite) : (s.modComposite i f).answer = s.answer := rfl
@[simp] theorem State.modComposite_draws (i : CompIx) (f : Composite → Composite) : (s.modComposite i f).draws = s.draws := rfl
@[simp] theorem State.modComposite_pending (i : CompIx) (f : Composite → Composite) : (s.modComposite i f).pending = s.pending := rfl
@[simp] theorem State.modComposite_bay (i : CompIx) (f : Composite → Composite) (k : BayIx) : (s.modComposite i f).bay k = s.bay k := rfl
@[simp] theorem State.modComposite_supply (i : CompIx) (f : Composite → Composite) (k : SupIx) : (s.modComposite i f).supply k = s.supply k := rfl
@[simp] theorem State.modComposite_sensor (i : CompIx) (f : Composite → Composite) (k : ChanIx) : (s.modComposite i f).sensor k = s.sensor k := rfl
@[simp] theorem State.modComposite_zone (i : CompIx) (f : Composite → Composite) (k : ZoneIx) : (s.modComposite i f).zone k = s.zone k := rfl
@[simp] theorem State.modComposite_fan (i : CompIx) (f : Composite → Composite) (k : FanIx) : (s.modComposite i f).fan k = s.fan k := rfl
@[simp] theorem State.modComposite_uplink (i : CompIx) (f : Composite → Composite) (k : UplinkIx) : (s.modComposite i f).uplink k = s.uplink k := rfl

/-! ### reach -/

@[simp] theorem State.reach_now (d : Nat) : (s.reach d).now = max s.now d := rfl
@[simp] theorem State.reach_porstLow (d : Nat) : (s.reach d).porstLow = s.porstLow := rfl
@[simp] theorem State.reach_bays (d : Nat) : (s.reach d).bays = s.bays := rfl
@[simp] theorem State.reach_supplyLink (d : Nat) : (s.reach d).supplyLink = s.supplyLink := rfl
@[simp] theorem State.reach_store (d : Nat) : (s.reach d).store = s.store := rfl
@[simp] theorem State.reach_supplies (d : Nat) : (s.reach d).supplies = s.supplies := rfl
@[simp] theorem State.reach_alloc (d : Nat) : (s.reach d).alloc = s.alloc := rfl
@[simp] theorem State.reach_ramp (d : Nat) : (s.reach d).ramp = s.ramp := rfl
@[simp] theorem State.reach_sensors (d : Nat) : (s.reach d).sensors = s.sensors := rfl
@[simp] theorem State.reach_converter (d : Nat) : (s.reach d).converter = s.converter := rfl
@[simp] theorem State.reach_zones (d : Nat) : (s.reach d).zones = s.zones := rfl
@[simp] theorem State.reach_fans (d : Nat) : (s.reach d).fans = s.fans := rfl
@[simp] theorem State.reach_tachWindow (d : Nat) : (s.reach d).tachWindow = s.tachWindow := rfl
@[simp] theorem State.reach_uplinks (d : Nat) : (s.reach d).uplinks = s.uplinks := rfl
@[simp] theorem State.reach_groups (d : Nat) : (s.reach d).groups = s.groups := rfl
@[simp] theorem State.reach_stations (d : Nat) : (s.reach d).stations = s.stations := rfl
@[simp] theorem State.reach_units (d : Nat) : (s.reach d).units = s.units := rfl
@[simp] theorem State.reach_composites (d : Nat) : (s.reach d).composites = s.composites := rfl
@[simp] theorem State.reach_agent (d : Nat) : (s.reach d).agent = s.agent := rfl
@[simp] theorem State.reach_events (d : Nat) : (s.reach d).events = s.events := rfl
@[simp] theorem State.reach_conditions (d : Nat) : (s.reach d).conditions = s.conditions := rfl
@[simp] theorem State.reach_faultInd (d : Nat) : (s.reach d).faultInd = s.faultInd := rfl
@[simp] theorem State.reach_sent (d : Nat) : (s.reach d).sent = s.sent := rfl
@[simp] theorem State.reach_answer (d : Nat) : (s.reach d).answer = s.answer := rfl
@[simp] theorem State.reach_draws (d : Nat) : (s.reach d).draws = s.draws := rfl
@[simp] theorem State.reach_pending (d : Nat) : (s.reach d).pending = s.pending := rfl
@[simp] theorem State.reach_bay (d : Nat) (k : BayIx) : (s.reach d).bay k = s.bay k := rfl
@[simp] theorem State.reach_supply (d : Nat) (k : SupIx) : (s.reach d).supply k = s.supply k := rfl
@[simp] theorem State.reach_sensor (d : Nat) (k : ChanIx) : (s.reach d).sensor k = s.sensor k := rfl
@[simp] theorem State.reach_zone (d : Nat) (k : ZoneIx) : (s.reach d).zone k = s.zone k := rfl
@[simp] theorem State.reach_fan (d : Nat) (k : FanIx) : (s.reach d).fan k = s.fan k := rfl
@[simp] theorem State.reach_uplink (d : Nat) (k : UplinkIx) : (s.reach d).uplink k = s.uplink k := rfl

/-! ### setState -/

@[simp] theorem setState_now (b : BayIx) (st : BayState) : (setState b st s).now = s.now := rfl
@[simp] theorem setState_porstLow (b : BayIx) (st : BayState) : (setState b st s).porstLow = s.porstLow := rfl
@[simp] theorem setState_supplyLink (b : BayIx) (st : BayState) : (setState b st s).supplyLink = s.supplyLink := rfl
@[simp] theorem setState_store (b : BayIx) (st : BayState) : (setState b st s).store = s.store := rfl
@[simp] theorem setState_supplies (b : BayIx) (st : BayState) : (setState b st s).supplies = s.supplies := rfl
@[simp] theorem setState_alloc (b : BayIx) (st : BayState) : (setState b st s).alloc = s.alloc := rfl
@[simp] theorem setState_ramp (b : BayIx) (st : BayState) : (setState b st s).ramp = s.ramp := rfl
@[simp] theorem setState_sensors (b : BayIx) (st : BayState) : (setState b st s).sensors = s.sensors := rfl
@[simp] theorem setState_converter (b : BayIx) (st : BayState) : (setState b st s).converter = s.converter := rfl
@[simp] theorem setState_zones (b : BayIx) (st : BayState) : (setState b st s).zones = s.zones := rfl
@[simp] theorem setState_fans (b : BayIx) (st : BayState) : (setState b st s).fans = s.fans := rfl
@[simp] theorem setState_tachWindow (b : BayIx) (st : BayState) : (setState b st s).tachWindow = s.tachWindow := rfl
@[simp] theorem setState_uplinks (b : BayIx) (st : BayState) : (setState b st s).uplinks = s.uplinks := rfl
@[simp] theorem setState_groups (b : BayIx) (st : BayState) : (setState b st s).groups = s.groups := rfl
@[simp] theorem setState_stations (b : BayIx) (st : BayState) : (setState b st s).stations = s.stations := rfl
@[simp] theorem setState_units (b : BayIx) (st : BayState) : (setState b st s).units = s.units := rfl
@[simp] theorem setState_composites (b : BayIx) (st : BayState) : (setState b st s).composites = s.composites := rfl
@[simp] theorem setState_agent (b : BayIx) (st : BayState) : (setState b st s).agent = s.agent := rfl
@[simp] theorem setState_events (b : BayIx) (st : BayState) : (setState b st s).events = s.events := rfl
@[simp] theorem setState_conditions (b : BayIx) (st : BayState) : (setState b st s).conditions = s.conditions := rfl
@[simp] theorem setState_faultInd (b : BayIx) (st : BayState) : (setState b st s).faultInd = s.faultInd := rfl
@[simp] theorem setState_sent (b : BayIx) (st : BayState) : (setState b st s).sent = s.sent := rfl
@[simp] theorem setState_answer (b : BayIx) (st : BayState) : (setState b st s).answer = s.answer := rfl
@[simp] theorem setState_draws (b : BayIx) (st : BayState) : (setState b st s).draws = s.draws := rfl
@[simp] theorem setState_pending (b : BayIx) (st : BayState) : (setState b st s).pending = s.pending := rfl
@[simp] theorem setState_supply (b : BayIx) (st : BayState) (k : SupIx) : (setState b st s).supply k = s.supply k := rfl
@[simp] theorem setState_sensor (b : BayIx) (st : BayState) (k : ChanIx) : (setState b st s).sensor k = s.sensor k := rfl
@[simp] theorem setState_zone (b : BayIx) (st : BayState) (k : ZoneIx) : (setState b st s).zone k = s.zone k := rfl
@[simp] theorem setState_fan (b : BayIx) (st : BayState) (k : FanIx) : (setState b st s).fan k = s.fan k := rfl
@[simp] theorem setState_uplink (b : BayIx) (st : BayState) (k : UplinkIx) : (setState b st s).uplink k = s.uplink k := rfl

/-! ### setConditions -/

@[simp] theorem setConditions_now (cs : List Condition) : (setConditions cs s).now = s.now := rfl
@[simp] theorem setConditions_porstLow (cs : List Condition) : (setConditions cs s).porstLow = s.porstLow := rfl
@[simp] theorem setConditions_bays (cs : List Condition) : (setConditions cs s).bays = s.bays := rfl
@[simp] theorem setConditions_supplyLink (cs : List Condition) : (setConditions cs s).supplyLink = s.supplyLink := rfl
@[simp] theorem setConditions_store (cs : List Condition) : (setConditions cs s).store = s.store := rfl
@[simp] theorem setConditions_supplies (cs : List Condition) : (setConditions cs s).supplies = s.supplies := rfl
@[simp] theorem setConditions_alloc (cs : List Condition) : (setConditions cs s).alloc = s.alloc := rfl
@[simp] theorem setConditions_ramp (cs : List Condition) : (setConditions cs s).ramp = s.ramp := rfl
@[simp] theorem setConditions_sensors (cs : List Condition) : (setConditions cs s).sensors = s.sensors := rfl
@[simp] theorem setConditions_converter (cs : List Condition) : (setConditions cs s).converter = s.converter := rfl
@[simp] theorem setConditions_zones (cs : List Condition) : (setConditions cs s).zones = s.zones := rfl
@[simp] theorem setConditions_fans (cs : List Condition) : (setConditions cs s).fans = s.fans := rfl
@[simp] theorem setConditions_tachWindow (cs : List Condition) : (setConditions cs s).tachWindow = s.tachWindow := rfl
@[simp] theorem setConditions_uplinks (cs : List Condition) : (setConditions cs s).uplinks = s.uplinks := rfl
@[simp] theorem setConditions_groups (cs : List Condition) : (setConditions cs s).groups = s.groups := rfl
@[simp] theorem setConditions_stations (cs : List Condition) : (setConditions cs s).stations = s.stations := rfl
@[simp] theorem setConditions_units (cs : List Condition) : (setConditions cs s).units = s.units := rfl
@[simp] theorem setConditions_composites (cs : List Condition) : (setConditions cs s).composites = s.composites := rfl
@[simp] theorem setConditions_agent (cs : List Condition) : (setConditions cs s).agent = s.agent := rfl
@[simp] theorem setConditions_events (cs : List Condition) : (setConditions cs s).events = s.events := rfl
@[simp] theorem setConditions_conditions (cs : List Condition) : (setConditions cs s).conditions = cs := rfl
@[simp] theorem setConditions_faultInd (cs : List Condition) : (setConditions cs s).faultInd = cs.any fun c => !c.acked := rfl
@[simp] theorem setConditions_sent (cs : List Condition) : (setConditions cs s).sent = s.sent := rfl
@[simp] theorem setConditions_answer (cs : List Condition) : (setConditions cs s).answer = s.answer := rfl
@[simp] theorem setConditions_draws (cs : List Condition) : (setConditions cs s).draws = s.draws := rfl
@[simp] theorem setConditions_pending (cs : List Condition) : (setConditions cs s).pending = s.pending := rfl
@[simp] theorem setConditions_bay (cs : List Condition) (k : BayIx) : (setConditions cs s).bay k = s.bay k := rfl
@[simp] theorem setConditions_supply (cs : List Condition) (k : SupIx) : (setConditions cs s).supply k = s.supply k := rfl
@[simp] theorem setConditions_sensor (cs : List Condition) (k : ChanIx) : (setConditions cs s).sensor k = s.sensor k := rfl
@[simp] theorem setConditions_zone (cs : List Condition) (k : ZoneIx) : (setConditions cs s).zone k = s.zone k := rfl
@[simp] theorem setConditions_fan (cs : List Condition) (k : FanIx) : (setConditions cs s).fan k = s.fan k := rfl
@[simp] theorem setConditions_uplink (cs : List Condition) (k : UplinkIx) : (setConditions cs s).uplink k = s.uplink k := rfl

/-! ### answer -/

@[simp] theorem answer_now (st : Status) (body : List Byte) : (answer st body s).now = s.now := rfl
@[simp] theorem answer_porstLow (st : Status) (body : List Byte) : (answer st body s).porstLow = s.porstLow := rfl
@[simp] theorem answer_bays (st : Status) (body : List Byte) : (answer st body s).bays = s.bays := rfl
@[simp] theorem answer_supplyLink (st : Status) (body : List Byte) : (answer st body s).supplyLink = s.supplyLink := rfl
@[simp] theorem answer_store (st : Status) (body : List Byte) : (answer st body s).store = s.store := rfl
@[simp] theorem answer_supplies (st : Status) (body : List Byte) : (answer st body s).supplies = s.supplies := rfl
@[simp] theorem answer_alloc (st : Status) (body : List Byte) : (answer st body s).alloc = s.alloc := rfl
@[simp] theorem answer_ramp (st : Status) (body : List Byte) : (answer st body s).ramp = s.ramp := rfl
@[simp] theorem answer_sensors (st : Status) (body : List Byte) : (answer st body s).sensors = s.sensors := rfl
@[simp] theorem answer_converter (st : Status) (body : List Byte) : (answer st body s).converter = s.converter := rfl
@[simp] theorem answer_zones (st : Status) (body : List Byte) : (answer st body s).zones = s.zones := rfl
@[simp] theorem answer_fans (st : Status) (body : List Byte) : (answer st body s).fans = s.fans := rfl
@[simp] theorem answer_tachWindow (st : Status) (body : List Byte) : (answer st body s).tachWindow = s.tachWindow := rfl
@[simp] theorem answer_uplinks (st : Status) (body : List Byte) : (answer st body s).uplinks = s.uplinks := rfl
@[simp] theorem answer_groups (st : Status) (body : List Byte) : (answer st body s).groups = s.groups := rfl
@[simp] theorem answer_stations (st : Status) (body : List Byte) : (answer st body s).stations = s.stations := rfl
@[simp] theorem answer_units (st : Status) (body : List Byte) : (answer st body s).units = s.units := rfl
@[simp] theorem answer_composites (st : Status) (body : List Byte) : (answer st body s).composites = s.composites := rfl
@[simp] theorem answer_agent (st : Status) (body : List Byte) : (answer st body s).agent = s.agent := rfl
@[simp] theorem answer_events (st : Status) (body : List Byte) : (answer st body s).events = s.events := rfl
@[simp] theorem answer_conditions (st : Status) (body : List Byte) : (answer st body s).conditions = s.conditions := rfl
@[simp] theorem answer_faultInd (st : Status) (body : List Byte) : (answer st body s).faultInd = s.faultInd := rfl
@[simp] theorem answer_sent (st : Status) (body : List Byte) : (answer st body s).sent = s.sent := rfl
@[simp] theorem answer_answer (st : Status) (body : List Byte) : (answer st body s).answer = some ⟨st, body⟩ := rfl
@[simp] theorem answer_draws (st : Status) (body : List Byte) : (answer st body s).draws = s.draws := rfl
@[simp] theorem answer_pending (st : Status) (body : List Byte) : (answer st body s).pending = s.pending := rfl
@[simp] theorem answer_bay (st : Status) (body : List Byte) (k : BayIx) : (answer st body s).bay k = s.bay k := rfl
@[simp] theorem answer_supply (st : Status) (body : List Byte) (k : SupIx) : (answer st body s).supply k = s.supply k := rfl
@[simp] theorem answer_sensor (st : Status) (body : List Byte) (k : ChanIx) : (answer st body s).sensor k = s.sensor k := rfl
@[simp] theorem answer_zone (st : Status) (body : List Byte) (k : ZoneIx) : (answer st body s).zone k = s.zone k := rfl
@[simp] theorem answer_fan (st : Status) (body : List Byte) (k : FanIx) : (answer st body s).fan k = s.fan k := rfl
@[simp] theorem answer_uplink (st : Status) (body : List Byte) (k : UplinkIx) : (answer st body s).uplink k = s.uplink k := rfl

/-! ### putStation -/

@[simp] theorem putStation_now (i : StationIx) (e : Station) : (putStation i e s).now = s.now := rfl
@[simp] theorem putStation_porstLow (i : StationIx) (e : Station) : (putStation i e s).porstLow = s.porstLow := rfl
@[simp] theorem putStation_bays (i : StationIx) (e : Station) : (putStation i e s).bays = s.bays := rfl
@[simp] theorem putStation_supplyLink (i : StationIx) (e : Station) : (putStation i e s).supplyLink = s.supplyLink := rfl
@[simp] theorem putStation_store (i : StationIx) (e : Station) : (putStation i e s).store = s.store := rfl
@[simp] theorem putStation_supplies (i : StationIx) (e : Station) : (putStation i e s).supplies = s.supplies := rfl
@[simp] theorem putStation_alloc (i : StationIx) (e : Station) : (putStation i e s).alloc = s.alloc := rfl
@[simp] theorem putStation_ramp (i : StationIx) (e : Station) : (putStation i e s).ramp = s.ramp := rfl
@[simp] theorem putStation_sensors (i : StationIx) (e : Station) : (putStation i e s).sensors = s.sensors := rfl
@[simp] theorem putStation_converter (i : StationIx) (e : Station) : (putStation i e s).converter = s.converter := rfl
@[simp] theorem putStation_zones (i : StationIx) (e : Station) : (putStation i e s).zones = s.zones := rfl
@[simp] theorem putStation_fans (i : StationIx) (e : Station) : (putStation i e s).fans = s.fans := rfl
@[simp] theorem putStation_tachWindow (i : StationIx) (e : Station) : (putStation i e s).tachWindow = s.tachWindow := rfl
@[simp] theorem putStation_uplinks (i : StationIx) (e : Station) : (putStation i e s).uplinks = s.uplinks := rfl
@[simp] theorem putStation_groups (i : StationIx) (e : Station) : (putStation i e s).groups = s.groups := rfl
@[simp] theorem putStation_stations (i : StationIx) (e : Station) :
    (putStation i e s).stations = { s.stations with entries := s.stations.entries.set i (some e) } := rfl
@[simp] theorem putStation_units (i : StationIx) (e : Station) : (putStation i e s).units = s.units := rfl
@[simp] theorem putStation_composites (i : StationIx) (e : Station) : (putStation i e s).composites = s.composites := rfl
@[simp] theorem putStation_agent (i : StationIx) (e : Station) : (putStation i e s).agent = s.agent := rfl
@[simp] theorem putStation_events (i : StationIx) (e : Station) : (putStation i e s).events = s.events := rfl
@[simp] theorem putStation_conditions (i : StationIx) (e : Station) : (putStation i e s).conditions = s.conditions := rfl
@[simp] theorem putStation_faultInd (i : StationIx) (e : Station) : (putStation i e s).faultInd = s.faultInd := rfl
@[simp] theorem putStation_sent (i : StationIx) (e : Station) : (putStation i e s).sent = s.sent := rfl
@[simp] theorem putStation_answer (i : StationIx) (e : Station) : (putStation i e s).answer = s.answer := rfl
@[simp] theorem putStation_draws (i : StationIx) (e : Station) : (putStation i e s).draws = s.draws := rfl
@[simp] theorem putStation_pending (i : StationIx) (e : Station) : (putStation i e s).pending = s.pending := rfl
@[simp] theorem putStation_bay (i : StationIx) (e : Station) (k : BayIx) : (putStation i e s).bay k = s.bay k := rfl
@[simp] theorem putStation_supply (i : StationIx) (e : Station) (k : SupIx) : (putStation i e s).supply k = s.supply k := rfl
@[simp] theorem putStation_sensor (i : StationIx) (e : Station) (k : ChanIx) : (putStation i e s).sensor k = s.sensor k := rfl
@[simp] theorem putStation_zone (i : StationIx) (e : Station) (k : ZoneIx) : (putStation i e s).zone k = s.zone k := rfl
@[simp] theorem putStation_fan (i : StationIx) (e : Station) (k : FanIx) : (putStation i e s).fan k = s.fan k := rfl
@[simp] theorem putStation_uplink (i : StationIx) (e : Station) (k : UplinkIx) : (putStation i e s).uplink k = s.uplink k := rfl

/-! ### dropStations -/

@[simp] theorem dropStations_now (sel : Station → Bool) : (dropStations sel s).now = s.now := rfl
@[simp] theorem dropStations_porstLow (sel : Station → Bool) : (dropStations sel s).porstLow = s.porstLow := rfl
@[simp] theorem dropStations_bays (sel : Station → Bool) : (dropStations sel s).bays = s.bays := rfl
@[simp] theorem dropStations_supplyLink (sel : Station → Bool) : (dropStations sel s).supplyLink = s.supplyLink := rfl
@[simp] theorem dropStations_store (sel : Station → Bool) : (dropStations sel s).store = s.store := rfl
@[simp] theorem dropStations_supplies (sel : Station → Bool) : (dropStations sel s).supplies = s.supplies := rfl
@[simp] theorem dropStations_alloc (sel : Station → Bool) : (dropStations sel s).alloc = s.alloc := rfl
@[simp] theorem dropStations_ramp (sel : Station → Bool) : (dropStations sel s).ramp = s.ramp := rfl
@[simp] theorem dropStations_sensors (sel : Station → Bool) : (dropStations sel s).sensors = s.sensors := rfl
@[simp] theorem dropStations_converter (sel : Station → Bool) : (dropStations sel s).converter = s.converter := rfl
@[simp] theorem dropStations_zones (sel : Station → Bool) : (dropStations sel s).zones = s.zones := rfl
@[simp] theorem dropStations_fans (sel : Station → Bool) : (dropStations sel s).fans = s.fans := rfl
@[simp] theorem dropStations_tachWindow (sel : Station → Bool) : (dropStations sel s).tachWindow = s.tachWindow := rfl
@[simp] theorem dropStations_uplinks (sel : Station → Bool) : (dropStations sel s).uplinks = s.uplinks := rfl
@[simp] theorem dropStations_groups (sel : Station → Bool) : (dropStations sel s).groups = s.groups := rfl
@[simp] theorem dropStations_units (sel : Station → Bool) : (dropStations sel s).units = s.units := rfl
@[simp] theorem dropStations_composites (sel : Station → Bool) : (dropStations sel s).composites = s.composites := rfl
@[simp] theorem dropStations_agent (sel : Station → Bool) : (dropStations sel s).agent = s.agent := rfl
@[simp] theorem dropStations_events (sel : Station → Bool) : (dropStations sel s).events = s.events := rfl
@[simp] theorem dropStations_conditions (sel : Station → Bool) : (dropStations sel s).conditions = s.conditions := rfl
@[simp] theorem dropStations_faultInd (sel : Station → Bool) : (dropStations sel s).faultInd = s.faultInd := rfl
@[simp] theorem dropStations_sent (sel : Station → Bool) : (dropStations sel s).sent = s.sent := rfl
@[simp] theorem dropStations_answer (sel : Station → Bool) : (dropStations sel s).answer = s.answer := rfl
@[simp] theorem dropStations_draws (sel : Station → Bool) : (dropStations sel s).draws = s.draws := rfl
@[simp] theorem dropStations_pending (sel : Station → Bool) : (dropStations sel s).pending = s.pending := rfl
@[simp] theorem dropStations_bay (sel : Station → Bool) (k : BayIx) : (dropStations sel s).bay k = s.bay k := rfl
@[simp] theorem dropStations_supply (sel : Station → Bool) (k : SupIx) : (dropStations sel s).supply k = s.supply k := rfl
@[simp] theorem dropStations_sensor (sel : Station → Bool) (k : ChanIx) : (dropStations sel s).sensor k = s.sensor k := rfl
@[simp] theorem dropStations_zone (sel : Station → Bool) (k : ZoneIx) : (dropStations sel s).zone k = s.zone k := rfl
@[simp] theorem dropStations_fan (sel : Station → Bool) (k : FanIx) : (dropStations sel s).fan k = s.fan k := rfl
@[simp] theorem dropStations_uplink (sel : Station → Bool) (k : UplinkIx) : (dropStations sel s).uplink k = s.uplink k := rfl

/-! ### setSupplyEngine -/

@[simp] theorem setSupplyEngine_now (e : Engine) : (setSupplyEngine e s).now = s.now := rfl
@[simp] theorem setSupplyEngine_porstLow (e : Engine) : (setSupplyEngine e s).porstLow = s.porstLow := rfl
@[simp] theorem setSupplyEngine_bays (e : Engine) : (setSupplyEngine e s).bays = s.bays := rfl
@[simp] theorem setSupplyEngine_supplyLink (e : Engine) : (setSupplyEngine e s).supplyLink = { s.supplyLink with engine := e } := rfl
@[simp] theorem setSupplyEngine_store (e : Engine) : (setSupplyEngine e s).store = s.store := rfl
@[simp] theorem setSupplyEngine_supplies (e : Engine) : (setSupplyEngine e s).supplies = s.supplies := rfl
@[simp] theorem setSupplyEngine_alloc (e : Engine) : (setSupplyEngine e s).alloc = s.alloc := rfl
@[simp] theorem setSupplyEngine_ramp (e : Engine) : (setSupplyEngine e s).ramp = s.ramp := rfl
@[simp] theorem setSupplyEngine_sensors (e : Engine) : (setSupplyEngine e s).sensors = s.sensors := rfl
@[simp] theorem setSupplyEngine_converter (e : Engine) : (setSupplyEngine e s).converter = s.converter := rfl
@[simp] theorem setSupplyEngine_zones (e : Engine) : (setSupplyEngine e s).zones = s.zones := rfl
@[simp] theorem setSupplyEngine_fans (e : Engine) : (setSupplyEngine e s).fans = s.fans := rfl
@[simp] theorem setSupplyEngine_tachWindow (e : Engine) : (setSupplyEngine e s).tachWindow = s.tachWindow := rfl
@[simp] theorem setSupplyEngine_uplinks (e : Engine) : (setSupplyEngine e s).uplinks = s.uplinks := rfl
@[simp] theorem setSupplyEngine_groups (e : Engine) : (setSupplyEngine e s).groups = s.groups := rfl
@[simp] theorem setSupplyEngine_stations (e : Engine) : (setSupplyEngine e s).stations = s.stations := rfl
@[simp] theorem setSupplyEngine_units (e : Engine) : (setSupplyEngine e s).units = s.units := rfl
@[simp] theorem setSupplyEngine_composites (e : Engine) : (setSupplyEngine e s).composites = s.composites := rfl
@[simp] theorem setSupplyEngine_agent (e : Engine) : (setSupplyEngine e s).agent = s.agent := rfl
@[simp] theorem setSupplyEngine_events (e : Engine) : (setSupplyEngine e s).events = s.events := rfl
@[simp] theorem setSupplyEngine_conditions (e : Engine) : (setSupplyEngine e s).conditions = s.conditions := rfl
@[simp] theorem setSupplyEngine_faultInd (e : Engine) : (setSupplyEngine e s).faultInd = s.faultInd := rfl
@[simp] theorem setSupplyEngine_sent (e : Engine) : (setSupplyEngine e s).sent = s.sent := rfl
@[simp] theorem setSupplyEngine_answer (e : Engine) : (setSupplyEngine e s).answer = s.answer := rfl
@[simp] theorem setSupplyEngine_draws (e : Engine) : (setSupplyEngine e s).draws = s.draws := rfl
@[simp] theorem setSupplyEngine_pending (e : Engine) : (setSupplyEngine e s).pending = s.pending := rfl
@[simp] theorem setSupplyEngine_bay (e : Engine) (k : BayIx) : (setSupplyEngine e s).bay k = s.bay k := rfl
@[simp] theorem setSupplyEngine_supply (e : Engine) (k : SupIx) : (setSupplyEngine e s).supply k = s.supply k := rfl
@[simp] theorem setSupplyEngine_sensor (e : Engine) (k : ChanIx) : (setSupplyEngine e s).sensor k = s.sensor k := rfl
@[simp] theorem setSupplyEngine_zone (e : Engine) (k : ZoneIx) : (setSupplyEngine e s).zone k = s.zone k := rfl
@[simp] theorem setSupplyEngine_fan (e : Engine) (k : FanIx) : (setSupplyEngine e s).fan k = s.fan k := rfl
@[simp] theorem setSupplyEngine_uplink (e : Engine) (k : UplinkIx) : (setSupplyEngine e s).uplink k = s.uplink k := rfl

/-! ### leaveWaiting -/

@[simp] theorem leaveWaiting_now (b : BayIx) : (leaveWaiting b s).now = s.now := rfl
@[simp] theorem leaveWaiting_porstLow (b : BayIx) : (leaveWaiting b s).porstLow = s.porstLow := rfl
@[simp] theorem leaveWaiting_bays (b : BayIx) : (leaveWaiting b s).bays = s.bays := rfl
@[simp] theorem leaveWaiting_supplyLink (b : BayIx) : (leaveWaiting b s).supplyLink = s.supplyLink := rfl
@[simp] theorem leaveWaiting_store (b : BayIx) : (leaveWaiting b s).store = s.store := rfl
@[simp] theorem leaveWaiting_supplies (b : BayIx) : (leaveWaiting b s).supplies = s.supplies := rfl
@[simp] theorem leaveWaiting_alloc (b : BayIx) :
    (leaveWaiting b s).alloc = { s.alloc with waiting := s.alloc.waiting.filter (· ≠ b) } := rfl
@[simp] theorem leaveWaiting_ramp (b : BayIx) : (leaveWaiting b s).ramp = s.ramp := rfl
@[simp] theorem leaveWaiting_sensors (b : BayIx) : (leaveWaiting b s).sensors = s.sensors := rfl
@[simp] theorem leaveWaiting_converter (b : BayIx) : (leaveWaiting b s).converter = s.converter := rfl
@[simp] theorem leaveWaiting_zones (b : BayIx) : (leaveWaiting b s).zones = s.zones := rfl
@[simp] theorem leaveWaiting_fans (b : BayIx) : (leaveWaiting b s).fans = s.fans := rfl
@[simp] theorem leaveWaiting_tachWindow (b : BayIx) : (leaveWaiting b s).tachWindow = s.tachWindow := rfl
@[simp] theorem leaveWaiting_uplinks (b : BayIx) : (leaveWaiting b s).uplinks = s.uplinks := rfl
@[simp] theorem leaveWaiting_groups (b : BayIx) : (leaveWaiting b s).groups = s.groups := rfl
@[simp] theorem leaveWaiting_stations (b : BayIx) : (leaveWaiting b s).stations = s.stations := rfl
@[simp] theorem leaveWaiting_units (b : BayIx) : (leaveWaiting b s).units = s.units := rfl
@[simp] theorem leaveWaiting_composites (b : BayIx) : (leaveWaiting b s).composites = s.composites := rfl
@[simp] theorem leaveWaiting_agent (b : BayIx) : (leaveWaiting b s).agent = s.agent := rfl
@[simp] theorem leaveWaiting_events (b : BayIx) : (leaveWaiting b s).events = s.events := rfl
@[simp] theorem leaveWaiting_conditions (b : BayIx) : (leaveWaiting b s).conditions = s.conditions := rfl
@[simp] theorem leaveWaiting_faultInd (b : BayIx) : (leaveWaiting b s).faultInd = s.faultInd := rfl
@[simp] theorem leaveWaiting_sent (b : BayIx) : (leaveWaiting b s).sent = s.sent := rfl
@[simp] theorem leaveWaiting_answer (b : BayIx) : (leaveWaiting b s).answer = s.answer := rfl
@[simp] theorem leaveWaiting_draws (b : BayIx) : (leaveWaiting b s).draws = s.draws := rfl
@[simp] theorem leaveWaiting_pending (b : BayIx) : (leaveWaiting b s).pending = s.pending := rfl
@[simp] theorem leaveWaiting_bay (b : BayIx) (k : BayIx) : (leaveWaiting b s).bay k = s.bay k := rfl
@[simp] theorem leaveWaiting_supply (b : BayIx) (k : SupIx) : (leaveWaiting b s).supply k = s.supply k := rfl
@[simp] theorem leaveWaiting_sensor (b : BayIx) (k : ChanIx) : (leaveWaiting b s).sensor k = s.sensor k := rfl
@[simp] theorem leaveWaiting_zone (b : BayIx) (k : ZoneIx) : (leaveWaiting b s).zone k = s.zone k := rfl
@[simp] theorem leaveWaiting_fan (b : BayIx) (k : FanIx) : (leaveWaiting b s).fan k = s.fan k := rfl
@[simp] theorem leaveWaiting_uplink (b : BayIx) (k : UplinkIx) : (leaveWaiting b s).uplink k = s.uplink k := rfl

/-! ### joinWaiting -/

@[simp] theorem joinWaiting_now (b : BayIx) : (joinWaiting b s).now = s.now := rfl
@[simp] theorem joinWaiting_porstLow (b : BayIx) : (joinWaiting b s).porstLow = s.porstLow := rfl
@[simp] theorem joinWaiting_bays (b : BayIx) : (joinWaiting b s).bays = s.bays := rfl
@[simp] theorem joinWaiting_supplyLink (b : BayIx) : (joinWaiting b s).supplyLink = s.supplyLink := rfl
@[simp] theorem joinWaiting_store (b : BayIx) : (joinWaiting b s).store = s.store := rfl
@[simp] theorem joinWaiting_supplies (b : BayIx) : (joinWaiting b s).supplies = s.supplies := rfl
@[simp] theorem joinWaiting_alloc (b : BayIx) :
    (joinWaiting b s).alloc = { s.alloc with waiting := insertBefore (waitsBefore s) b s.alloc.waiting } := rfl
@[simp] theorem joinWaiting_ramp (b : BayIx) : (joinWaiting b s).ramp = s.ramp := rfl
@[simp] theorem joinWaiting_sensors (b : BayIx) : (joinWaiting b s).sensors = s.sensors := rfl
@[simp] theorem joinWaiting_converter (b : BayIx) : (joinWaiting b s).converter = s.converter := rfl
@[simp] theorem joinWaiting_zones (b : BayIx) : (joinWaiting b s).zones = s.zones := rfl
@[simp] theorem joinWaiting_fans (b : BayIx) : (joinWaiting b s).fans = s.fans := rfl
@[simp] theorem joinWaiting_tachWindow (b : BayIx) : (joinWaiting b s).tachWindow = s.tachWindow := rfl
@[simp] theorem joinWaiting_uplinks (b : BayIx) : (joinWaiting b s).uplinks = s.uplinks := rfl
@[simp] theorem joinWaiting_groups (b : BayIx) : (joinWaiting b s).groups = s.groups := rfl
@[simp] theorem joinWaiting_stations (b : BayIx) : (joinWaiting b s).stations = s.stations := rfl
@[simp] theorem joinWaiting_units (b : BayIx) : (joinWaiting b s).units = s.units := rfl
@[simp] theorem joinWaiting_composites (b : BayIx) : (joinWaiting b s).composites = s.composites := rfl
@[simp] theorem joinWaiting_agent (b : BayIx) : (joinWaiting b s).agent = s.agent := rfl
@[simp] theorem joinWaiting_events (b : BayIx) : (joinWaiting b s).events = s.events := rfl
@[simp] theorem joinWaiting_conditions (b : BayIx) : (joinWaiting b s).conditions = s.conditions := rfl
@[simp] theorem joinWaiting_faultInd (b : BayIx) : (joinWaiting b s).faultInd = s.faultInd := rfl
@[simp] theorem joinWaiting_sent (b : BayIx) : (joinWaiting b s).sent = s.sent := rfl
@[simp] theorem joinWaiting_answer (b : BayIx) : (joinWaiting b s).answer = s.answer := rfl
@[simp] theorem joinWaiting_draws (b : BayIx) : (joinWaiting b s).draws = s.draws := rfl
@[simp] theorem joinWaiting_pending (b : BayIx) : (joinWaiting b s).pending = s.pending := rfl
@[simp] theorem joinWaiting_bay (b : BayIx) (k : BayIx) : (joinWaiting b s).bay k = s.bay k := rfl
@[simp] theorem joinWaiting_supply (b : BayIx) (k : SupIx) : (joinWaiting b s).supply k = s.supply k := rfl
@[simp] theorem joinWaiting_sensor (b : BayIx) (k : ChanIx) : (joinWaiting b s).sensor k = s.sensor k := rfl
@[simp] theorem joinWaiting_zone (b : BayIx) (k : ZoneIx) : (joinWaiting b s).zone k = s.zone k := rfl
@[simp] theorem joinWaiting_fan (b : BayIx) (k : FanIx) : (joinWaiting b s).fan k = s.fan k := rfl
@[simp] theorem joinWaiting_uplink (b : BayIx) (k : UplinkIx) : (joinWaiting b s).uplink k = s.uplink k := rfl

/-! ### leaveRampQueue -/

@[simp] theorem leaveRampQueue_now (b : BayIx) : (leaveRampQueue b s).now = s.now := rfl
@[simp] theorem leaveRampQueue_porstLow (b : BayIx) : (leaveRampQueue b s).porstLow = s.porstLow := rfl
@[simp] theorem leaveRampQueue_bays (b : BayIx) : (leaveRampQueue b s).bays = s.bays := rfl
@[simp] theorem leaveRampQueue_supplyLink (b : BayIx) : (leaveRampQueue b s).supplyLink = s.supplyLink := rfl
@[simp] theorem leaveRampQueue_store (b : BayIx) : (leaveRampQueue b s).store = s.store := rfl
@[simp] theorem leaveRampQueue_supplies (b : BayIx) : (leaveRampQueue b s).supplies = s.supplies := rfl
@[simp] theorem leaveRampQueue_alloc (b : BayIx) : (leaveRampQueue b s).alloc = s.alloc := rfl
@[simp] theorem leaveRampQueue_ramp (b : BayIx) :
    (leaveRampQueue b s).ramp = { s.ramp with queue := s.ramp.queue.filter (· ≠ b) } := rfl
@[simp] theorem leaveRampQueue_sensors (b : BayIx) : (leaveRampQueue b s).sensors = s.sensors := rfl
@[simp] theorem leaveRampQueue_converter (b : BayIx) : (leaveRampQueue b s).converter = s.converter := rfl
@[simp] theorem leaveRampQueue_zones (b : BayIx) : (leaveRampQueue b s).zones = s.zones := rfl
@[simp] theorem leaveRampQueue_fans (b : BayIx) : (leaveRampQueue b s).fans = s.fans := rfl
@[simp] theorem leaveRampQueue_tachWindow (b : BayIx) : (leaveRampQueue b s).tachWindow = s.tachWindow := rfl
@[simp] theorem leaveRampQueue_uplinks (b : BayIx) : (leaveRampQueue b s).uplinks = s.uplinks := rfl
@[simp] theorem leaveRampQueue_groups (b : BayIx) : (leaveRampQueue b s).groups = s.groups := rfl
@[simp] theorem leaveRampQueue_stations (b : BayIx) : (leaveRampQueue b s).stations = s.stations := rfl
@[simp] theorem leaveRampQueue_units (b : BayIx) : (leaveRampQueue b s).units = s.units := rfl
@[simp] theorem leaveRampQueue_composites (b : BayIx) : (leaveRampQueue b s).composites = s.composites := rfl
@[simp] theorem leaveRampQueue_agent (b : BayIx) : (leaveRampQueue b s).agent = s.agent := rfl
@[simp] theorem leaveRampQueue_events (b : BayIx) : (leaveRampQueue b s).events = s.events := rfl
@[simp] theorem leaveRampQueue_conditions (b : BayIx) : (leaveRampQueue b s).conditions = s.conditions := rfl
@[simp] theorem leaveRampQueue_faultInd (b : BayIx) : (leaveRampQueue b s).faultInd = s.faultInd := rfl
@[simp] theorem leaveRampQueue_sent (b : BayIx) : (leaveRampQueue b s).sent = s.sent := rfl
@[simp] theorem leaveRampQueue_answer (b : BayIx) : (leaveRampQueue b s).answer = s.answer := rfl
@[simp] theorem leaveRampQueue_draws (b : BayIx) : (leaveRampQueue b s).draws = s.draws := rfl
@[simp] theorem leaveRampQueue_pending (b : BayIx) : (leaveRampQueue b s).pending = s.pending := rfl
@[simp] theorem leaveRampQueue_bay (b : BayIx) (k : BayIx) : (leaveRampQueue b s).bay k = s.bay k := rfl
@[simp] theorem leaveRampQueue_supply (b : BayIx) (k : SupIx) : (leaveRampQueue b s).supply k = s.supply k := rfl
@[simp] theorem leaveRampQueue_sensor (b : BayIx) (k : ChanIx) : (leaveRampQueue b s).sensor k = s.sensor k := rfl
@[simp] theorem leaveRampQueue_zone (b : BayIx) (k : ZoneIx) : (leaveRampQueue b s).zone k = s.zone k := rfl
@[simp] theorem leaveRampQueue_fan (b : BayIx) (k : FanIx) : (leaveRampQueue b s).fan k = s.fan k := rfl
@[simp] theorem leaveRampQueue_uplink (b : BayIx) (k : UplinkIx) : (leaveRampQueue b s).uplink k = s.uplink k := rfl

/-! ### Reading the entry an update changed -/

@[simp] theorem State.modBay_bay_self (i : BayIx) (f : Bay → Bay) : (s.modBay i f).bay i = f (s.bay i) :=
  Tab.get_set_self _ _ _
theorem State.modBay_bay_ne {i k : BayIx} (h : k ≠ i) (f : Bay → Bay) : (s.modBay i f).bay k = s.bay k :=
  Tab.get_set_ne _ h _
theorem State.modBay_bay (i k : BayIx) (f : Bay → Bay) :
    (s.modBay i f).bay k = if k = i then f (s.bay i) else s.bay k := Tab.get_set _ _ _ _
@[simp] theorem State.modSupply_supply_self (i : SupIx) (f : Supply → Supply) : (s.modSupply i f).supply i = f (s.supply i) :=
  Tab.get_set_self _ _ _
theorem State.modSupply_supply_ne {i k : SupIx} (h : k ≠ i) (f : Supply → Supply) : (s.modSupply i f).supply k = s.supply k :=
  Tab.get_set_ne _ h _
theorem State.modSupply_supply (i k : SupIx) (f : Supply → Supply) :
    (s.modSupply i f).supply k = if k = i then f (s.supply i) else s.supply k := Tab.get_set _ _ _ _
@[simp] theorem State.modSensor_sensor_self (i : ChanIx) (f : Sensor → Sensor) : (s.modSensor i f).sensor i = f (s.sensor i) :=
  Tab.get_set_self _ _ _
theorem State.modSensor_sensor_ne {i k : ChanIx} (h : k ≠ i) (f : Sensor → Sensor) : (s.modSensor i f).sensor k = s.sensor k :=
  Tab.get_set_ne _ h _
theorem State.modSensor_sensor (i k : ChanIx) (f : Sensor → Sensor) :
    (s.modSensor i f).sensor k = if k = i then f (s.sensor i) else s.sensor k := Tab.get_set _ _ _ _
@[simp] theorem State.modZone_zone_self (i : ZoneIx) (f : Zone → Zone) : (s.modZone i f).zone i = f (s.zone i) :=
  Tab.get_set_self _ _ _
theorem State.modZone_zone_ne {i k : ZoneIx} (h : k ≠ i) (f : Zone → Zone) : (s.modZone i f).zone k = s.zone k :=
  Tab.get_set_ne _ h _
theorem State.modZone_zone (i k : ZoneIx) (f : Zone → Zone) :
    (s.modZone i f).zone k = if k = i then f (s.zone i) else s.zone k := Tab.get_set _ _ _ _
@[simp] theorem State.modFan_fan_self (i : FanIx) (f : Fan → Fan) : (s.modFan i f).fan i = f (s.fan i) :=
  Tab.get_set_self _ _ _
theorem State.modFan_fan_ne {i k : FanIx} (h : k ≠ i) (f : Fan → Fan) : (s.modFan i f).fan k = s.fan k :=
  Tab.get_set_ne _ h _
theorem State.modFan_fan (i k : FanIx) (f : Fan → Fan) :
    (s.modFan i f).fan k = if k = i then f (s.fan i) else s.fan k := Tab.get_set _ _ _ _
@[simp] theorem State.modUplink_uplink_self (i : UplinkIx) (f : Uplink → Uplink) : (s.modUplink i f).uplink i = f (s.uplink i) :=
  Tab.get_set_self _ _ _
theorem State.modUplink_uplink_ne {i k : UplinkIx} (h : k ≠ i) (f : Uplink → Uplink) : (s.modUplink i f).uplink k = s.uplink k :=
  Tab.get_set_ne _ h _
theorem State.modUplink_uplink (i k : UplinkIx) (f : Uplink → Uplink) :
    (s.modUplink i f).uplink k = if k = i then f (s.uplink i) else s.uplink k := Tab.get_set _ _ _ _
@[simp] theorem State.modLink_bay_self (i : BayIx) (f : BayLink → BayLink) :
    (s.modLink i f).bay i = { s.bay i with link := f (s.bay i).link } := Tab.get_set_self _ _ _
theorem State.modLink_bay_ne {i k : BayIx} (h : k ≠ i) (f : BayLink → BayLink) : (s.modLink i f).bay k = s.bay k :=
  Tab.get_set_ne _ h _
@[simp] theorem State.countBay_bay_self (i : BayIx) (f : BayCounters → BayCounters) :
    (s.countBay i f).bay i = { s.bay i with counters := f (s.bay i).counters } := Tab.get_set_self _ _ _
theorem State.countBay_bay_ne {i k : BayIx} (h : k ≠ i) (f : BayCounters → BayCounters) : (s.countBay i f).bay k = s.bay k :=
  Tab.get_set_ne _ h _
@[simp] theorem State.countUplink_uplink_self (i : UplinkIx) (f : UplinkCounters → UplinkCounters) :
    (s.countUplink i f).uplink i = { s.uplink i with counters := f (s.uplink i).counters } := Tab.get_set_self _ _ _
theorem State.countUplink_uplink_ne {i k : UplinkIx} (h : k ≠ i) (f : UplinkCounters → UplinkCounters) : (s.countUplink i f).uplink k = s.uplink k :=
  Tab.get_set_ne _ h _
@[simp] theorem setState_bay_self (b : BayIx) (st : BayState) :
    (setState b st s).bay b = (s.bay b).enter st s.now := Tab.get_set_self _ _ _
theorem setState_bay_ne {b c : BayIx} (h : c ≠ b) (st : BayState) : (setState b st s).bay c = s.bay c :=
  Tab.get_set_ne _ h _
@[simp] theorem State.modComposite_get_self (i : CompIx) (f : Composite → Composite) :
    (s.modComposite i f).composites.get i = f (s.composites.get i) := Tab.get_set_self _ _ _
theorem State.modComposite_get_ne {i k : CompIx} (h : k ≠ i) (f : Composite → Composite) :
    (s.modComposite i f).composites.get k = s.composites.get k := Tab.get_set_ne _ h _
@[simp] theorem putStation_get_self (i : StationIx) (e : Station) :
    (putStation i e s).stations.entries.get i = some e := Tab.get_set_self _ _ _
theorem putStation_get_ne {i k : StationIx} (h : k ≠ i) (e : Station) :
    (putStation i e s).stations.entries.get k = s.stations.entries.get k := Tab.get_set_ne _ h _

/-- An update of one bay that changes none of its entry changes nothing. -/
theorem State.modBay_same (b : BayIx) (f : Bay → Bay) (h : f (s.bay b) = s.bay b) : s.modBay b f = s := by
  unfold State.modBay
  rw [h, State.bay, Tab.set_get]

/-! ### Entering a bay state -/

variable (st : BayState) (now : Nat) (y : Bay)

@[simp] theorem Bay.enter_settings : (y.enter st now).settings = y.settings := rfl
@[simp] theorem Bay.enter_presentRun : (y.enter st now).presentRun = y.presentRun := rfl
@[simp] theorem Bay.enter_absentRun : (y.enter st now).absentRun = y.absentRun := rfl
@[simp] theorem Bay.enter_presenceLine : (y.enter st now).presenceLine = y.presenceLine := rfl
@[simp] theorem Bay.enter_attention : (y.enter st now).attention = y.attention := rfl
@[simp] theorem Bay.enter_header : (y.enter st now).header = y.header := rfl
@[simp] theorem Bay.enter_alloc : (y.enter st now).alloc = y.alloc := rfl
@[simp] theorem Bay.enter_admissionStamp : (y.enter st now).admissionStamp = y.admissionStamp := rfl
@[simp] theorem Bay.enter_waitingStamp : (y.enter st now).waitingStamp = y.waitingStamp := rfl
@[simp] theorem Bay.enter_stopRequested : (y.enter st now).stopRequested = y.stopRequested := rfl
@[simp] theorem Bay.enter_activeUplink : (y.enter st now).activeUplink = y.activeUplink := rfl
@[simp] theorem Bay.enter_linkLost : (y.enter st now).linkLost = y.linkLost := rfl
@[simp] theorem Bay.enter_sticky : (y.enter st now).sticky = y.sticky := rfl
@[simp] theorem Bay.enter_inlet : (y.enter st now).inlet = y.inlet := rfl
@[simp] theorem Bay.enter_runState : (y.enter st now).runState = y.runState := rfl
@[simp] theorem Bay.enter_faultCause : (y.enter st now).faultCause = y.faultCause := rfl
@[simp] theorem Bay.enter_deadline : (y.enter st now).deadline = y.deadline := rfl
@[simp] theorem Bay.enter_pgoodHigh : (y.enter st now).pgoodHigh = y.pgoodHigh := rfl
@[simp] theorem Bay.enter_pgoodLow : (y.enter st now).pgoodLow = y.pgoodLow := rfl
@[simp] theorem Bay.enter_lastDecided : (y.enter st now).lastDecided = y.lastDecided := rfl
@[simp] theorem Bay.enter_applied : (y.enter st now).applied = y.applied := rfl
@[simp] theorem Bay.enter_capTimer : (y.enter st now).capTimer = y.capTimer := rfl
@[simp] theorem Bay.enter_link : (y.enter st now).link = y.link := rfl
@[simp] theorem Bay.enter_read : (y.enter st now).read = y.read := rfl
@[simp] theorem Bay.enter_record : (y.enter st now).record = y.record := rfl
@[simp] theorem Bay.enter_counters : (y.enter st now).counters = y.counters := rfl
@[simp] theorem Bay.enter_state : (y.enter st now).state = st := rfl
@[simp] theorem Bay.enter_standbyEnable : (y.enter st now).standbyEnable = st.standby := rfl
@[simp] theorem Bay.enter_mainEnable : (y.enter st now).mainEnable = st.mainPowered := rfl

end Sys2Proof.Machine
end

