-- ==== Sys2Proof/Laws/Ops.lean ====
section
/-! SUPPORT. What the shared operations of Machine/Ops.lean can do, each said once: raising an event, the
condition set, a frame handed to an uplink, the attention frame, and the gate of reset. -/

namespace Sys2Proof.Machine

/-! ### Raising an event -/

theorem raise_room (k : EventKind) (w : Subject) (d : Nat) (x : Int) (s : State)
    (h : s.events.queue.length < s.events.limit) :
    raise k w d x s = { s with events := { s.events with
      queue := s.events.queue ++ [⟨k, w, BitVec.ofNat 8 d, s.seconds, BitVec.ofInt 32 x⟩] } } := if_pos h

theorem raise_full (k : EventKind) (w : Subject) (d : Nat) (x : Int) (s : State)
    (h : s.events.limit ≤ s.events.queue.length) :
    raise k w d x s = { s with events := { s.events with lost := min (s.events.lost + 1) 65535 } } :=
  if_neg (Nat.not_lt.mpr h)

/-- An event changes the event queue alone, and not its limit. -/
theorem raise_only_events (k : EventKind) (w : Subject) (d : Nat) (x : Int) (s : State) :
    raise k w d x s = { s with events := (raise k w d x s).events } ∧
      (raise k w d x s).events.limit = s.events.limit := by
  rcases Nat.lt_or_ge s.events.queue.length s.events.limit with h | h
  · rw [raise_room k w d x s h]; exact ⟨rfl, rfl⟩
  · rw [raise_full k w d x s h]; exact ⟨rfl, rfl⟩

@[simp] theorem raise_now (k w d x) (s : State) : (raise k w d x s).now = s.now := by
  rw [(raise_only_events k w d x s).1]
@[simp] theorem raise_porstLow (k w d x) (s : State) : (raise k w d x s).porstLow = s.porstLow := by
  rw [(raise_only_events k w d x s).1]
@[simp] theorem raise_bays (k w d x) (s : State) : (raise k w d x s).bays = s.bays := by
  rw [(raise_only_events k w d x s).1]
@[simp] theorem raise_supplyLink (k w d x) (s : State) : (raise k w d x s).supplyLink = s.supplyLink := by
  rw [(raise_only_events k w d x s).1]
@[simp] theorem raise_store (k w d x) (s : State) : (raise k w d x s).store = s.store := by
  rw [(raise_only_events k w d x s).1]
@[simp] theorem raise_supplies (k w d x) (s : State) : (raise k w d x s).supplies = s.supplies := by
  rw [(raise_only_events k w d x s).1]
@[simp] theorem raise_alloc (k w d x) (s : State) : (raise k w d x s).alloc = s.alloc := by
  rw [(raise_only_events k w d x s).1]
@[simp] theorem raise_ramp (k w d x) (s : State) : (raise k w d x s).ramp = s.ramp := by
  rw [(raise_only_events k w d x s).1]
@[simp] theorem raise_sensors (k w d x) (s : State) : (raise k w d x s).sensors = s.sensors := by
  rw [(raise_only_events k w d x s).1]
@[simp] theorem raise_converter (k w d x) (s : State) : (raise k w d x s).converter = s.converter := by
  rw [(raise_only_events k w d x s).1]
@[simp] theorem raise_zones (k w d x) (s : State) : (raise k w d x s).zones = s.zones := by
  rw [(raise_only_events k w d x s).1]
@[simp] theorem raise_fans (k w d x) (s : State) : (raise k w d x s).fans = s.fans := by
  rw [(raise_only_events k w d x s).1]
@[simp] theorem raise_tachWindow (k w d x) (s : State) : (raise k w d x s).tachWindow = s.tachWindow := by
  rw [(raise_only_events k w d x s).1]
@[simp] theorem raise_uplinks (k w d x) (s : State) : (raise k w d x s).uplinks = s.uplinks := by
  rw [(raise_only_events k w d x s).1]
@[simp] theorem raise_groups (k w d x) (s : State) : (raise k w d x s).groups = s.groups := by
  rw [(raise_only_events k w d x s).1]
@[simp] theorem raise_stations (k w d x) (s : State) : (raise k w d x s).stations = s.stations := by
  rw [(raise_only_events k w d x s).1]
@[simp] theorem raise_units (k w d x) (s : State) : (raise k w d x s).units = s.units := by
  rw [(raise_only_events k w d x s).1]
@[simp] theorem raise_composites (k w d x) (s : State) : (raise k w d x s).composites = s.composites := by
  rw [(raise_only_events k w d x s).1]
@[simp] theorem raise_agent (k w d x) (s : State) : (raise k w d x s).agent = s.agent := by
  rw [(raise_only_events k w d x s).1]
@[simp] theorem raise_conditions (k w d x) (s : State) : (raise k w d x s).conditions = s.conditions := by
  rw [(raise_only_events k w d x s).1]
@[simp] theorem raise_faultInd (k w d x) (s : State) : (raise k w d x s).faultInd = s.faultInd := by
  rw [(raise_only_events k w d x s).1]
@[simp] theorem raise_sent (k w d x) (s : State) : (raise k w d x s).sent = s.sent := by
  rw [(raise_only_events k w d x s).1]
@[simp] theorem raise_answer (k w d x) (s : State) : (raise k w d x s).answer = s.answer := by
  rw [(raise_only_events k w d x s).1]
@[simp] theorem raise_draws (k w d x) (s : State) : (raise k w d x s).draws = s.draws := by
  rw [(raise_only_events k w d x s).1]
@[simp] theorem raise_pending (k w d x) (s : State) : (raise k w d x s).pending = s.pending := by
  rw [(raise_only_events k w d x s).1]
@[simp] theorem raise_bay (k w d x) (s : State) (i : BayIx) : (raise k w d x s).bay i = s.bay i := by
  simp [State.bay]
@[simp] theorem raise_supply (k w d x) (s : State) (i : SupIx) : (raise k w d x s).supply i = s.supply i := by
  simp [State.supply]
@[simp] theorem raise_sensor (k w d x) (s : State) (i : ChanIx) : (raise k w d x s).sensor i = s.sensor i := by
  simp [State.sensor]
@[simp] theorem raise_zone (k w d x) (s : State) (i : ZoneIx) : (raise k w d x s).zone i = s.zone i := by
  simp [State.zone]
@[simp] theorem raise_fan (k w d x) (s : State) (i : FanIx) : (raise k w d x s).fan i = s.fan i := by
  simp [State.fan]
@[simp] theorem raise_uplink (k w d x) (s : State) (i : UplinkIx) : (raise k w d x s).uplink i = s.uplink i := by
  simp [State.uplink]
@[simp] theorem raise_limit (k w d x) (s : State) : (raise k w d x s).events.limit = s.events.limit :=
  (raise_only_events k w d x s).2

/-- The queue never grows past its limit. -/
theorem raise_length_le (k : EventKind) (w : Subject) (d : Nat) (x : Int) (s : State)
    (h : s.events.queue.length ≤ s.events.limit) :
    (raise k w d x s).events.queue.length ≤ (raise k w d x s).events.limit := by
  rcases Nat.lt_or_ge s.events.queue.length s.events.limit with h' | h'
  · rw [raise_room k w d x s h']; simp; omega
  · rw [raise_full k w d x s h']; exact h

theorem raise_lost_le (k : EventKind) (w : Subject) (d : Nat) (x : Int) (s : State)
    (h : s.events.lost ≤ 65535) : (raise k w d x s).events.lost ≤ 65535 := by
  rcases Nat.lt_or_ge s.events.queue.length s.events.limit with h' | h'
  · rw [raise_room k w d x s h']; exact h
  · rw [raise_full k w d x s h']; exact Nat.min_le_right _ _

/-! ### The condition set -/

theorem mem_raiseCondition (k : CondKey) (s : State) (c : Condition) :
    c ∈ (raiseCondition k s).conditions ↔ (c ∈ s.conditions ∧ c.key ≠ k) ∨ c = ⟨k, true, false, s.seconds⟩ := by
  simp [raiseCondition]

theorem mem_endCondition (k : CondKey) (s : State) (c : Condition) :
    c ∈ (endCondition k s).conditions ↔ (c ∈ s.conditions ∧ c.key ≠ k) ∨
      ∃ d ∈ s.conditions, d.key = k ∧ d.acked = false ∧ c = { d with active := false } := by
  simp only [endCondition, setConditions_conditions, List.mem_filterMap, endEntry]
  constructor
  · rintro ⟨d, hd, he⟩
    by_cases hk : d.key = k
    · cases ha : d.acked with
      | true => simp [hk, ha] at he
      | false => exact .inr ⟨d, hd, hk, ha, by simpa [hk, ha] using he.symm⟩
    · rw [if_neg hk] at he
      cases he
      exact .inl ⟨hd, hk⟩
  · rintro (⟨hc, hk⟩ | ⟨d, hd, hk, ha, rfl⟩)
    · exact ⟨c, hc, if_neg hk⟩
    · exact ⟨d, hd, by simp [hk, ha]⟩

theorem mem_removeCondition (k : CondKey) (s : State) (c : Condition) :
    c ∈ (removeCondition k s).conditions ↔ c ∈ s.conditions ∧ c.key ≠ k := by
  simp [removeCondition]

/-- A raised condition lights the indicator. -/
@[simp] theorem raiseCondition_faultInd (k : CondKey) (s : State) : (raiseCondition k s).faultInd = true := by
  simp [raiseCondition]

/-- The condition operations change the set and the indicator alone. -/
theorem condition_ops_only (k : CondKey) (s : State) :
    (raiseCondition k s = { s with conditions := (raiseCondition k s).conditions
                                   faultInd := (raiseCondition k s).faultInd }) ∧
    (endCondition k s = { s with conditions := (endCondition k s).conditions
                                 faultInd := (endCondition k s).faultInd }) ∧
    (removeCondition k s = { s with conditions := (removeCondition k s).conditions
                                    faultInd := (removeCondition k s).faultInd }) := ⟨rfl, rfl, rfl⟩

/-- After any of them the indicator says whether an entry is unacknowledged. -/
theorem setConditions_judged (cs : List Condition) (s : State) :
    (setConditions cs s).faultInd = (setConditions cs s).conditions.any fun c => !c.acked := rfl

/-! ### Frames -/

theorem transmit_up (u : UplinkIx) (f : Frame) (s : State) (h : (s.uplink u).up = true) :
    transmit u f s = { s.countUplink u (fun c => { c with framesOut := sat32 c.framesOut }) with
      sent := s.sent ++ [.uplink u f] } := by
  simp [transmit, h]

theorem transmit_down (u : UplinkIx) (f : Frame) (s : State) (h : (s.uplink u).up = false) :
    transmit u f s = s := by
  simp [transmit, h]

/-- A frame handed to an uplink changes that uplink's counters and the frames sent, or nothing. -/
theorem transmit_only (u : UplinkIx) (f : Frame) (s : State) :
    transmit u f s = { s with uplinks := (transmit u f s).uplinks, sent := (transmit u f s).sent } := by
  cases h : (s.uplink u).up with
  | true => rw [transmit_up u f s h]; rfl
  | false => rw [transmit_down u f s h]

@[simp] theorem transmit_now (u f) (s : State) : (transmit u f s).now = s.now := by
  rw [transmit_only u f s]
@[simp] theorem transmit_porstLow (u f) (s : State) : (transmit u f s).porstLow = s.porstLow := by
  rw [transmit_only u f s]
@[simp] theorem transmit_bays (u f) (s : State) : (transmit u f s).bays = s.bays := by
  rw [transmit_only u f s]
@[simp] theorem transmit_supplyLink (u f) (s : State) : (transmit u f s).supplyLink = s.supplyLink := by
  rw [transmit_only u f s]
@[simp] theorem transmit_store (u f) (s : State) : (transmit u f s).store = s.store := by
  rw [transmit_only u f s]
@[simp] theorem transmit_supplies (u f) (s : State) : (transmit u f s).supplies = s.supplies := by
  rw [transmit_only u f s]
@[simp] theorem transmit_alloc (u f) (s : State) : (transmit u f s).alloc = s.alloc := by
  rw [transmit_only u f s]
@[simp] theorem transmit_ramp (u f) (s : State) : (transmit u f s).ramp = s.ramp := by
  rw [transmit_only u f s]
@[simp] theorem transmit_sensors (u f) (s : State) : (transmit u f s).sensors = s.sensors := by
  rw [transmit_only u f s]
@[simp] theorem transmit_converter (u f) (s : State) : (transmit u f s).converter = s.converter := by
  rw [transmit_only u f s]
@[simp] theorem transmit_zones (u f) (s : State) : (transmit u f s).zones = s.zones := by
  rw [transmit_only u f s]
@[simp] theorem transmit_fans (u f) (s : State) : (transmit u f s).fans = s.fans := by
  rw [transmit_only u f s]
@[simp] theorem transmit_tachWindow (u f) (s : State) : (transmit u f s).tachWindow = s.tachWindow := by
  rw [transmit_only u f s]
@[simp] theorem transmit_groups (u f) (s : State) : (transmit u f s).groups = s.groups := by
  rw [transmit_only u f s]
@[simp] theorem transmit_stations (u f) (s : State) : (transmit u f s).stations = s.stations := by
  rw [transmit_only u f s]
@[simp] theorem transmit_units (u f) (s : State) : (transmit u f s).units = s.units := by
  rw [transmit_only u f s]
@[simp] theorem transmit_composites (u f) (s : State) : (transmit u f s).composites = s.composites := by
  rw [transmit_only u f s]
@[simp] theorem transmit_agent (u f) (s : State) : (transmit u f s).agent = s.agent := by
  rw [transmit_only u f s]
@[simp] theorem transmit_events (u f) (s : State) : (transmit u f s).events = s.events := by
  rw [transmit_only u f s]
@[simp] theorem transmit_conditions (u f) (s : State) : (transmit u f s).conditions = s.conditions := by
  rw [transmit_only u f s]
@[simp] theorem transmit_faultInd (u f) (s : State) : (transmit u f s).faultInd = s.faultInd := by
  rw [transmit_only u f s]
@[simp] theorem transmit_answer (u f) (s : State) : (transmit u f s).answer = s.answer := by
  rw [transmit_only u f s]
@[simp] theorem transmit_draws (u f) (s : State) : (transmit u f s).draws = s.draws := by
  rw [transmit_only u f s]
@[simp] theorem transmit_pending (u f) (s : State) : (transmit u f s).pending = s.pending := by
  rw [transmit_only u f s]
@[simp] theorem transmit_bay (u f) (s : State) (i : BayIx) : (transmit u f s).bay i = s.bay i := by
  simp [State.bay]
@[simp] theorem transmit_supply (u f) (s : State) (i : SupIx) : (transmit u f s).supply i = s.supply i := by
  simp [State.supply]
@[simp] theorem transmit_sensor (u f) (s : State) (i : ChanIx) : (transmit u f s).sensor i = s.sensor i := by
  simp [State.sensor]
@[simp] theorem transmit_zone (u f) (s : State) (i : ZoneIx) : (transmit u f s).zone i = s.zone i := by
  simp [State.zone]
@[simp] theorem transmit_fan (u f) (s : State) (i : FanIx) : (transmit u f s).fan i = s.fan i := by
  simp [State.fan]

/-- The end of a change sends at most one frame: nothing but an uplink's counter and the frames sent
changes. -/
theorem promptAttention_cases (before s : State) :
    promptAttention before s = s ∨
      ∃ m, s.agent.manager = some m ∧ s.agent.managed = true ∧ before.events.queue = [] ∧
        s.events.queue ≠ [] ∧ promptAttention before s = transmit m.uplink (attentionFrame m s) s := by
  unfold promptAttention
  split
  · next h =>
    simp only [Bool.and_eq_true, List.isEmpty_iff, Bool.not_eq_true', List.isEmpty_eq_false_iff] at h
    split
    · next m hm => exact .inr ⟨m, hm, h.2, h.1.1, h.1.2, rfl⟩
    · exact .inl rfl
  · exact .inl rfl

@[simp] theorem promptAttention_now (b s : State) : (promptAttention b s).now = s.now := by
  rcases promptAttention_cases b s with h | ⟨m, -, -, -, -, h⟩ <;> simp [h]
@[simp] theorem promptAttention_porstLow (b s : State) : (promptAttention b s).porstLow = s.porstLow := by
  rcases promptAttention_cases b s with h | ⟨m, -, -, -, -, h⟩ <;> simp [h]
@[simp] theorem promptAttention_bays (b s : State) : (promptAttention b s).bays = s.bays := by
  rcases promptAttention_cases b s with h | ⟨m, -, -, -, -, h⟩ <;> simp [h]
@[simp] theorem promptAttention_supplyLink (b s : State) : (promptAttention b s).supplyLink = s.supplyLink := by
  rcases promptAttention_cases b s with h | ⟨m, -, -, -, -, h⟩ <;> simp [h]
@[simp] theorem promptAttention_store (b s : State) : (promptAttention b s).store = s.store := by
  rcases promptAttention_cases b s with h | ⟨m, -, -, -, -, h⟩ <;> simp [h]
@[simp] theorem promptAttention_supplies (b s : State) : (promptAttention b s).supplies = s.supplies := by
  rcases promptAttention_cases b s with h | ⟨m, -, -, -, -, h⟩ <;> simp [h]
@[simp] theorem promptAttention_alloc (b s : State) : (promptAttention b s).alloc = s.alloc := by
  rcases promptAttention_cases b s with h | ⟨m, -, -, -, -, h⟩ <;> simp [h]
@[simp] theorem promptAttention_ramp (b s : State) : (promptAttention b s).ramp = s.ramp := by
  rcases promptAttention_cases b s with h | ⟨m, -, -, -, -, h⟩ <;> simp [h]
@[simp] theorem promptAttention_sensors (b s : State) : (promptAttention b s).sensors = s.sensors := by
  rcases promptAttention_cases b s with h | ⟨m, -, -, -, -, h⟩ <;> simp [h]
@[simp] theorem promptAttention_converter (b s : State) : (promptAttention b s).converter = s.converter := by
  rcases promptAttention_cases b s with h | ⟨m, -, -, -, -, h⟩ <;> simp [h]
@[simp] theorem promptAttention_zones (b s : State) : (promptAttention b s).zones = s.zones := by
  rcases promptAttention_cases b s with h | ⟨m, -, -, -, -, h⟩ <;> simp [h]
@[simp] theorem promptAttention_fans (b s : State) : (promptAttention b s).fans = s.fans := by
  rcases promptAttention_cases b s with h | ⟨m, -, -, -, -, h⟩ <;> simp [h]
@[simp] theorem promptAttention_tachWindow (b s : State) : (promptAttention b s).tachWindow = s.tachWindow := by
  rcases promptAttention_cases b s with h | ⟨m, -, -, -, -, h⟩ <;> simp [h]
@[simp] theorem promptAttention_groups (b s : State) : (promptAttention b s).groups = s.groups := by
  rcases promptAttention_cases b s with h | ⟨m, -, -, -, -, h⟩ <;> simp [h]
@[simp] theorem promptAttention_stations (b s : State) : (promptAttention b s).stations = s.stations := by
  rcases promptAttention_cases b s with h | ⟨m, -, -, -, -, h⟩ <;> simp [h]
@[simp] theorem promptAttention_units (b s : State) : (promptAttention b s).units = s.units := by
  rcases promptAttention_cases b s with h | ⟨m, -, -, -, -, h⟩ <;> simp [h]
@[simp] theorem promptAttention_composites (b s : State) : (promptAttention b s).composites = s.composites := by
  rcases promptAttention_cases b s with h | ⟨m, -, -, -, -, h⟩ <;> simp [h]
@[simp] theorem promptAttention_agent (b s : State) : (promptAttention b s).agent = s.agent := by
  rcases promptAttention_cases b s with h | ⟨m, -, -, -, -, h⟩ <;> simp [h]
@[simp] theorem promptAttention_events (b s : State) : (promptAttention b s).events = s.events := by
  rcases promptAttention_cases b s with h | ⟨m, -, -, -, -, h⟩ <;> simp [h]
@[simp] theorem promptAttention_conditions (b s : State) : (promptAttention b s).conditions = s.conditions := by
  rcases promptAttention_cases b s with h | ⟨m, -, -, -, -, h⟩ <;> simp [h]
@[simp] theorem promptAttention_faultInd (b s : State) : (promptAttention b s).faultInd = s.faultInd := by
  rcases promptAttention_cases b s with h | ⟨m, -, -, -, -, h⟩ <;> simp [h]
@[simp] theorem promptAttention_answer (b s : State) : (promptAttention b s).answer = s.answer := by
  rcases promptAttention_cases b s with h | ⟨m, -, -, -, -, h⟩ <;> simp [h]
@[simp] theorem promptAttention_draws (b s : State) : (promptAttention b s).draws = s.draws := by
  rcases promptAttention_cases b s with h | ⟨m, -, -, -, -, h⟩ <;> simp [h]
@[simp] theorem promptAttention_pending (b s : State) : (promptAttention b s).pending = s.pending := by
  rcases promptAttention_cases b s with h | ⟨m, -, -, -, -, h⟩ <;> simp [h]
@[simp] theorem promptAttention_bay (b s : State) (i : BayIx) : (promptAttention b s).bay i = s.bay i := by
  simp [State.bay]
@[simp] theorem promptAttention_supply (b s : State) (i : SupIx) : (promptAttention b s).supply i = s.supply i := by
  simp [State.supply]
@[simp] theorem promptAttention_sensor (b s : State) (i : ChanIx) : (promptAttention b s).sensor i = s.sensor i := by
  simp [State.sensor]
@[simp] theorem promptAttention_zone (b s : State) (i : ZoneIx) : (promptAttention b s).zone i = s.zone i := by
  simp [State.zone]
@[simp] theorem promptAttention_fan (b s : State) (i : FanIx) : (promptAttention b s).fan i = s.fan i := by
  simp [State.fan]

/-! ### The gate of reset -/

theorem gated_high {s : State} (h : s.porstLow = false) (f : State → State) : gated s f = .next (f s) := by
  simp [gated, h]

theorem gated_low {s : State} (h : s.porstLow = true) (f : State → State) : gated s f = .next s := by
  simp [gated, h]

end Sys2Proof.Machine
end

