-- ==== Sys2Proof/Laws/Link.lean ====
section
/-! SUPPORT. What the link frames and characters are checked by, and reading back the fields that are written
into a body. -/

namespace Sys2Proof.Machine

/-! ### Check bytes and characters -/

/-- The check byte brings the 8-bit sum of length, payload and check to 0 (R195). -/
theorem frameCheck_sums (p : List Byte) : sum8 (u8 p.length ++ p) + frameCheck p = 0 := by
  unfold frameCheck
  generalize sum8 (u8 p.length ++ p) = x
  bv_omega

/-- A character with its stop bit and even parity bears no fault. -/
theorem charFault_good (d : Byte) : charFault ⟨d, parityBit d, true⟩ = none := by simp [charFault]

theorem charFault_framing (d : Byte) (p : Bool) : charFault ⟨d, p, false⟩ = some .framing := by simp [charFault]

theorem charFault_parity {d : Byte} {p : Bool} (h : p ≠ parityBit d) : charFault ⟨d, p, true⟩ = some .parity := by
  simp [charFault, h]

/-- A response that fits its transaction has the transaction's length. -/
theorem fits_length {t : Txn} {p : List Byte} (h : fits t p = true) : p.length = t.responseLength := by
  unfold fits at h
  simpa using (Bool.and_eq_true_iff.mp h).1

theorem responseLength_lt (t : Txn) : t.responseLength < 256 := by
  cases t <;> simp [Txn.responseLength]

/-! ### Fields read back -/

theorem u16_length (n : Nat) : (u16 n).length = 2 := rfl
theorem u32_length (n : Nat) : (u32 n).length = 4 := rfl
theorem u48_length (n : Nat) : (u48 n).length = 6 := rfl

/-- A two-byte field reads back as the value written. -/
theorem wordAt_u16 (n : Nat) (l : List Byte) : wordAt (u16 n ++ l) 0 = BitVec.ofNat 16 n := by
  show BitVec.ofNat 8 (n / 256) ++ BitVec.ofNat 8 n = BitVec.ofNat 16 n
  apply BitVec.eq_of_toNat_eq
  rw [BitVec.toNat_append, BitVec.toNat_ofNat, BitVec.toNat_ofNat, BitVec.toNat_ofNat,
    ← Nat.shiftLeft_add_eq_or_of_lt (by omega), Nat.shiftLeft_eq]
  omega

end Sys2Proof.Machine
end

