-- ==== Sys2Proof/Laws/Power.lean ====
section
/-! SUPPORT. What the passes of the power allocator can do, each said once: which parts of the state they leave
alone (`besidesPower`), what they leave of a bay (`BayKept`), and what an admission, a cap decision and the exits
from the main-powered states do to a bay. -/

namespace Sys2Proof.Machine

/-! ### What a pass leaves alone -/

/-- The state without what the passes work on: the bays, the waiting list and stamps, the ramp channel and the
event queue are put at fixed values. -/
def State.besidesPower (s : State) : State :=
  { s with bays := State.reset.bays, ramp := State.reset.ramp, events := State.reset.events
           alloc := { s.alloc with waiting := [], nextStamp := 0 } }

/-- What no pass changes of a bay. -/
structure BayKept (x y : Bay) : Prop where
  settings : y.settings = x.settings
  header : y.header = x.header
  record : y.record = x.record
  read : y.read = x.read
  sticky : y.sticky = x.sticky
  counters : y.counters = x.counters
  attention : y.attention = x.attention
  faultCause : y.faultCause = x.faultCause
  runState : y.runState = x.runState
  inlet : y.inlet = x.inlet
  linkLost : y.linkLost = x.linkLost

theorem BayKept.refl (x : Bay) : BayKept x x := ⟨rfl, rfl, rfl, rfl, rfl, rfl, rfl, rfl, rfl, rfl, rfl⟩

theorem BayKept.trans {x y z : Bay} (h : BayKept x y) (k : BayKept y z) : BayKept x z :=
  ⟨k.1.trans h.1, k.2.trans h.2, k.3.trans h.3, k.4.trans h.4, k.5.trans h.5, k.6.trans h.6, k.7.trans h.7,
    k.8.trans h.8, k.9.trans h.9, k.10.trans h.10, k.11.trans h.11⟩

/-- A step of a pass: the rest of the state stands, and so does what no pass changes of each bay. -/
structure PassStep (s t : State) : Prop where
  rest : t.besidesPower = s.besidesPower
  kept : ∀ b, BayKept (s.bay b) (t.bay b)

theorem PassStep.refl (s : State) : PassStep s s := ⟨rfl, fun _ => .refl _⟩

theorem PassStep.trans {s t u : State} (h : PassStep s t) (k : PassStep t u) : PassStep s u :=
  ⟨k.rest.trans h.rest, fun b => (h.kept b).trans (k.kept b)⟩

/-- A fold of pass steps is one. -/
theorem PassStep.foldl {α : Type} (f : State → α → State) (h : ∀ s a, PassStep s (f s a)) (l : List α) :
    ∀ s, PassStep s (l.foldl f s) := by
  induction l with
  | nil => exact fun s => .refl s
  | cons a l ih => exact fun s => (h s a).trans (ih _)

theorem PassStep.ite {c : Prop} [Decidable c] {s t u : State} (ht : PassStep s t) (hu : PassStep s u) :
    PassStep s (if c then t else u) := by
  split
  · exact ht
  · exact hu

/-- A change of one bay that keeps what no pass changes. -/
theorem PassStep.modBay (s : State) (b : BayIx) (f : Bay → Bay) (h : BayKept (s.bay b) (f (s.bay b))) :
    PassStep s (s.modBay b f) := by
  refine ⟨rfl, fun c => ?_⟩
  by_cases hc : c = b
  · subst hc; rw [State.modBay_bay_self]; exact h
  · rw [State.modBay_bay_ne _ hc]; exact .refl _

theorem PassStep.setState (s : State) (b : BayIx) (st : BayState) : PassStep s (setState b st s) :=
  .modBay s b _ ⟨rfl, rfl, rfl, rfl, rfl, rfl, rfl, rfl, rfl, rfl, rfl⟩

theorem PassStep.raise (s : State) (k w d x) : PassStep s (raise k w d x s) :=
  ⟨by rw [(raise_only_events k w d x s).1]; rfl, fun b => by rw [raise_bay]; exact .refl _⟩

/-- A change of the ramp channel alone. -/
theorem PassStep.ramp (s : State) (r : RampChannel) : PassStep s { s with ramp := r } :=
  ⟨rfl, fun _ => .refl _⟩

/-- A change of the waiting list and the next stamp alone. -/
theorem PassStep.lists (s : State) (l : List BayIx) (n : Nat) :
    PassStep s { s with alloc := { s.alloc with waiting := l, nextStamp := n } } :=
  ⟨rfl, fun _ => .refl _⟩

/-! ### The operations -/

theorem capDecision_step (b : BayIx) (n : Nat) (s : State) : PassStep s (capDecision b n s) :=
  .modBay s b _ ⟨rfl, rfl, rfl, rfl, rfl, rfl, rfl, rfl, rfl, rfl, rfl⟩

theorem uncapOne_step (s : State) (b : BayIx) : PassStep s (uncapOne s b) := by
  unfold uncapOne
  exact .ite (capDecision_step _ _ _) (.refl _)

theorem uncapPass_step (s : State) : PassStep s (uncapPass s) := PassStep.foldl _ uncapOne_step _ _

theorem enterWaiting_step (b : BayIx) (s : State) : PassStep s (enterWaiting b s) := by
  unfold enterWaiting joinWaiting
  refine .trans (.setState s b .waiting) (.trans (.modBay _ b _ ?_) (.trans (.lists _ _ _) (.lists _ _ _)))
  exact ⟨rfl, rfl, rfl, rfl, rfl, rfl, rfl, rfl, rfl, rfl, rfl⟩

theorem admit_step (b : BayIx) (n : Nat) (s : State) : PassStep s (admitBay b n s) := by
  unfold admitBay leaveWaiting
  refine .trans (.modBay s b _ ?_) (.trans (.lists _ _ _) (.trans (.lists _ _ _)
    (.trans (.setState _ b .admitted) (.ramp _ _))))
  exact ⟨rfl, rfl, rfl, rfl, rfl, rfl, rfl, rfl, rfl, rfl, rfl⟩

theorem walkOne_step (w : Walk) (b : BayIx) : PassStep w.state (walkOne w b).state := by
  unfold walkOne
  dsimp only
  split
  · exact .refl _
  · split
    · exact admit_step _ _ _
    · split
      · exact admit_step _ _ _
      · split <;> exact .refl _

theorem walk_step (l : List BayIx) : ∀ w : Walk, PassStep w.state (l.foldl walkOne w).state := by
  induction l with
  | nil => exact fun w => .refl _
  | cons b l ih => exact fun w => (walkOne_step w b).trans (ih _)

/-- An admission pass changes the bays, the waiting list and stamps and the ramp queue alone. -/
theorem admissionPass_step (s : State) : PassStep s (admissionPass s) := by
  unfold admissionPass
  have h : PassStep s (s.alloc.waiting.foldl walkOne ⟨s, false, []⟩).state :=
    walk_step s.alloc.waiting ⟨s, false, []⟩
  exact .ite (h.trans (uncapPass_step _)) h

theorem shedAdmittedBay_step (b : BayIx) (s : State) : PassStep s (shedAdmittedBay b s) := by
  unfold shedAdmittedBay leaveRampQueue
  refine .trans (.ramp s _) (.trans (.modBay _ b _ ?_) (.trans (enterWaiting_step b _) (.raise _ _ _ _ _)))
  exact ⟨rfl, rfl, rfl, rfl, rfl, rfl, rfl, rfl, rfl, rfl, rfl⟩

theorem shedCapBay_step (scope : Option ZoneIx) (b : BayIx) (s : State) : PassStep s (shedCapBay scope b s) := by
  unfold shedCapBay
  exact .ite (.trans (capDecision_step _ _ _) (.raise _ _ _ _ _)) (.refl _)

theorem shedStoppingBay_step (b : BayIx) (s : State) : PassStep s (shedStoppingBay b s) := by
  unfold shedStoppingBay
  refine .trans (.setState s b .shedding) (.trans (.modBay _ b _ ?_) (.raise _ _ _ _ _))
  exact ⟨rfl, rfl, rfl, rfl, rfl, rfl, rfl, rfl, rfl, rfl, rfl⟩

theorem shedOnlineBay_step (detail : Nat) (b : BayIx) (s : State) : PassStep s (shedOnlineBay detail b s) := by
  unfold shedOnlineBay
  refine .trans (.setState s b .shedding) (.trans (.modBay _ b _ ?_) (.raise _ _ _ _ _))
  exact ⟨rfl, rfl, rfl, rfl, rfl, rfl, rfl, rfl, rfl, rfl, rfl⟩

theorem endRamping_step (s : State) : PassStep s (endRamping s) := by
  unfold endRamping
  exact .ite (.ramp _ _) (.ramp _ _)

/-- Main power off of a POWERING bay: no station entry is touched. -/
theorem powerOff_step (b : BayIx) (s : State) (h : (s.bay b).state.forwarding = false) :
    PassStep s (powerOff b s) := by
  unfold powerOff
  dsimp only
  rw [h]
  simp only [Bool.false_eq_true, if_false]
  refine .trans (.ite (endRamping_step s) (.refl s)) (.modBay _ b _ ?_)
  exact ⟨rfl, rfl, rfl, rfl, rfl, rfl, rfl, rfl, rfl, rfl, rfl⟩

theorem shedPoweringBay_step (b : BayIx) (s : State) (h : (s.bay b).state = .powering) :
    PassStep s (shedPoweringBay b s) := by
  unfold shedPoweringBay
  exact .trans (powerOff_step b s (by rw [h]; rfl)) (.trans (enterWaiting_step b _) (.raise _ _ _ _ _))

theorem coverWith_step (scope : Option ZoneIx) (st : BayState) (treat : BayIx → State → State)
    (h : ∀ b s, (s.bay b).state = st → PassStep s (treat b s)) (s : State) :
    PassStep s (coverWith scope st treat s) := by
  unfold coverWith
  refine PassStep.foldl _ (fun s b => ?_) _ _
  split
  · next hc => exact h b s (by simpa using (Bool.and_eq_true_iff.mp hc).2)
  · exact .refl _

theorem coverDeficit_step (scope : Option ZoneIx) (s : State) : PassStep s (coverDeficit scope s) := by
  unfold coverDeficit
  exact .trans (coverWith_step _ _ _ (fun b s _ => shedAdmittedBay_step b s) s)
    (.trans (coverWith_step _ _ _ (fun b s _ => shedCapBay_step scope b s) _)
      (.trans (coverWith_step _ _ _ (fun b s _ => shedStoppingBay_step b s) _)
        (.trans (coverWith_step _ _ _ shedPoweringBay_step _)
          (coverWith_step _ _ _ (fun b s _ => shedOnlineBay_step shedOnline b s) _))))

/-- A shed pass changes the bays, the waiting list and stamps, the ramp channel and the event queue alone. -/
theorem shedPass_step (s : State) : PassStep s (shedPass s) := by
  unfold shedPass
  have h : PassStep s (coverDeficit none (allZones.foldl (fun s z => coverDeficit (some z) s) s)) :=
    .trans (PassStep.foldl _ (fun s z => coverDeficit_step (some z) s) _ _) (coverDeficit_step _ _)
  exact .ite (h.trans (admissionPass_step _)) h

theorem capFailure_step (b : BayIx) (n : Nat) (s : State) : PassStep s (capFailure b n s) := by
  unfold capFailure shedForCap
  exact .ite (.ite (.trans (shedOnlineBay_step _ _ _) (shedPass_step _)) (.refl _)) (.refl _)

/-- The pass that follows a change of a limit. -/
theorem afterLimit_step (scope : Option ZoneIx) (old : Nat) (s : State) : PassStep s (afterLimit scope old s) := by
  unfold afterLimit
  exact .ite (admissionPass_step _) (.ite (shedPass_step _) (.refl _))

/-! ### Reading a field that a pass leaves alone -/

theorem PassStep.now {s t : State} (h : PassStep s t) : t.now = s.now := by
  have e := congrArg State.now h.rest; exact e
theorem PassStep.porstLow {s t : State} (h : PassStep s t) : t.porstLow = s.porstLow := by
  have e := congrArg State.porstLow h.rest; exact e
theorem PassStep.supplyLink {s t : State} (h : PassStep s t) : t.supplyLink = s.supplyLink := by
  have e := congrArg State.supplyLink h.rest; exact e
theorem PassStep.store {s t : State} (h : PassStep s t) : t.store = s.store := by
  have e := congrArg State.store h.rest; exact e
theorem PassStep.supplies {s t : State} (h : PassStep s t) : t.supplies = s.supplies := by
  have e := congrArg State.supplies h.rest; exact e
theorem PassStep.sensors {s t : State} (h : PassStep s t) : t.sensors = s.sensors := by
  have e := congrArg State.sensors h.rest; exact e
theorem PassStep.converter {s t : State} (h : PassStep s t) : t.converter = s.converter := by
  have e := congrArg State.converter h.rest; exact e
theorem PassStep.zones {s t : State} (h : PassStep s t) : t.zones = s.zones := by
  have e := congrArg State.zones h.rest; exact e
theorem PassStep.fans {s t : State} (h : PassStep s t) : t.fans = s.fans := by
  have e := congrArg State.fans h.rest; exact e
theorem PassStep.tachWindow {s t : State} (h : PassStep s t) : t.tachWindow = s.tachWindow := by
  have e := congrArg State.tachWindow h.rest; exact e
theorem PassStep.uplinks {s t : State} (h : PassStep s t) : t.uplinks = s.uplinks := by
  have e := congrArg State.uplinks h.rest; exact e
theorem PassStep.groups {s t : State} (h : PassStep s t) : t.groups = s.groups := by
  have e := congrArg State.groups h.rest; exact e
theorem PassStep.stations {s t : State} (h : PassStep s t) : t.stations = s.stations := by
  have e := congrArg State.stations h.rest; exact e
theorem PassStep.units {s t : State} (h : PassStep s t) : t.units = s.units := by
  have e := congrArg State.units h.rest; exact e
theorem PassStep.composites {s t : State} (h : PassStep s t) : t.composites = s.composites := by
  have e := congrArg State.composites h.rest; exact e
theorem PassStep.agent {s t : State} (h : PassStep s t) : t.agent = s.agent := by
  have e := congrArg State.agent h.rest; exact e
theorem PassStep.conditions {s t : State} (h : PassStep s t) : t.conditions = s.conditions := by
  have e := congrArg State.conditions h.rest; exact e
theorem PassStep.faultInd {s t : State} (h : PassStep s t) : t.faultInd = s.faultInd := by
  have e := congrArg State.faultInd h.rest; exact e
theorem PassStep.sent {s t : State} (h : PassStep s t) : t.sent = s.sent := by
  have e := congrArg State.sent h.rest; exact e
theorem PassStep.answer {s t : State} (h : PassStep s t) : t.answer = s.answer := by
  have e := congrArg State.answer h.rest; exact e
theorem PassStep.draws {s t : State} (h : PassStep s t) : t.draws = s.draws := by
  have e := congrArg State.draws h.rest; exact e
theorem PassStep.pending {s t : State} (h : PassStep s t) : t.pending = s.pending := by
  have e := congrArg State.pending h.rest; exact e
theorem PassStep.alloc_mode {s t : State} (h : PassStep s t) : t.alloc.mode = s.alloc.mode := by
  have e := congrArg (fun s : State => s.alloc.mode) h.rest; exact e
theorem PassStep.alloc_overhead {s t : State} (h : PassStep s t) : t.alloc.overhead = s.alloc.overhead := by
  have e := congrArg (fun s : State => s.alloc.overhead) h.rest; exact e
theorem PassStep.alloc_capTimeout {s t : State} (h : PassStep s t) : t.alloc.capTimeout = s.alloc.capTimeout := by
  have e := congrArg (fun s : State => s.alloc.capTimeout) h.rest; exact e
theorem PassStep.alloc_raw {s t : State} (h : PassStep s t) : t.alloc.raw = s.alloc.raw := by
  have e := congrArg (fun s : State => s.alloc.raw) h.rest; exact e
theorem PassStep.alloc_budget {s t : State} (h : PassStep s t) : t.alloc.budget = s.alloc.budget := by
  have e := congrArg (fun s : State => s.alloc.budget) h.rest; exact e

/-! ### What an admission pass leaves of a bay that neither waits nor runs -/

/-- The bay and the events are untouched. -/
def KeepsBay (b : BayIx) (s t : State) : Prop := t.bay b = s.bay b ∧ t.events = s.events

theorem KeepsBay.trans {b : BayIx} {s t u : State} (h : KeepsBay b s t) (k : KeepsBay b t u) : KeepsBay b s u :=
  ⟨k.1.trans h.1, k.2.trans h.2⟩

theorem capDecision_keeps {b c : BayIx} (h : b ≠ c) (n : Nat) (s : State) : KeepsBay b s (capDecision c n s) :=
  ⟨State.modBay_bay_ne s h _, rfl⟩

theorem admitBay_keeps {b c : BayIx} (h : b ≠ c) (n : Nat) (s : State) : KeepsBay b s (admitBay c n s) := by
  refine ⟨?_, rfl⟩
  refine (State.modBay_bay_ne _ h _).trans ?_
  exact State.modBay_bay_ne s h fun y =>
    { y with alloc := n, lastDecided := none, applied := none, admissionStamp := some s.alloc.nextStamp }

theorem walkOne_keeps {b : BayIx} (w : Walk) (c : BayIx) (h : (w.state.bay b).state ≠ .waiting) :
    KeepsBay b w.state (walkOne w c).state := by
  have hc : (w.state.bay c).state = .waiting → b ≠ c := fun k e => h (e ▸ k)
  unfold walkOne
  dsimp only
  split
  · exact ⟨rfl, rfl⟩
  · rename_i hn
    have hw : b ≠ c := hc (by simp at hn; exact hn.2)
    split
    · exact admitBay_keeps hw _ _
    · split
      · exact admitBay_keeps hw _ _
      · split <;> exact ⟨rfl, rfl⟩

theorem walk_keeps {b : BayIx} (l : List BayIx) :
    ∀ w : Walk, (w.state.bay b).state ≠ .waiting → KeepsBay b w.state (l.foldl walkOne w).state := by
  induction l with
  | nil => exact fun w _ => ⟨rfl, rfl⟩
  | cons c l ih =>
    intro w h
    have k := walkOne_keeps w c h
    exact k.trans (ih (walkOne w c) (by rw [k.1]; exact h))

theorem uncapOne_keeps {b c : BayIx} (h : b ≠ c) (s : State) : KeepsBay b s (uncapOne s c) := by
  unfold uncapOne
  dsimp only
  split
  · exact capDecision_keeps h _ _
  · exact ⟨rfl, rfl⟩

theorem uncap_keeps {b : BayIx} (l : List BayIx) : ∀ s : State, b ∉ l → KeepsBay b s (l.foldl uncapOne s) := by
  induction l with
  | nil => exact fun s _ => ⟨rfl, rfl⟩
  | cons c l ih =>
    intro s h
    rw [List.foldl_cons]
    have hc : b ≠ c := fun e => h (by rw [e]; exact List.mem_cons_self)
    have hl : b ∉ l := fun e => h (List.mem_cons_of_mem c e)
    exact KeepsBay.trans (uncapOne_keeps hc s) (ih _ hl)

theorem mem_insertBefore (r : BayIx → BayIx → Bool) (b c : BayIx) (l : List BayIx) :
    b ∈ insertBefore r c l ↔ b = c ∨ b ∈ l := by
  induction l with
  | nil => simp [insertBefore]
  | cons d l ih =>
    unfold insertBefore
    split
    · simp
    · simp only [List.mem_cons, ih, or_left_comm]

theorem mem_sortBays (r : BayIx → BayIx → Bool) (b : BayIx) (l : List BayIx) : b ∈ sortBays r l ↔ b ∈ l := by
  have h : ∀ acc, b ∈ l.foldl (fun acc c => insertBefore r c acc) acc ↔ b ∈ acc ∨ b ∈ l := by
    induction l with
    | nil => simp
    | cons d l ih => intro acc; simp only [List.foldl_cons, ih, mem_insertBefore, List.mem_cons, or_assoc, or_left_comm]
  simpa [sortBays] using h []

/-- An admission pass raises no event, and leaves a bay that is neither WAITING nor ONLINE as it was. -/
theorem admissionPass_keeps {b : BayIx} (s : State) (hw : (s.bay b).state ≠ .waiting)
    (ho : (s.bay b).state ≠ .online) : KeepsBay b s (admissionPass s) := by
  unfold admissionPass
  have h : KeepsBay b s (s.alloc.waiting.foldl walkOne ⟨s, false, []⟩).state :=
    walk_keeps s.alloc.waiting ⟨s, false, []⟩ hw
  dsimp only
  split
  · refine h.trans (uncap_keeps _ _ fun hm => ho ?_)
    rw [uncapCandidates, mem_sortBays, List.mem_filter] at hm
    rw [← h.1]
    simp only [Bool.and_eq_true, decide_eq_true_eq] at hm
    exact hm.2.1.1
  · exact h

end Sys2Proof.Machine
end

