-- ==== Sys2Proof/Laws/Stations.lean ====
section
/-! SUPPORT. What the lookups of the station table answer, and how the operands of a request name an index, a code
and a clamped value. -/

namespace Sys2Proof.Machine

/-! ### Indices and codes -/

theorem toIx_of_lt {n x : Nat} (h : x < n) : toIx n x = some ⟨x, h⟩ := dif_pos h

theorem toIx_of_le {n x : Nat} (h : n ≤ x) : toIx n x = none := dif_neg (Nat.not_lt.mpr h)

theorem toIx_eq_some {n x : Nat} {i : Fin n} : toIx n x = some i ↔ x = i.val := by
  constructor
  · intro h
    by_cases hx : x < n
    · rw [toIx_of_lt hx, Option.some.injEq] at h
      rw [← h]
    · rw [toIx_of_le (Nat.not_lt.mp hx)] at h
      cases h
  · rintro rfl
    exact toIx_of_lt i.isLt

/-- The byte that holds an index names it. -/
theorem toIx_byte {n : Nat} (h : n ≤ 256) (i : Fin n) : toIx n (BitVec.ofNat 8 i.val).toNat = some i := by
  rw [toIx_eq_some, BitVec.toNat_ofNat]
  have := i.isLt
  omega

theorem onOff_flag (b : Bool) : onOff (BitVec.ofNat 8 b.toNat) = some b := by cases b <;> decide

theorem onOff_none {b : Byte} (h : 1 < b.toNat) : onOff b = none := by
  unfold onOff
  rw [if_neg, if_neg] <;> (intro e; subst e; simp at h)

theorem clampNat_bounds {lo hi : Nat} (h : lo ≤ hi) (x : Nat) : lo ≤ clampNat lo hi x ∧ clampNat lo hi x ≤ hi := by
  unfold clampNat
  omega

theorem clampNat_eq {lo hi x : Nat} : clampNat lo hi x = x ↔ (lo ≤ x ∧ (x ≤ hi ∨ lo = x)) := by
  unfold clampNat
  omega

/-! ### The first index of a table that passes a test -/

/-- The first index found is one that passes, and every lower one fails. -/
theorem findIx_some {α : Type} {n : Nat} (t : Tab α n) (p : α → Bool) (i : Fin n) :
    (t.items.findIdx? p).bind (toIx n) = some i ↔
      p (t.get i) = true ∧ ∀ j, j < i → p (t.get j) = false := by
  rw [Option.bind_eq_some_iff]
  constructor
  · rintro ⟨k, hk, hi⟩
    rw [toIx_eq_some] at hi
    subst hi
    rw [List.findIdx?_eq_some_iff_getElem] at hk
    obtain ⟨h, hp, hlt⟩ := hk
    refine ⟨hp, fun j hj => ?_⟩
    have := hlt j.val hj
    simpa [Tab.get] using this
  · rintro ⟨hp, hlt⟩
    refine ⟨i.val, ?_, toIx_eq_some.mpr rfl⟩
    rw [List.findIdx?_eq_some_iff_getElem]
    have hl : i.val < t.items.length := by rw [t.len]; exact i.isLt
    refine ⟨hl, hp, fun j hj => ?_⟩
    have := hlt ⟨j, Nat.lt_trans hj i.isLt⟩ hj
    simpa [Tab.get] using this

/-- No index is found exactly when every entry fails. -/
theorem findIx_none {α : Type} {n : Nat} (t : Tab α n) (p : α → Bool) :
    (t.items.findIdx? p).bind (toIx n) = none ↔ ∀ i, p (t.get i) = false := by
  constructor
  · intro h i
    rw [Option.bind_eq_none_iff] at h
    have hn : t.items.findIdx? p = none := by
      cases hf : t.items.findIdx? p with
      | none => rfl
      | some k =>
        have hk := h k hf
        obtain ⟨hl, -, -⟩ := List.findIdx?_eq_some_iff_getElem.mp hf
        rw [t.len] at hl
        rw [toIx_of_lt hl] at hk
        cases hk
    rw [List.findIdx?_eq_none_iff] at hn
    exact hn _ (List.getElem_mem _)
  · intro h
    have hn : t.items.findIdx? p = none := by
      rw [List.findIdx?_eq_none_iff]
      intro x hx
      obtain ⟨i, rfl⟩ := (t.mem_items x).mp hx
      exact h i
    rw [hn]
    rfl

/-! ### The station table -/

/-- The entry that holds an address, at the lowest index that does. -/
theorem locate_some {a : Addr} {t : StationTable} {i : StationIx} :
    locate a t = some i ↔ (∃ e, t.entries.get i = some e ∧ e.addr = a) ∧
      ∀ j, j < i → ∀ e, t.entries.get j = some e → e.addr ≠ a := by
  rw [locate, findIx_some]
  simp [Option.any_eq_true]
  intro e h1 h2
  constructor
  · intro h j hj f hf hfa
    have := h j hj
    simp [hf, hfa] at this
  · intro h j hj
    cases hf : t.entries.get j with
    | none => rfl
    | some f => simpa [hf] using h j hj f hf

/-- No entry holds the address. -/
theorem locate_none {a : Addr} {t : StationTable} :
    locate a t = none ↔ ∀ i e, t.entries.get i = some e → e.addr ≠ a := by
  rw [locate, findIx_none]
  constructor
  · intro h i e he hea
    have := h i
    simp [he, hea] at this
  · intro h i
    cases he : t.entries.get i with
    | none => rfl
    | some e => simpa [he] using h i e he

/-- The lowest free index. -/
theorem freeIndex_some {t : StationTable} {i : StationIx} :
    freeIndex t = some i ↔ t.entries.get i = none ∧ ∀ j, j < i → t.entries.get j ≠ none := by
  rw [freeIndex, findIx_some]
  constructor
  · rintro ⟨h, k⟩
    refine ⟨by simpa using h, fun j hj e => ?_⟩
    have := k j hj
    simp [e] at this
  · rintro ⟨h, k⟩
    refine ⟨by simp [h], fun j hj => ?_⟩
    cases he : t.entries.get j with
    | none => exact absurd he (k j hj)
    | some e => rfl

theorem freeIndex_none {t : StationTable} : freeIndex t = none ↔ ∀ i, t.entries.get i ≠ none := by
  rw [freeIndex, findIx_none]
  constructor
  · intro h i e
    have := h i
    simp [e] at this
  · intro h i
    cases he : t.entries.get i with
    | none => exact absurd he (h i)
    | some e => rfl

/-- The entries that a removal leaves are those its test does not select. -/
theorem dropStations_get (sel : Station → Bool) (s : State) (i : StationIx) :
    (dropStations sel s).stations.entries.get i = (s.stations.entries.get i).filter fun e => !sel e :=
  Tab.get_map _ _ _

end Sys2Proof.Machine
end

