-- ==== Sys2Proof/Laws/Thermal.lean ====
section
/-! SUPPORT. What the thermal and supply operations can do, each said once as the parts of the state they leave
alone: zone updates, the recomputation of a limit and of B, and the changes of health, thermal and supply
states. -/

namespace Sys2Proof.Machine

/-! ### Zone updates -/

/-- An update of a zone changes that zone alone, and of it the output, C and the last update. -/
theorem updateZone_only (z : ZoneIx) (s : State) :
    updateZone z s = s.modZone z fun x =>
      { x with output := updatedOutput z (contributions z s).demand s
               compare := compareCount (updatedOutput z (contributions z s).demand s) x.settings.period
               lastUpdate := some (contributions z s) } := rfl

/-- With an unhealthy fan an update gives 1000. -/
theorem updateZone_unhealthy (z : ZoneIx) (s : State) (h : zoneUnhealthy z s = true) :
    ((updateZone z s).zone z).output = 1000 := by
  rw [updateZone_only, State.modZone_zone_self]
  simp [updatedOutput, h]

/-- An update leaves the output at its floors or above. -/
theorem updateZone_floor (z : ZoneIx) (s : State) (h : zoneUnhealthy z s = false) :
    outputFloor s.agent.managed (s.zone z).settings ≤ ((updateZone z s).zone z).output := by
  rw [updateZone_only, State.modZone_zone_self]
  simp only [updatedOutput, h, Bool.false_eq_true, if_false]
  exact Nat.le_max_right _ _

theorem contributions_demand_le (z : ZoneIx) (s : State) : (contributions z s).demand ≤ 1000 :=
  Nat.min_le_right _ _

/-- An output moved toward a demand stays between the two. -/
theorem slewed_bounds (c : ZoneSettings) (previous demand : Nat) :
    slewed c previous demand ≤ max previous demand ∧ min previous demand ≤ slewed c previous demand ∧
    slewed c previous demand ≤ previous + c.slewUp ∧ previous ≤ slewed c previous demand + c.slewDown := by
  unfold slewed
  split <;> omega

/-! ### Limits and the budget -/

/-- Recomputing L_z changes the limit of that zone and makes a pass, or changes nothing. -/
theorem recomputeLimit_step (z : ZoneIx) (s : State) :
    recomputeLimit z s = s ∨
      PassStep (s.modZone z fun x => { x with limit := zoneLimit z s }) (recomputeLimit z s) := by
  unfold recomputeLimit
  dsimp only
  split
  · exact .inl rfl
  · exact .inr (afterLimit_step _ _ _)

/-- Recomputing B stores raw capacity and B, raises at most BUDGET_CHANGE and makes a pass. -/
theorem recomputeBudget_step (s : State) :
    PassStep { s with alloc := { s.alloc with
      raw := rawCapacity s.alloc.mode fun i => (s.supply i).counted
      budget := (rawCapacity s.alloc.mode fun i => (s.supply i).counted) - s.alloc.overhead } }
      (recomputeBudget s) := by
  unfold recomputeBudget
  exact .ite (.refl _) (.trans (.raise _ _ _ _ _) (afterLimit_step _ _ _))

/-- After a recomputation raw capacity and B are those of the supplies, the mode and the overhead. -/
theorem recomputeBudget_values (s : State) :
    (recomputeBudget s).alloc.raw = (rawCapacity s.alloc.mode fun i => (s.supply i).counted) ∧
    (recomputeBudget s).alloc.budget =
      (rawCapacity s.alloc.mode fun i => (s.supply i).counted) - s.alloc.overhead :=
  ⟨(recomputeBudget_step s).alloc_raw, (recomputeBudget_step s).alloc_budget⟩

/-- Recounting a supply gives it the capacity of its record. -/
theorem recount_counted (i : SupIx) (s : State) :
    ((recount i s).supply i).counted = countedCapacity ((recount i s).supply i) := by
  simp only [recount, State.modSupply_supply_self]
  rfl

end Sys2Proof.Machine
end

