-- ==== Sys2Proof/WellFormed.lean ====
section
/-! DEFINITION. What makes a command one the outside can send: a frame is whole, and a list request
carries as many entries as its count says. Every other operand is well formed by its type. -/

namespace Sys2Proof

/-- A frame a port may hand to the engine: whole as far as its type code, past a tag if it carries one
(R134: a port discards any other frame), and no longer than a LENGTH can say (Table 8-2; four more
bytes are the check sequence). -/
def Frame.whole (f : Frame) : Bool :=
  let tagged := f[12]? == some 0x81#8 && f[13]? == some 0x00#8
  (if tagged then 18 else 14) ≤ f.length && f.length + 4 ≤ 65535

/-- A well-formed command. A list request whose list disagrees with its count is one that R174 answers
with BAD_LENGTH: it can be sent, and it is marked here because its operands do not spell one body. -/
def Instr.wellFormed : Instr → Bool
  | .bayPortFrame _ f => f.whole
  | .uplinkFrame _ f => f.whole
  | .setManagers _ count _ addrs => addrs.length == count.toNat
  | .loadCurve _ count points => points.length == count.toNat
  | _ => true

end Sys2Proof
end

