-- ==== Sys2Proof/Tests/Slice0.lean ====
section
/-! SUPPORT. Tests: the well-formedness smoke, one or two small checks for each command with figures taken from
the manual, and a witness for every statement that has hypotheses. -/

namespace Sys2Proof.Tests

open Sys2Proof.Machine

/-! ### Helpers -/

/-- The state a command leaves. -/
def after (c : Instr) (s : State) : State :=
  match exec c s with
  | .next t => t
  | _ => s

/-- Right after reset. -/
def base : State := State.reset
/-- Bay B0 in a state. -/
def bayIn (st : BayState) : State := setState 0 st base
/-- A blade of 300 W at most and 100 W at least. -/
def blade : PowerHeader := ⟨300, 100, true, 2⟩
/-- A budget of `n` watts. -/
def funded (n : Nat) (s : State) : State := { s with alloc := { s.alloc with raw := n, budget := n, overhead := 0 } }
/-- `n` events queued with a limit of 64. -/
def queued (n : Nat) : State := { base with events := ⟨List.replicate n ⟨.bayOnline, .bay 0, 0, 0, 0⟩, 64, 0⟩ }
/-- A manager on U0. -/
def chief : Manager := ⟨0x020000000001, 0, none⟩
/-- MANAGED by the chief, with U0 as given. -/
def managed (up : Bool) (s : State) : State :=
  { s.modUplink 0 (fun x => { x with up := up }) with
    agent := { s.agent with managed := true, manager := some chief, silenceTimer := some 30000 } }
/-- A minimal frame between two addresses. -/
def frame (dst src : Addr) : Frame := u48 dst.toNat ++ u48 src.toNat ++ [8, 0] ++ List.replicate 46 0
/-- The same frame with a tag of value 5. -/
def tagged (dst src : Addr) : Frame := insertTag 5 (frame dst src)
/-- B0 ONLINE on U0 with U0 UP. -/
def open0 : State :=
  ((setState 0 .online base).modBay 0 fun y => { y with activeUplink := some 0 }).modUplink 0 fun x =>
    { x with up := true }
/-- A station address. -/
def host : Addr := 0x020000000042
/-- A command in front of an empty queue. -/
def sending (c : Instr) (s : State) : State := { s with pending := [c] }
/-- The status of the last answer. -/
def status (s : State) : Option Status := s.answer.map (·.status)
/-- The body of the last answer. -/
def body (s : State) : List Byte := (s.answer.map (·.body)).getD []
/-- The link engine of B0 in a state, with a transaction. -/
def engine0 (st : EngineState) (t : Txn) (s : State) : State :=
  s.modLink 0 fun l => { l with engine := ⟨st, some t, false, some 50, some 2, none, []⟩ }

/-! ### Well-formedness: each check refuses an ill-formed command -/

theorem test_wf_frame : (Instr.bayPortFrame 0 (frame host host)).wellFormed = true := by decide
theorem test_wf_short_frame_refused : (Instr.bayPortFrame 0 (List.replicate 13 0)).wellFormed = false := by decide
theorem test_wf_short_tagged_refused :
    (Instr.uplinkFrame 0 ((tagged host host).take 17)).wellFormed = false := by decide
theorem test_wf_managers_count_refused : (Instr.setManagers 1 2 30 [host]).wellFormed = false := by decide
theorem test_wf_curve_count_refused : (Instr.loadCurve 0 2 [(0, 0)]).wellFormed = false := by decide
theorem test_wf_curve_count : (Instr.loadCurve 0 1 [(0, 0)]).wellFormed = true := by decide

/-! ### The table gives no bits, so no word spells a command -/

theorem test_no_word : decodeTableWord 8 0 = none := by decide
theorem test_fetch_word_unchanged : base.withFetchWord 8 0 = base := by decide +kernel

/-! ### The smallest response bodies (R176) are those of the bodies at reset -/

theorem test_chassis_smallest : (chassisBody base).length = Kind.queryChassis.smallest := by decide
theorem test_bay_smallest : (bayBody 0 base).length = Kind.queryBay.smallest := by decide
theorem test_settings_smallest : (base.bay 0).settings.bytes.length = Kind.setBay.smallest := by decide
theorem test_power_smallest : (powerBody base).length = Kind.queryPower.smallest := by decide +kernel
theorem test_supply_smallest : (supplyBody 0 base).length = Kind.setSupply.smallest := by decide
theorem test_policy_smallest : (policyBody base).length = Kind.setPowerPolicy.smallest := by decide
theorem test_ramp_smallest : (rampBody base).length = Kind.setRamp.smallest := by decide
theorem test_zone_smallest : (zoneBody 0 base).length = Kind.setZone.smallest := by decide
theorem test_sensor_smallest : (sensorBody 0 base).length = Kind.setSensor.smallest := by decide
/-- The three default curves hold four points of four bytes each. -/
theorem test_thermal_smallest : (thermalBody base).length = Kind.queryThermal.smallest + 3 * 4 * 4 := by decide +kernel
theorem test_uplink_smallest : (setUplinkBody 0 base).length = Kind.setUplink.smallest := by decide
theorem test_group_smallest : (groupBytes base).length = Kind.setGroup.smallest := by decide
theorem test_traffic_smallest : (trafficBody base).length = Kind.queryTraffic.smallest := by decide +kernel
theorem test_watch_smallest : (watchBody base).length = Kind.queryWatch.smallest := by decide +kernel
theorem test_managers_smallest : (managersBody base).length = Kind.setManagers.smallest := by decide

/-! ### Reset -/

/-- Section 6.5: 600 × 250 gives C = 150. -/
theorem test_power_on_pwm : pinPwm 0 (after (.powerOnReset true 5 0x3F) base) = (150, 250) := by decide
/-- R118: a zone with an absent fan starts at 1000, so C = 250. -/
theorem test_power_on_absent_fan : pinPwm 2 (after (.powerOnReset true 5 0x1F) base) = (250, 250) := by decide

/-! ### Bays -/

theorem test_presence_settling : ((after (.presenceSample 3 true) base).bay 3).state = .settling := by decide
/-- R10: the 20th consecutive present sample enters IDENT. -/
theorem test_presence_ident :
    ((after (.presenceSample 0 true) ((bayIn .settling).modBay 0 fun y => { y with presentRun := 19 })).bay 0).state
      = .ident := by decide
/-- R13: the third pressed sample is a press; with press_to_start on an OFF bay goes to WAITING. -/
theorem test_attention_press :
    ((after (.attentionSample 0 true) ((bayIn .off).modBay 0 fun y =>
      { y with header := some blade, attention := ⟨2, 0, false, 0, 0⟩ })).bay 0).state = .waiting := by decide
/-- R14: the first hold, at 4 s, acts as STOP in ONLINE. -/
theorem test_attention_hold :
    ((after (.attentionSample 0 true) ((bayIn .online).modBay 0 fun y =>
      { y with attention := ⟨399, 0, true, 3990, 0⟩ })).bay 0).state = .stopping := by decide
/-- R92: the second high sample is power-good. -/
theorem test_pgood_second_high :
    ((after (.pgoodSample 0 true) { (bayIn .powering).modBay 0 (fun y => { y with pgoodHigh := 1 }) with
      ramp := { base.ramp with state := .ramping 0, rampTimer := some 1500 } }).bay 0).state = .online := by decide
/-- R96: the second low sample in ONLINE is FAULT. -/
theorem test_pgood_lost :
    ((after (.pgoodSample 0 false) ((bayIn .online).modBay 0 fun y => { y with pgoodLow := 1 })).bay 0).faultCause
      = some .powerLost := by decide
theorem test_ramp_expiry :
    ((after .rampTimerExpiry { bayIn .powering with
      ramp := { base.ramp with state := .ramping 0, rampTimer := some 1500 } }).bay 0).faultCause
      = some .powerGoodTimeout := by decide
theorem test_settle_expiry :
    (after .settleTimerExpiry { base with
      ramp := { base.ramp with state := .settling, settleTimer := some 250 } }).ramp.state = .idle := by decide
theorem test_stop_expiry :
    ((after (.stopTimerExpiry 0) ((bayIn .stopping).modBay 0 fun y => { y with deadline := some 5 })).bay 0).state
      = .off := by decide
/-- R102: with auto_power on and stop_requested clear a shed ends in WAITING. -/
theorem test_shed_expiry :
    ((after (.shedTimerExpiry 0) ((bayIn .shedding).modBay 0 fun y =>
      { y with deadline := some 5, header := some blade })).bay 0).state = .waiting := by decide
theorem test_cap_expiry :
    ((after (.capTimerExpiry 0) ((bayIn .online).modBay 0 fun y => { y with capTimer := some 5 })).bay 0).state
      = .shedding := by decide +kernel
theorem test_action_on_empty : status (after (.bayActionOn 0) base) = some .notPresent := by decide
theorem test_action_stop_fault : status (after (.bayActionStop 0) (bayIn .fault)) = some .wrongState := by decide
theorem test_action_force_off :
    ((after (.bayActionForceOff 0) (bayIn .stopping)).bay 0).state = .off := by decide
theorem test_action_clear_fault :
    ((after (.bayActionClearFault 0) (bayIn .fault)).bay 0).state = .ident := by decide
theorem test_action_recheck_ident : status (after (.bayActionRecheck 0) (bayIn .ident)) = some .busy := by decide
/-- R20: a priority above 7 is clamped to 7. -/
theorem test_set_bay_clamps :
    body (after (.setBay 0 1 9 0 0 0 0 0 0) base) = [7, 1, 1, 0, 0, 1, 0] := by decide
/-- R20: the present zone may be written again in a state that refuses a zone change. -/
theorem test_set_bay_present_zone : status (after (.setBay 0 8 0 0 0 0 0 0 0) (bayIn .online)) = some .ok := by decide
theorem test_query_bay_14 : status (after (.queryBay 14) base) = some .outOfRange := by decide

/-! ### Links -/

/-- R195: the request frame of STATUS is 0xA5, length 1, payload 2, and the check byte that sums to 0. -/
theorem test_status_frame : requestFrame .status = [0xA5, 0x01, 0x02, 0xFD] := by decide
theorem test_request_sent :
    ((after (.requestSent (.bay 0)) (engine0 .sending .status base)).bay 0).link.engine.state = .awaitStart := by decide
theorem test_response_expiry :
    ((after (.responseTimerExpiry (.bay 0)) (engine0 .awaitStart .status (bayIn .online))).bay 0).sticky.noResponse
      = true := by decide
theorem test_window_expiry :
    ((after (.completionWindowExpiry (.bay 0)) (engine0 .receiving .status (bayIn .online))).bay 0).link.engine.state
      = .quiet := by decide
theorem test_quiet_end :
    ((after (.quietEnd (.bay 0)) (engine0 .quiet .status base)).bay 0).link.engine.state = .idle := by decide
/-- R26: 0x5A begins a response. -/
theorem test_start_byte :
    ((after (.linkCharacter (.bay 0) ⟨0x5A, false, true⟩) (engine0 .awaitStart .status base)).bay 0).link.engine.state
      = .receiving := by decide
theorem test_bad_stop_bit :
    ((after (.linkCharacter (.bay 0) ⟨0x5A, false, false⟩) (engine0 .awaitStart .status base)).bay 0).sticky.framing
      = true := by decide
theorem test_poll_expiry_takes_poll :
    ((after (.pollTimerExpiry 0) ((bayIn .online).modLink 0 fun l => { l with pollTimer := some 9 })).bay 0).link.engine
      = .send .status := by decide
theorem test_round_expiry : (after .roundTimerExpiry base).supplyLink.roundTimer = 2000 := by decide
/-- R55: the class of a blade is 1, of a supply 2, and 3 names none. -/
theorem test_read_identity_class : status (after (.readIdentity 3 0 0 1) base) = some .badValue := by decide
theorem test_read_identity_none : status (after (.readIdentity 1 13 11 1) base) = some .notPresent := by decide

/-! ### Power -/

theorem test_supply_presence :
    ((after (.supplyPresenceSample 5 true) (base.modSupply 5 fun p => { p with presentRun := 19 })).supply 5).state
      = .ident := by decide
theorem test_dc_ok :
    ((after (.dcOkSample 2 true) (base.modSupply 2 fun p => { p with dcOkRun := 2 })).supply 2).dcOk = true := by decide
/-- R85: an override above 4000 W is clamped. -/
theorem test_set_supply : ((after (.setSupply 0 5000) base).supply 0).override = 4000 := by decide
theorem test_set_policy : (after (.setPowerPolicy 7 2 700 0) base).alloc.capTimeout = 1 := by decide
theorem test_query_power : status (after .queryPower base) = some .ok := by decide
/-- Table 5-5: a stop timeout below 10 s is clamped to 10 s. -/
theorem test_set_ramp : (after (.setRamp 0x40 0 0 0 0 0 0 3 0) base).ramp.stopTimeout = 10 := by decide
/-- R67: two supplies of 2000 W and 1500 W give N+1 capacity 1500 W. -/
theorem test_raw_capacity :
    rawCapacity .nPlus1 (fun i => if i = 0 then 2000 else if i = 1 then 1500 else 0) = 1500 := by decide

/-! ### Thermal sensing and fans -/

/-- R107's example: code 2560 with the defaults is 50.0 °C. -/
theorem test_code_2560 : codeTemperature 400 (-500) 2560 = 500 := by decide
/-- R107's example: code 4094 with gain 1000 is clamped to 150.0 °C. -/
theorem test_slot_end_clamps :
    ((after (.conversionSlotEnd 4094) (base.modSensor 0 fun x => { x with gain := 1000 })).sensor 0).reading
      = 1500 := by decide
/-- R111's example: 401 on the default curve is 578. -/
theorem test_curve_401 : curveValue (base.zone 0).curve 401 = 578 := by decide
/-- R111's example: a curve that falls from (450, 700) to (550, 601) gives 651 at 500. -/
theorem test_curve_falls : curveValue [⟨450, 700⟩, ⟨550, 601⟩] 500 = 651 := by decide
/-- Section 6.8.1: with the defaults the output goes from 600 to a demand of 850, and from 850 toward 575 to 800. -/
theorem test_update_slews :
    slewed (base.zone 0).settings 600 850 = 850 ∧ slewed (base.zone 0).settings 850 575 = 800 := by decide
theorem test_control_period : ((after (.controlPeriodExpiry 0) base).zone 0).controlTimer = 2000 := by decide
/-- R119: 1023 pulses read as 30690 rpm. -/
theorem test_window_rpm :
    ((after .tachWindowEnd (base.modFan 0 fun x => { x with pulses := 1023 })).fan 0).rpm = 30690 := by decide
theorem test_tach_saturates :
    ((after (.tachPulse 0) (base.modFan 0 fun x => { x with pulses := 1023 })).fan 0).pulses = 1023 := by decide
theorem test_fan_pulled :
    ((after (.fanPresenceSample 4 false) (base.modFan 4 fun x => { x with presenceRun := 2 })).zone 2).output
      = 1000 := by decide
/-- R124: a minimum duty raised above the output raises it; 850 of 250 counts gives C = 213. -/
theorem test_set_zone :
    ((after (.setZone 0 4 ⟨0, 0, 0, 0, 850, 0, 0, 0, 0, 0, 0, 0, 0⟩) base).zone 0).compare = 213 := by decide
/-- Tables 6-4 and 11-4: the three cooling values are one row, so bit 0 selects them and bit 1 the critical limit. -/
theorem test_set_zone_rows :
    (let c := ((after (.setZone 0 1 ⟨1, 2, 3, 4, 0, 0, 0, 0, 0, 0, 0, 0, 0⟩) base).zone 0).settings
     (c.cooling0, c.cooling1, c.cooling2, c.critLimit))
      = (1, 2, 3, (base.zone 0).settings.critLimit) := by decide
theorem test_load_curve_order : status (after (.loadCurve 0 2 [(300, 1), (300, 2)]) base) = some .badValue := by decide
/-- R193: an enabled code other than 0 and 1 is refused in the request that carries it, here with the gain selected. -/
theorem test_set_sensor_unselected_code :
    status (after (.setSensor 0 0x01 7 0 0 0 0 2) base) = some .badValue := by decide
theorem test_set_sensor_off : ((after (.setSensor 0 0x20 0 0 0 0 0 0) base).sensor 0).status = .disabled := by decide
theorem test_query_thermal : status (after .queryThermal base) = some .ok := by decide

/-! ### Forwarding -/

theorem test_bay_frame_blocked :
    ((after (.bayPortFrame 0 (frame host host)) base).bay 0).counters.blocked = 1 := by decide
theorem test_bay_frame_learned :
    locate host (after (.bayPortFrame 0 (frame 0xFFFFFFFFFFFF host)) open0).stations = some 0 := by decide +kernel
theorem test_uplink_frame_flooded :
    (after (.uplinkFrame 0 (frame 0xFFFFFFFFFFFF host)) open0).sent = [.bay 0 (frame 0xFFFFFFFFFFFF host)] := by decide
theorem test_link_report_down : ((after (.uplinkLinkReport 0 false) open0).bay 0).activeUplink = none := by decide
theorem test_hold_expiry :
    ((after (.holdTimerExpiry 0) ((open0.modUplink 0 fun x => { x with holdTimer := some 9 }).modBay 0 fun y =>
      { y with activeUplink := some 1 })).bay 0).activeUplink = some 0 := by decide
theorem test_aging :
    (after .agingTimerExpiry (putStation 7 ⟨host, 0, .learned 1⟩ base)).stations.entries.get 7 = none := by decide
theorem test_set_uplink_last_trusted : status (after (.setUplink 0 1 0 0 0) base) = some .badValue := by decide
theorem test_set_group_4095 : status (after (.setGroup 0 4095) base) = some .badValue := by decide
theorem test_add_station : (after (.addStation host 3) base).stations.entries.get 0 = some ⟨host, 3, .fixed none⟩ := by
  decide +kernel
theorem test_remove_station : status (after (.removeStation host) base) = some .notPresent := by decide +kernel
/-- R150: an empty table read to its end reports next index 256. -/
theorem test_read_stations : body (after (.readStations 0 0) base) = [0, 0, 1, 0] := by decide
theorem test_query_traffic : status (after .queryTraffic base) = some .ok := by decide

/-! ### Watch units -/

/-- R164: a bound above the highest value of its field is clamped to it. -/
theorem test_set_watch : ((after (.setWatch 0 2 0 2 1 0 99) base).units.get 0).hi = 15 := by decide
theorem test_set_composite : ((after (.setComposite 1 3 0 0 0 0) base).composites.get 1).threshold = 1 := by decide
theorem test_arm_composite :
    ((after (.armComposite 0) (base.modComposite 0 fun c => { c with latched := true })).composites.get 0).latched
      = false := by decide
theorem test_query_watch : status (after .queryWatch base) = some .ok := by decide
/-- R156: negate does not turn a missing value into a match. -/
theorem test_bay_unit_without_value :
    WatchUnit.hits ⟨.bay, 0, 13, true, .both, true⟩ ⟨false, host, host, 0, 64, 0x0800, none, 0⟩ = false := by decide

/-! ### Management, events and conditions -/

theorem test_query_chassis : status (after .queryChassis base) = some .ok := by decide
theorem test_set_managers_five : status (after (.setManagers 1 5 0 (List.replicate 5 host)) base) = some .badValue := by
  decide
theorem test_clear_stations :
    (after .clearStations (putStation 0 ⟨host, 0, .fixed none⟩ base)).stations.entries.get 0
      = some ⟨host, 0, .fixed none⟩ := by decide
theorem test_clear_counters :
    ((after .clearCounters (base.countBay 0 fun c => { c with blocked := 3 })).bay 0).counters.blocked = 0 := by decide
theorem test_clear_events : (after .clearEvents (queued 3)).events.queue = [] := by decide
theorem test_silence_expiry : (after .silenceTimerExpiry (managed true base)).agent.managed = false := by decide
/-- R169, R178: the first contact raises MANAGER_RESTORED, which prompts an attention frame with figures 1 and
0; R172, R185: the frame's turn answers its READ_EVENTS of 4 with that one event, TRUNCATED. -/
theorem test_control_frame :
    (after .controlFrameExecution (after (.uplinkFrame 0
      (agentFrame (stationAddr 0) host none [1, 0, 0, 0, 0, 9, 1, 0, 0x60, 0, 0, 7, 0, 1, 4])) open0)).sent.map
        (fun x => match x with
          | .uplink _ f => (framePayload f).take 18
          | .bay _ _ => [])
      = [[1, 2, 0, 0, 0, 0, 0, 0, 1, 0, 0, 0, 0, 0, 0, 0, 0, 0],
         [1, 1, 0, 0, 0, 9, 1, 0, 0x60, 2, 0, 7, 0, 16, 1, 0, 0, 0]] := by decide
/-- R185: 64 events asked of a queue of 10 are TRUNCATED. -/
theorem test_read_events : status (after (.readEvents 64) (queued 10)) = some .truncated := by decide
theorem test_read_conditions : body (after .readConditions base) = [0, 0, 0, 0] := by decide
theorem test_ack_condition_unknown : status (after (.ackCondition 6 0) base) = some .badValue := by decide
theorem test_set_event_limit : (after (.setEventLimit 3) (queued 10)).events = ⟨List.replicate 8
    ⟨.bayOnline, .bay 0, 0, 0, 0⟩, 8, 2⟩ := by decide

/-! ### Witnesses: states and operands that meet the hypotheses of each statement, clause by clause -/

/-- Hypotheses of CommandsCompleteKeepingQueue and OutputsInResetAndAfter. -/
theorem witness_reset_low : ({ base with porstLow := true } : State).porstLow = true ∧
    ∀ p straps fans, Instr.clearEvents ≠ .powerOnReset p straps fans :=
  ⟨rfl, fun _ _ _ h => by cases h⟩

theorem witness_SettingsChangeOnlyByRequests : (∃ t, exec .tachWindowEnd base = .next t) ∧
    (∀ p straps fans, Instr.tachWindowEnd ≠ .powerOnReset p straps fans) ∧
    Instr.tachWindowEnd ≠ .controlFrameExecution :=
  ⟨⟨_, rfl⟩, (fun _ _ _ h => by cases h), fun h => by cases h⟩

/-- Nothing to take; a grant to make; and each first work of an IDLE bay engine, with its lower-ranked work waiting. -/
theorem witness_SettledWorkStaysInItsBlocks :
    (let s := setSupplyEngine (.send (.supplyStatus 0)) base
     (s.ramp.state ≠ .idle ∨ s.ramp.queue = []) ∧ (∀ b, (s.bay b).nextWork.isNone = true) ∧
       s.supplyLink.engine.state ≠ .idle ∧ grantable s = none) ∧
    (let s := { bayIn .admitted with ramp := { base.ramp with queue := [0] } }
     (∀ b, (s.bay b).state = .online → (s.bay b).linkLost = true → (s.bay b).link.slot = none) ∧
       s.ramp.state = .idle ∧ s.ramp.queue = 0 :: [] ∧ (s.bay 0).state = .admitted ∧ grantable s = some 0) ∧
    (let y := ((bayIn .ident).modLink 0 fun l => { l with identRequest := some 0 }).bay 0
     y.state = .ident ∧ y.link.identRequest = some 0 ∧ y.link.engine.state = .idle) ∧
    (let y := ((bayIn .online).modLink 0 fun l => { l with slot := some ⟨200, true⟩, pollDue := true }).bay 0
     y.state = .online ∧ y.linkLost = false ∧ y.link.slot = some ⟨200, true⟩ ∧ y.link.engine.state = .idle) ∧
    (let y := ((bayIn .online).modLink 0 fun l => { l with pollDue := true }).bay 0
     y.state = .online ∧ y.link.slot = none ∧ y.link.pollDue = true ∧ y.link.engine.state = .idle) ∧
    (let y := ((bayIn .stopping).modLink 0 fun l => { l with pendingStop := true, pollDue := true }).bay 0
     y.state = .stopping ∧ y.link.pendingStop = true ∧ y.link.engine.state = .idle) ∧
    (let y := ((bayIn .shedding).modLink 0 fun l => { l with pollDue := true }).bay 0
     y.state = .shedding ∧ y.link.pendingStop = false ∧ y.link.pollDue = true ∧ y.link.engine.state = .idle) := by
  decide

/-- The last part, for an IDLE supply engine: a request of P5 alone, a round that goes on at P5, a due round that begins
at P0, and a due round that polls nothing. -/
theorem witness_SettledWorkStaysInItsBlocks_supplies :
    (let l := { base.supplyLink with identRequests := base.supplyLink.identRequests.set 5 (some 0) }
     l.engine.state = .idle ∧ l.identRequests.get 5 = some 0 ∧ ∀ j, j < 5 → l.identRequests.get j = none) ∧
    (∀ j, base.supplyLink.identRequests.get j = none) ∧ base.supplyLink.round = none ∧
    (let s := base.modSupply 5 fun p => { p with state := .failed }
     (s.supply 5).state = .failed ∧
       ∀ j : SupIx, j < 5 → 5 ≤ j.val → ¬ ((s.supply j).state = .active ∨ (s.supply j).state = .failed)) ∧
    (let s := { base.modSupply 0 (fun p => { p with state := .active }) with
        supplyLink := { base.supplyLink with round := some 1, roundDue := true } }
     (s.supply 0).state = .active ∧ s.supplyLink.roundDue = true ∧ s.supplyLink.round = some 1 ∧
       ∀ j : SupIx, 1 ≤ j.val → ¬ ((s.supply j).state = .active ∨ (s.supply j).state = .failed)) ∧
    (∀ j, ¬ ((base.supply j).state = .active ∨ (base.supply j).state = .failed)) := by decide

theorem witness_EventsAndConditionsKeepTheirLaws :
    EventsOk (sending (.uplinkLinkReport 0 true) (queued 64)) ∧
    ∃ t, step (sending (.uplinkLinkReport 0 true) (queued 64)) = .next t :=
  ⟨by unfold EventsOk; decide, _, rfl⟩

theorem witness_EventsAndConditionsKeepTheirLaws_conditions :
    ConditionsOk (sending (.ackCondition 3 0) (raiseCondition (.fanFault 0) base)) ∧
    ∃ t, step (sending (.ackCondition 3 0) (raiseCondition (.fanFault 0) base)) = .next t :=
  ⟨by unfold ConditionsOk; decide, _, rfl⟩

theorem witness_EnablesFollowState :
    EnablesOk (sending (.bayActionForceOff 0) (bayIn .stopping)) ∧
    ∃ t, step (sending (.bayActionForceOff 0) (bayIn .stopping)) = .next t :=
  ⟨by unfold EnablesOk; decide, _, rfl⟩

/-- Changes of state to another LED pattern and within one, and a command that changes the pattern. -/
theorem witness_EnablesFollowState_led :
    base.porstLow = false ∧ (base.bay 0).state = .empty ∧ ((bayIn .stopping).bay 0).state = .stopping ∧
    (exec (.presenceSample 0 true) base = .next (after (.presenceSample 0 true) base) ∧
      ((after (.presenceSample 0 true) base).bay 0).state = .settling) :=
  ⟨rfl, rfl, rfl, rfl, by decide⟩

/-- A command that leaves a pattern other than the fast blink as it was, with the lists, the channel and the allocations
in order. -/
theorem witness_EnablesFollowState_kept :
    RampOk base ∧ ListsOk base ∧ BudgetOk base ∧ exec (.setEventLimit 9) base = .next (after (.setEventLimit 9) base) ∧
    (base.bay 0).state = .empty ∧ ((after (.setEventLimit 9) base).bay 0).state = .empty :=
  ⟨by unfold RampOk; decide, ⟨by decide, by decide, by decide, .nil, fun _ hb => nomatch hb⟩,
   by unfold BudgetOk; decide, rfl, rfl, by decide⟩

/-- Table 1-8: the third phase of the double flash, from 400 ms to 600 ms, is lit, and the pause after it is dark. -/
theorem test_led_double_flash :
    pinLed 0 { bayIn .fault with now := 599 } = true ∧ pinLed 0 { bayIn .fault with now := 600 } = false := by decide

/-- B0 WAITING with a header, in the waiting list, with the budget for it. -/
def waiting0 : State :=
  funded 500 { (bayIn .waiting).modBay 0 (fun y => { y with header := some blade }) with
    alloc := { base.alloc with waiting := [0] } }

/-- B0 in POWERING with the ramp channel on it. -/
def ramping0 : State :=
  { bayIn .powering with ramp := { base.ramp with state := .ramping 0, iref := 80, rampTimer := some 1500 } }

/-- B1 of priority 5 before B0 and B2 of priority 4, which waited in this order, with B3 in POWERING. -/
def lined0 : State :=
  let s := setState 3 .powering (setState 2 .waiting (setState 1 .waiting (bayIn .waiting)))
  let s := ((s.modBay 0 fun y => { y with waitingStamp := some 1 }).modBay 1 fun y =>
    { y with waitingStamp := some 2, settings := { y.settings with priority := 5 } }).modBay 2 fun y =>
    { y with waitingStamp := some 2 }
  { s with
    alloc := { s.alloc with waiting := [1, 0, 2], nextStamp := 3 }
    ramp := { s.ramp with state := .ramping 3, iref := 80, rampTimer := some 1500 } }

theorem witness_PowerListsHoldTheirBays :
    (RampOk (sending .rampTimerExpiry lined0) ∧ ListsOk (sending .rampTimerExpiry lined0)) ∧
    ∃ t, step (sending .rampTimerExpiry lined0) = .next t := by
  refine ⟨⟨by unfold RampOk; decide, by decide, by decide, by decide,
    by unfold waitsNoLater; decide, ?_⟩, _, rfl⟩
  intro b hb
  have h : b = 1 ∨ b = 0 ∨ b = 2 := by
    simpa [sending, lined0] using hb
  rcases h with rfl | rfl | rfl
  · exact ⟨2, by decide⟩
  · exact ⟨1, by decide⟩
  · exact ⟨2, by decide⟩

/-- B0 ONLINE with 300 W of a budget of 300 W. -/
def full0 : State := funded 300 ((bayIn .online).modBay 0 fun y => { y with header := some blade, alloc := 300 })

theorem witness_AllocationsStayWithinBudget :
    BudgetOk (sending (.setPowerPolicy 2 0 900 0) full0) ∧
    ∃ t, step (sending (.setPowerPolicy 2 0 900 0) full0) = .next t :=
  ⟨by unfold BudgetOk; decide, _, rfl⟩

theorem witness_BudgetFollowsSupplies :
    SuppliesOk (sending (.setSupply 0 900) base) ∧ ∃ t, step (sending (.setSupply 0 900) base) = .next t :=
  ⟨by unfold SuppliesOk; decide, _, rfl⟩

theorem witness_FanOutputHoldsItsFloors :
    OutputsOk (sending (.controlPeriodExpiry 0) base) ∧
    ∃ t, step (sending (.controlPeriodExpiry 0) base) = .next t :=
  ⟨by unfold OutputsOk; decide, _, rfl⟩

theorem witness_StationTableKeepsItsLaws :
    StationsOk (sending (.bayPortFrame 0 (frame host host)) open0) ∧
    ∃ t, step (sending (.bayPortFrame 0 (frame host host)) open0) = .next t := by
  have h : ∀ i, (sending (.bayPortFrame 0 (frame host host)) open0).stations.entries.get i = none :=
    fun i => Tab.get_fill _ i
  refine ⟨⟨?_, ?_, ?_⟩, _, rfl⟩
  · intro i j e f he; rw [h i] at he; cases he
  · intro i e he; rw [h i] at he; cases he
  · intro i e he; rw [h i] at he; cases he

theorem witness_ActiveUplinkIsUpAndNamed :
    ActiveUplinksOk (sending (.uplinkLinkReport 0 false) open0) ∧
    ∃ t, step (sending (.uplinkLinkReport 0 false) open0) = .next t :=
  ⟨by unfold ActiveUplinksOk; decide, _, rfl⟩

/-- A blade header with a version, a kind, a block count, power A of `a` × 256 + 44 W, power B of 100 W and flags, whose
bytes have the exclusive or 0. -/
def headerWith (version kind n a flags : Byte) : List Byte :=
  let d : List Byte := [version, kind, n, a, 44, 0, 100, flags, 0, 0, 0, 0, 0, 0, 0]
  d ++ [d.foldl (· ^^^ ·) 0]
/-- A good one of `n` blocks: 300 W at most and 100 W at least, cappable, of class 2. -/
def headerOf (n : Byte) : List Byte := headerWith 1 1 n 1 5
/-- The check byte of a block (R44). -/
def checkOf (d : List Byte) : Byte := 0 - d.foldl (· + ·) 0

/-- The record of B0 in slots 0 and 1: the slots. -/
def slot0 : Slot := ⟨some (.bay 0), 0, false, .valid, headerOf 2⟩
def slot1 : Slot := ⟨some (.bay 0), 1, true, .reading, List.replicate 16 0⟩
/-- B0 in OFF with that record. -/
def stored0 : State :=
  { (bayIn .off).modBay 0 (fun y => { y with record := some .complete }) with
    store := { base.store with slots := (base.store.slots.set 0 slot0).set 1 slot1 } }

theorem stored0_slot (i : Fin 128) :
    stored0.store.slots.get i = if i = 1 then slot1 else if i = 0 then slot0 else Slot.free := by
  show (((Tab.fill 128 Slot.free).set 0 slot0).set 1 slot1).get i = _
  rw [Tab.get_set, Tab.get_set, Tab.get_fill]

theorem stored0_ok : StoreOk stored0 := by
  have hr : ∀ o, readOf o stored0 = none := by
    rintro (b | i)
    · revert b; decide
    · revert i; decide
  refine ⟨?_, ?_, ?_, ?_, by decide, by decide, fun o r h => by rw [hr o] at h; cases h⟩
  · intro i o h
    rw [stored0_slot] at h ⊢
    split at h
    · next e =>
      subst e
      cases h
      exact ⟨rfl, fun _ => ⟨0, rfl, by rw [stored0_slot]; exact ⟨rfl, rfl⟩⟩, fun h => by cases h⟩
    · next e =>
      split at h
      · next e' =>
        subst e'
        cases h
        exact ⟨rfl, (fun h => absurd h (by decide)), fun _ => ⟨rfl, by decide⟩⟩
      · cases h
  · intro i j o h g e
    rw [stored0_slot] at h
    rw [stored0_slot] at g
    rw [stored0_slot, stored0_slot] at e
    split at h
    · next hi =>
      split at g
      · next hj => rw [hi, hj]
      · split at g
        · next hj => subst hi; subst hj; cases e
        · cases g
    · split at h
      · next hi =>
        split at g
        · next hj => subst hi; subst hj; cases e
        · split at g
          · next hj => rw [hi, hj]
          · cases g
      · cases h
  · intro i b h
    rw [stored0_slot] at h
    have e : b = 0 := by
      split at h
      · cases h; rfl
      · split at h
        · cases h; rfl
        · cases h
    rw [e]
    decide
  · intro i j h
    rw [stored0_slot] at h
    split at h
    · cases h
    · split at h <;> cases h

theorem witness_StoreKeepsItsRecords :
    StoreOk (sending (.presenceSample 0 false) stored0) ∧
    ∃ t, step (sending (.presenceSample 0 false) stored0) = .next t := ⟨stored0_ok, _, rfl⟩

theorem witness_AgentAndCompositesKeepTheirLaws :
    AgentOk (sending .silenceTimerExpiry (managed true base)) ∧
    (∃ t, step (sending .silenceTimerExpiry (managed true base)) = .next t) ∧
    CompositesOk (sending (.armComposite 0) base) ∧ ∃ t, step (sending (.armComposite 0) base) = .next t :=
  ⟨⟨by decide, by decide, (fun a h => by cases h), rfl, (fun h => by cases h), 0, rfl⟩, ⟨_, rfl⟩,
    by unfold CompositesOk; decide, _, rfl⟩

/-- The first clause with U0 UP and DOWN, and each case of the second. -/
theorem witness_AttentionFrameAnnouncesEvents :
    (base.events.queue = [] ∧ (queued 1).events.queue ≠ []) ∧
    (∀ up, (managed up (queued 1)).agent.managed = true ∧ (managed up (queued 1)).agent.manager = some chief ∧
      ((managed up (queued 1)).uplink chief.uplink).up = up) ∧
    (queued 1).events.queue ≠ [] ∧ base.events.queue = [] ∧ base.agent.managed = false := by decide

/-- A queue at its limit of 64 and one below it. -/
theorem witness_EventRequestsAct :
    base.porstLow = false ∧ (queued 64).porstLow = false ∧ (queued 64).events.queue.length ≤ 64 ∧
    (queued 63).events.queue.length < (queued 63).events.limit ∧
    (queued 64).events.limit ≤ (queued 64).events.queue.length := by decide

theorem witness_AckConditionByCase :
    let s := raiseCondition (.fanFault 5) base
    s.porstLow = false ∧ ((0 : Byte).toNat = 0 ∨ 5 < (0 : Byte).toNat) ∧ 5 < (6 : Byte).toNat ∧
    ([14, 3, 6, 6, 12].getD ((1 : Byte).toNat - 1) 0) ≤ (14 : Byte).toNat ∧
    ([14, 3, 6, 6, 12].getD ((5 : Byte).toNat - 1) 0) ≤ (12 : Byte).toNat ∧
    (∀ c ∈ s.conditions, c.key ≠ .bayFault 0) ∧ ∃ c ∈ s.conditions, c.key = .fanFault 5 := by decide

theorem witness_QueriesChangeNothing :
    base.porstLow = false ∧ 13 < (14 : Byte).toNat ∧ base.conditions.length ≤ 41 := by decide

/-- Bays at the boundaries of the run counts: 19 and 18 present samples, 1 and no absent one. -/
theorem witness_BaySamplesAct :
    (base.bay 0).state = .empty ∧ ((bayIn .settling).bay 0).state = .settling ∧
    ((bayIn .settling).bay 0).presentRun + 1 < 20 ∧
    20 ≤ (((bayIn .settling).modBay 0 fun y => { y with presentRun := 19 }).bay 0).presentRun + 1 ∧
    ((bayIn .ident).bay 0).state ≠ .empty ∧ ((bayIn .ident).bay 0).state ≠ .settling ∧
    ((bayIn .ident).bay 0).absentRun = 0 ∧
    1 ≤ (((bayIn .ident).modBay 0 fun y => { y with absentRun := 1 }).bay 0).absentRun ∧
    (bayIn .ident).porstLow = false := by decide

theorem witness_RemovalReleasesEverything :
    StationsOk stored0 ∧ RampOk stored0 ∧ StoreOk stored0 := by
  have h : ∀ i, stored0.stations.entries.get i = none := fun i => Tab.get_fill _ i
  refine ⟨⟨?_, ?_, ?_⟩, by unfold RampOk; decide, stored0_ok⟩
  · intro i j e f he; rw [h i] at he; cases he
  · intro i e he; rw [h i] at he; cases he
  · intro i e he; rw [h i] at he; cases he

/-- A POWERING blade, with a settle time and without one, and one that is not POWERING. -/
theorem witness_RemovalReleasesEverything_ramp :
    (ramping0.bay 0).state = .powering ∧ ramping0.ramp.settleTime ≠ 0 ∧
    ({ ramping0 with ramp := { ramping0.ramp with settleTime := 0 } } : State).ramp.settleTime = 0 ∧
    (stored0.bay 0).state ≠ .powering := by decide

/-- B0 in a state with an attention history. -/
def pushed (st : BayState) (a : Attention) : State := (bayIn st).modBay 0 fun y => { y with attention := a }

theorem witness_BaySamplesAct_button :
    ((bayIn .empty).bay 0).state = .empty ∧ ((bayIn .settling).bay 0).state = .settling ∧
    (let y := (pushed .off ⟨2, 0, false, 0, 0⟩).bay 0;
      y.state = .off ∧ y.attention.pressed = false ∧ 3 ≤ y.attention.pressedRun + 1 ∧
      y.settings.pressToStart = true) ∧
    (let y := (pushed .off ⟨1, 0, false, 0, 0⟩).bay 0;
      y.state = .off ∧ y.attention.pressed = false ∧ y.attention.pressedRun + 1 < 3) ∧
    (let y := (pushed .online ⟨399, 0, true, 3990, 0⟩).bay 0;
      y.state = .online ∧ y.attention.pressed = true ∧ y.attention.timeHeld + 10 = 4000 + 2000 * 0 ∧
      min (y.attention.holdCount + 1) 255 = 1) ∧
    (let y := (pushed .stopping ⟨599, 0, true, 5990, 1⟩).bay 0;
      y.state.forwarding = true ∧ y.attention.pressed = true ∧ y.attention.timeHeld + 10 = 4000 + 2000 * 1 ∧
      min (y.attention.holdCount + 1) 255 = 2) ∧
    (let y := (pushed .fault ⟨0, 2, true, 7990, 2⟩).bay 0;
      y.state = .fault ∧ y.attention.pressed = true ∧ 3 ≤ y.attention.releasedRun + 1 ∧
      y.attention.timeHeld + 10 = 4000 + 2000 * 2) ∧ (pushed .off ⟨2, 0, false, 0, 0⟩).porstLow = false := by decide

/-- Samples of the pressed condition with no hold due, that end the push and that do not. -/
theorem witness_BaySamplesAct_no_hold :
    (∀ k, ¬ ((pushed .fault ⟨0, 2, true, 3980, 0⟩).bay 0).attention.timeHeld + 10 = 4000 + 2000 * k) ∧
    ((pushed .fault ⟨0, 2, true, 3980, 0⟩).bay 0).attention.releasedRun + 1 = 3 ∧
    ((pushed .fault ⟨0, 1, true, 4000, 1⟩).bay 0).attention.releasedRun + 1 = 2 ∧
    (∀ k, ¬ ((pushed .fault ⟨0, 1, true, 4000, 1⟩).bay 0).attention.timeHeld + 10 = 4000 + 2000 * k) := by
  refine ⟨fun k h => ?_, by decide, by decide, fun k h => ?_⟩
  · have h : 3990 = 4000 + 2000 * k := h
    omega
  · have h : 4010 = 4000 + 2000 * k := h
    omega

theorem witness_BayActionByState :
    base.porstLow = false ∧ 13 < (14 : Byte).toNat ∧ ((bayIn .online).bay 0).state = .online ∧
    4 < (5 : Byte).toNat ∧ (13 : Byte).toNat = (13 : BayIx).val := by decide

/-- Out of range; a bad group; and the settings named by a request that selects priority, zone and alternate: a zone
change of an ONLINE bay, one to a zone below the floor, one that is accepted, and the present zone of a WAITING bay. -/
theorem witness_SetBayChecksThenChanges :
    base.porstLow = false ∧ 13 < (14 : Byte).toNat ∧ ((0x40 : Byte).getLsbD 6 && 15 < (16 : Byte).toNat) = true ∧
    (let old := (base.bay 0).settings
     let new : BaySettings := { old with priority := 7, zone := 1, alternate := none }
     new.priority = min (9 : Byte).toNat 7 ∧ (1 : Byte).toNat = new.zone.val ∧
       (255 : Byte).toNat = new.alternate.elim 255 (·.val) ∧ (0x29 : Byte).getLsbD 0 = true ∧
       (0x29 : Byte).getLsbD 3 = true ∧ (0x29 : Byte).getLsbD 5 = true ∧ (0x29 : Byte).getLsbD 1 = false ∧
       new.zone ≠ old.zone) ∧
    ((bayIn .online).bay 0).state.zoneChangeable = false ∧ ((bayIn .off).bay 0).state.zoneChangeable = true ∧
    (let s := ((bayIn .off).modBay 0 fun y => { y with header := some blade }).modZone 1 fun x =>
        { x with settings := { x.settings with cooling2 := 99 } }
     (s.bay 0).header = some blade ∧ (s.zone 1).settings.cooling2 < blade.floorWatts) ∧
    ¬ (base.zone 1).settings.cooling2 < blade.floorWatts ∧ ((bayIn .waiting).bay 0).state = .waiting := by decide

theorem witness_ResponsesAreReceivedAndJudged :
    let e : Engine := ⟨.awaitStart, some .status, false, some 50, none, some 9, [1]⟩
    fits .status [2, 0, 25, 0, 100] = true ∧ e.state = .awaitStart ∧ e.inFlight = some .status := by decide

theorem witness_ResponsesAreReceivedAndJudged_characters :
    base.porstLow = false ∧
    (engineOf (.bay 0) (engine0 .awaitStart .status base)).state = .awaitStart ∧
    (engineOf (.bay 0) (engine0 .receiving .status base)).state = .receiving ∧
    (engineOf (.bay 0) (engine0 .receiving .status base)).rxLength = none ∧
    (engineOf (.bay 0) (engine0 .receiving .status base)).inFlight = some .status ∧
    Txn.status.responseLength < (6 : Byte).toNat ∧ parityBit 6 = false ∧ parityBit 0x5A = false ∧
    true ≠ parityBit 0x5A ∧
    (engineOf (.bay 0) base).state = .idle ∧
    (engineOf (.bay 0) (engine0 .sending .status base)).state = .sending ∧
    (engineOf (.bay 0) (engine0 .quiet .status base)).state = .quiet ∧
    (5 : Byte).toNat ≤ Txn.status.responseLength ∧ parityBit 5 = false ∧
    ((0x5B : Byte) ≠ 0x5A ∧ parityBit 0x5B = true) := by decide

/-- Characters after the length: a payload byte, and check bytes with a bad sum, of a frame that does not fit its
transaction (a run state above 2, and a short length) and of one that does. -/
theorem witness_ResponsesAreReceivedAndJudged_check :
    (let s := setEngine (.bay 0) ⟨.receiving, some .status, false, some 50, none, some 5, [2, 0, 25, 0]⟩ base
     (engineOf (.bay 0) s).rxLength = some 5 ∧ (engineOf (.bay 0) s).rx.length < (5 : Byte).toNat) ∧
    ((5 : Byte).toNat ≤ ([2, 0, 25, 0, 100] : List Byte).length ∧
      ([2, 0, 25, 0, 100] : List Byte).foldl (· + ·) 5 + 0x7C = 0 ∧
      ([2, 0, 25, 0, 100] : List Byte).foldl (· + ·) 5 + 0x7D ≠ 0 ∧ fits .status [2, 0, 25, 0, 100] = true) ∧
    (fits .status [2, 3, 25, 0, 100] = false ∧ fits .status [2, 0, 25, 0] = false) := by decide

theorem witness_LinkTimersAct :
    (engineOf (.bay 0) (engine0 .sending .status base)).state = .sending ∧
    ((engineOf (.bay 0) (engine0 .awaitStart .status base)).state = .awaitStart ∧
      (engineOf (.bay 0) (engine0 .awaitStart .status base)).timer = some 50) ∧
    ((engineOf (.bay 0) (engine0 .receiving .status base)).state = .receiving ∧
      (engineOf (.bay 0) (engine0 .receiving .status base)).timer = some 50) ∧
    ((engineOf (.bay 0) (engine0 .quiet .status base)).timer = some 50 ∧
      (engineOf (.bay 0) (engine0 .quiet .status base)).silence = some 2) ∧
    (let s := (bayIn .online).modLink 0 fun l => { l with pollTimer := some 1000 };
      (s.bay 0).state.forwarding = true ∧ (s.bay 0).link.pollTimer = some 1000 ∧ s.porstLow = false) := by decide

/-- B0 in a state with its link as `f` leaves it. -/
def linked0 (st : BayState) (f : Bay → Bay) : Bay := ((bayIn st).modBay 0 f).bay 0

/-- A last character that ends a STATUS response on a bay link, and one on the supply link. -/
theorem witness_response_ends :
    (let e : Engine := ⟨.receiving, some .status, false, some 50, none, some 5, [2, 2, 25, 0, 100]⟩
     e.onChar 0 ⟨frameCheck [2, 2, 25, 0, 100], parityBit (frameCheck [2, 2, 25, 0, 100]), true⟩
       = .done [2, 2, 25, 0, 100] ∧ e.inFlight = some .status) ∧
    (let e : Engine := ⟨.receiving, some (.supplyStatus 5), false, some 50, none, some 3, [5, 2, 3]⟩
     let s := setSupplyEngine e base
     s.supplyLink.engine.inFlight = some (.supplyStatus 5) ∧ s.porstLow = false ∧
       s.supplyLink.engine.onChar s.now ⟨frameCheck [5, 2, 3], parityBit (frameCheck [5, 2, 3]), true⟩
         = .done [5, 2, 3]) := ⟨⟨rfl, rfl⟩, rfl, rfl, rfl⟩

/-- Each case of a failed poll and of a failed CAP, an acknowledgement at
the level and above it, and each outcome of a READY_OFF. -/
theorem witness_BayLinkOutcomesAct :
    byteAt [2, 2, 25, 0, 100] 1 = BitVec.ofNat 8 RunState.readyOff.code ∧
    ((linked0 .off id).state.forwarding = false ∧ (linked0 .online id).state.forwarding = true) ∧
    (let y := linked0 .online fun y => { y with link := { y.link with failedPolls := 1 } }
     y.linkLost = false ∧ min (y.link.failedPolls + 1) 3 < 3) ∧
    (let y := linked0 .online fun y => { y with link := { y.link with failedPolls := 2 } }
     y.linkLost = false ∧ min (y.link.failedPolls + 1) 3 = 3) ∧
    (linked0 .shedding fun y => { y with linkLost := true }).linkLost = true ∧
    ((linked0 .online id).state = .online ∧ (linked0 .online id).link.slot = none) ∧
    (linked0 .online fun y => { y with link := { y.link with slot := some ⟨200, false⟩ } }).link.slot ≠ none ∧
    ((linked0 .ident id).state = .ident ∧ (linked0 .stopping id).state = .stopping) ∧
    (let y := linked0 .shedding id
     y.state = .shedding ∧ y.settings.autoPower = true ∧ y.stopRequested = false) ∧
    (linked0 .shedding fun y => { y with stopRequested := true }).stopRequested = true ∧
    ((wordAt [3, 0, 200] 1).toNat ≤ 200 ∧ 199 < (wordAt [3, 0, 200] 1).toNat) ∧
    (linked0 .online fun y => { y with lastDecided := some 200 }).lastDecided = some 200 ∧
    (linked0 .online id).lastDecided ≠ some 200 := by decide

/-- B0 OFF with a complete record of two blocks at slot 0. -/
def recorded0 (st : RecordState) : State :=
  (reserveAt (.bay 0) 0 2 (bayIn .off)).modBay 0 fun y => { y with record := some st }

theorem witness_ReadIdentityByCase :
    base.porstLow = false ∧ ((3 : Byte) ≠ 1 ∧ (3 : Byte) ≠ 2) ∧ 13 < (14 : Byte).toNat ∧ 5 < (6 : Byte).toNat ∧
    ownerOf 1 0 = some (some (.bay 0)) ∧ 11 < (12 : Byte).toNat ∧ (11 : Byte).toNat ≤ 11 ∧
    (readOf (.bay 0) (enterIdent 0 base)).isSome = true ∧
    (readOf (.bay 0) base = none ∧ recordOf (.bay 0) base = none) ∧
    recordOf (.bay 0) (base.modBay 0 fun y => { y with record := some .notStored }) = some .notStored ∧
    (recordOf (.bay 0) (recorded0 .complete) = some .complete ∧ readOf (.bay 0) (recorded0 .complete) = none) ∧
    (recordOf (.bay 0) (recorded0 .partialRecord) = some .partialRecord ∧
      readOf (.bay 0) (recorded0 .partialRecord) = none) := by decide

theorem witness_ReadIdentityByCase_slots (st : RecordState) :
    ∃ start slots, recordSlots (.bay 0) (recorded0 st) = some (start, slots) ∧ slots.length ≤ 12 := by
  cases st <;> exact ⟨0, _, rfl, by decide⟩

/-- B0 in IDENT with its read as `r`. -/
def reading0 (r : IdRead) : State := (bayIn .ident).modBay 0 fun y => { y with read := some r }

theorem witness_IdentityReadGoesBlockByBlock_judged :
    let d := headerOf 12
    judgeBlock (.ok (d, checkOf d)) = .ok d ∧ judgeBlock (.ok (d, checkOf d + 1)) = .error .badBlock ∧
    judgeBlock (.error .parity) = .error .parity := ⟨rfl, rfl, rfl⟩

/-- A header block that is accepted, of 12 and of 1 blocks; one for each check that is the first to fail; a good block
and a failed one in each phase, at the boundaries of the retry list. -/
theorem witness_IdentityReadGoesBlockByBlock :
    (let d := headerOf 12
     byteAt d 0 = 1 ∧ byteAt d 1 = 1 ∧ (byteAt d 2).toNat = 12 ∧ d.foldl (· ^^^ ·) 0 = 0 ∧
       (wordAt d 3).toNat = 300 ∧ (wordAt d 5).toNat = 100 ∧ (byteAt d 7).getLsbD 0 = true) ∧
    (byteAt (headerWith 2 1 12 1 5) 0 ≠ 1 ∧ byteAt (headerWith 1 2 12 1 5) 1 ≠ 1 ∧
      (byteAt (headerOf 13) 2).toNat = 13 ∧ ((headerOf 12).set 9 1).foldl (· ^^^ ·) 0 ≠ 0 ∧
      (headerWith 1 1 12 8 5).foldl (· ^^^ ·) 0 = 0 ∧ (wordAt (headerWith 1 1 12 8 5) 3).toNat = 2092 ∧
      (let d := headerWith 1 1 12 1 4
       d.foldl (· ^^^ ·) 0 = 0 ∧ (byteAt d 7).getLsbD 0 = false ∧ (wordAt d 3).toNat = 300 ∧ (wordAt d 5).toNat = 100)) ∧
    readOf (.bay 0) base = none ∧
    (let r := IdRead.start
     readOf (.bay 0) (reading0 r) = some r ∧ r.phase = .header ∧ r.attempts = 0 ∧ ({ r with attempts := 1 }).attempts = 1) ∧
    ¬ ((reading0 IdRead.start).zone 0).settings.cooling2 < 100 ∧
    (let s := (reading0 IdRead.start).modZone 0 fun x => { x with settings := { x.settings with cooling2 := 99 } }
     (s.zone (s.bay 0).settings.zone).settings.cooling2 < 100) ∧
    (reserve (.bay 0) 12 (reading0 IdRead.start)).isSome = true ∧
    (let s := reading0 IdRead.start
     (reserve (.bay 0) 12 { s with store := { s.store with slots := .fill 128 slot1 } }).isNone = true) ∧
    (let r : IdRead := ⟨.pass1, 1, some 12, 10, [1, 2, 3, 4, 5, 6, 7], 0, true⟩
     readOf (.bay 0) (reading0 r) = some r ∧ r.phase = .pass1 ∧ r.nextBlock + 1 < 12 ∧ r.retry.length < 8 ∧
       12 ≤ ({ r with nextBlock := 11 }).nextBlock + 1 ∧ 8 ≤ ({ r with retry := r.retry ++ [8] }).retry.length) ∧
    (let r : IdRead := ⟨.pass2, 1, some 12, 12, [3, 7], 0, true⟩
     readOf (.bay 0) (reading0 r) = some r ∧ r.phase = .pass2 ∧ r.retry = 3 :: [7]) ∧
    (bayIn .ident).porstLow = false := by decide

/-- A free store; one whose free slots 1 and 3 stand apart, so that a record of 2 compacts it; and a full one. -/
def gapped0 : State :=
  { base with store := { base.store with slots := ((Tab.fill 128 slot1).set 1 Slot.free).set 3 Slot.free } }

theorem witness_StoreReservesCompactsAndFrees :
    ((∀ i, (base.store.slots.get i).owner = none) ∧ (0 : Nat) + 12 ≤ 128) ∧
    (∀ i j : Fin 128, j.val = i.val + 1 →
      ¬ ((gapped0.store.slots.get i).owner = none ∧ (gapped0.store.slots.get j).owner = none)) ∧
    2 ≤ freeSlots gapped0 ∧ freeSlots gapped0 < 3 ∧ largestFreeRun gapped0 = 1 ∧
    StoreOk stored0 := by
  refine ⟨⟨fun i => ?_, by decide⟩, fun i j h => ?_, by decide, by decide, by decide,
    stored0_ok⟩
  · rw [show base.store.slots.get i = Slot.free from Tab.get_fill _ i]; rfl
  · have g : ∀ i, gapped0.store.slots.get i = if i = 3 then Slot.free else if i = 1 then Slot.free else slot1 := by
      intro i
      show (((Tab.fill 128 slot1).set 1 Slot.free).set 3 Slot.free).get i = _
      rw [Tab.get_set, Tab.get_set, Tab.get_fill]
    have a : ∀ k : Fin 128, (gapped0.store.slots.get k).owner = none → k = 3 ∨ k = 1 := by
      intro k e
      rw [g k] at e
      by_cases h3 : k = 3
      · exact .inl h3
      · by_cases h1 : k = 1
        · exact .inr h1
        · rw [if_neg h3, if_neg h1] at e; cases e
    rintro ⟨hi, hj⟩
    rcases a i hi with rfl | rfl <;> rcases a j hj with rfl | rfl <;>
      exact absurd h (by decide)

theorem witness_SupplySamplesAct :
    (base.supply 0).state = .absent ∧ (base.supply 0).presentRun < 19 ∧
    19 ≤ ((base.modSupply 0 fun p => { p with presentRun := 19 }).supply 0).presentRun ∧
    ((base.modSupply 0 fun p => { p with state := .unread }).supply 0).state ≠ .absent ∧
    ((base.modSupply 0 fun p => { p with state := .unread }).supply 0).absentRun = 0 ∧
    1 ≤ ((base.modSupply 0 fun p => { p with state := .unread, absentRun := 1 }).supply 0).absentRun ∧
    true ≠ (base.supply 0).dcOk ∧ (base.supply 0).dcOkRun < 2 ∧
    2 ≤ ((base.modSupply 0 fun p => { p with dcOkRun := 2 }).supply 0).dcOkRun ∧ base.porstLow = false := by decide

/-- Each state a poll meets, a block in flight, and each outcome of a recomputation of B. -/
theorem witness_SupplySamplesAct_outcomes :
    (let s := base.modSupply 0 fun p => { p with state := .active, dcOk := false }
     (s.supply 0).state = .active ∧ (s.supply 0).dcOk = false) ∧
    (let s := base.modSupply 0 fun p => { p with state := .failed, dcOk := true }
     (s.supply 0).state = .failed ∧ (s.supply 0).dcOk = true ∧ (s.supply 0).state ≠ .active) ∧
    (setSupplyEngine (.send (.supplyReadBlock 5 1)) base).supplyLink.engine.inFlight = some (.supplyReadBlock 5 1) ∧
    (let b := fun s : State => rawCapacity s.alloc.mode (fun i => (s.supply i).counted) - s.alloc.overhead
     let grid : State := { base.modSupply 0 (fun p => { p with counted := 1000 }) with
       alloc := { base.alloc with mode := .none } }
     b base = base.alloc.budget ∧ grid.alloc.budget < b grid ∧
       (b full0 < full0.alloc.budget ∧ b full0 < nonShedding none full0) ∧
       (b (funded 1 base) < (funded 1 base).alloc.budget ∧ nonShedding none (funded 1 base) ≤ b (funded 1 base))) := by
  decide

/-- Each way a selection names the mode, and clamps at both ends. -/
theorem witness_PowerSettingsApply :
    base.porstLow = false ∧ 5 < (6 : Byte).toNat ∧ (1 : Byte).getLsbD 0 = true ∧ 2 < (3 : Byte).toNat ∧
    ((7 : Byte).getLsbD 0 = true ∧ (2 : Byte).toNat = RedundancyMode.grid.code) ∧ (6 : Byte).getLsbD 0 = false ∧
    min (3001 : BitVec 16).toNat 3000 ≠ base.alloc.overhead ∧ 60 < (61 : BitVec 16).toNat := by decide

/-- A blade of 300 W at most and 100 W at least met by enough for it, by enough for a cap, by too little in the chassis,
and by too little in its zone; and an ONLINE bay with and without room to rise. -/
theorem witness_AdmissionAndUncapPassesAct :
    (let head := fun s : State => (headroom none s, headroom (some 0) s)
     let zoned : State := (waiting0).modZone 0 fun x => { x with limit := 99 }
     (waiting0.bay 0).header = some blade ∧ (waiting0.bay 0).state = .waiting ∧ waiting0.alloc.waiting = 0 :: [] ∧
       (0 : ZoneIx) ∉ ([1, 2] : List ZoneIx) ∧ blade.cappable = true ∧
       (300 ≤ (head waiting0).1 ∧ 300 ≤ (head waiting0).2) ∧
       (head (funded 299 waiting0)).1 = 299 ∧ (head (funded 100 waiting0)).1 = 100 ∧
       (head (funded 99 waiting0)).1 = 99 ∧ (head zoned).1 = 500 ∧ (head zoned).2 = 99) ∧
    (full0.bay 0).header = some blade ∧
    (let s := funded 301 (full0.modBay 0 fun y => { y with alloc := 299 })
     min (((300 - (s.bay 0).alloc : Nat)) : Int) (min (headroom none s) (headroom (some 0) s)) = 1) ∧
    (min (((300 - (full0.bay 0).alloc : Nat)) : Int) (min (headroom none full0) (headroom (some 0) full0)) ≤ 0) := by
  decide

/-- Deficits of the chassis and of a zone and none, and a bay for each step. -/
theorem witness_ShedPassCoversItsDeficits :
    (deficit none full0 ≤ 0 ∧ ∀ z, deficit (some z) full0 ≤ 0) ∧
    deficit none (funded 200 full0) = 100 ∧
    deficit (some 0) (full0.modZone 0 fun x => { x with limit := 299 }) = 1 ∧
    (∀ b, (full0.bay b).alloc ≠ 0 → (full0.bay b).state.allocated = true) ∧
    ((full0.bay 0).header = some blade ∧ blade.cappable = true ∧ blade.floorWatts < (full0.bay 0).alloc ∧
      ((full0.modBay 0 fun y => { y with alloc := 100 }).bay 0).alloc ≤ blade.floorWatts) ∧
    (((bayIn .stopping).modBay 0 fun y => { y with deadline := some 120000 }).bay 0).deadline = some 120000 ∧
    (ramping0.bay 0).state = .powering := by decide

theorem witness_PowerOffReleasesTheBay :
    (ramping0.bay 0).state.mainPowered = true ∧ (ramping0.bay 0).state = .powering ∧ ramping0.ramp.settleTime ≠ 0 ∧
    ({ ramping0 with ramp := { ramping0.ramp with settleTime := 0 } } : State).ramp.settleTime = 0 ∧
    ((bayIn .shedding).bay 0).state.forwarding = true ∧ ((bayIn .shedding).bay 0).state.mainPowered = true ∧
    ((bayIn .shedding).bay 0).state ≠ .powering := by decide

/-- Entry to FAULT without main power; with room for one event, and with none. -/
theorem witness_PowerOffReleasesTheBay_fault :
    ((bayIn .ident).bay 0).state.mainPowered = false ∧
    (queued 63).events.queue.length < (queued 63).events.limit ∧
    (queued 64).events.limit ≤ (queued 64).events.queue.length := by decide

theorem witness_PowerTimersAct :
    (ramping0.ramp.state = .ramping 0 ∧ ramping0.ramp.rampTimer = some 1500 ∧ (ramping0.bay 0).state = .powering) ∧
    ({ base.ramp with settleTimer := some 250 } : RampChannel).settleTimer = some 250 ∧
    (let s := (bayIn .stopping).modBay 0 fun y => { y with deadline := some 120000 };
      (s.bay 0).state = .stopping ∧ (s.bay 0).deadline = some 120000) ∧
    (let s := (bayIn .shedding).modBay 0 fun y => { y with deadline := some 30000 };
      (s.bay 0).state = .shedding ∧ (s.bay 0).deadline = some 30000) ∧
    (let s := (bayIn .online).modBay 0 fun y => { y with capTimer := some 5000 };
      (s.bay 0).capTimer = some 5000 ∧ s.porstLow = false) := by decide

theorem witness_GrantThenPowerGood :
    (let s := { (bayIn .admitted).modBay 0 (fun y => { y with header := some blade }) with
        ramp := { base.ramp with queue := [0] } };
      s.ramp.state = .idle ∧ s.ramp.queue = 0 :: [] ∧ (s.bay 0).state = .admitted ∧
      (s.bay 0).header = some blade) ∧
    (base.bay 0).mainEnable = false ∧
    (let s := ramping0.modBay 0 fun y => { y with pgoodHigh := 1 };
      (s.bay 0).mainEnable = true ∧ (s.bay 0).state = .powering ∧ (s.bay 0).pgoodHigh = 1 ∧
      s.ramp.rampTimer.isSome = true) ∧
    (let s := (bayIn .shedding).modBay 0 fun y => { y with pgoodLow := 1 };
      (s.bay 0).mainEnable = true ∧ (s.bay 0).state.forwarding = true ∧ (s.bay 0).pgoodLow = 1) ∧
    ((ramping0.bay 0).mainEnable = true ∧ (ramping0.bay 0).pgoodHigh = 0) ∧
    (open0.uplink (open0.bay 0).settings.primary).up = true ∧
    (let s := base.modUplink 1 fun x => { x with up := true };
      (s.uplink (s.bay 0).settings.primary).up = false ∧ (s.bay 0).settings.alternate = some 1 ∧
      (s.uplink 1).up = true) ∧
    ((base.uplink (base.bay 0).settings.primary).up = false ∧
      ∀ u, (base.bay 0).settings.alternate = some u → (base.uplink u).up = false) ∧
    (let s := ramping0.modBay 0 fun y => { y with header := some blade, alloc := 299 };
      (s.bay 0).alloc < (s.bay 0).maxWatts) ∧
    (let s := ramping0.modBay 0 fun y => { y with header := some blade, alloc := 300 };
      (s.bay 0).maxWatts ≤ (s.bay 0).alloc) := by decide

/-- Codes 1 and 4094, and each status with each run count. -/
theorem witness_InRangeCodeIsConverted :
    1 ≤ (1 : BitVec 12).toNat ∧ (4094 : BitVec 12).toNat ≤ 4094 ∧ (base.sensor 0).status = .initial ∧
    ((base.modSensor 0 fun x => { x with status := .faulted }).sensor 0).inRangeRun = 0 ∧
    1 ≤ ((base.modSensor 0 fun x => { x with status := .faulted, inRangeRun := 1 }).sensor 0).inRangeRun ∧
    base.events.queue.length < base.events.limit := by decide

/-- Both rail codes, and a first and a second one in each status. -/
theorem witness_SecondRailCodeFaultsTheChannel :
    (((0 : BitVec 12) = 0 ∨ (0 : BitVec 12) = 4095) ∧ ((4095 : BitVec 12) = 0 ∨ (4095 : BitVec 12) = 4095)) ∧
    (base.sensor 0).railRun = 0 ∧ (base.sensor 0).status = .initial ∧
    1 ≤ ((base.modSensor 0 fun x => { x with railRun := 1, status := .valid }).sensor 0).railRun ∧
    ((base.modSensor 0 fun x => { x with railRun := 2, status := .faulted }).sensor 0).status = .faulted ∧
    base.events.queue.length < base.events.limit := by decide

theorem witness_ConversionSlotEnds :
    base.porstLow = false ∧
    (base.converter.converting = some 0 ∧ base.converter.discarded = false ∧ (base.sensor 0).status ≠ .disabled) ∧
    (disableSensor 0 base).converter.discarded = true ∧
    ({ base.converter with converting := none } : Converter).converting = none ∧
    (beginSlot base).converter.converting = some 1 ∧
    (∀ d, ((base.sensors.map fun x => { x with enabled := false }).get d).enabled = false) := by decide

/-- A VALID channel of Z0 at a temperature, with warn 450 and crit 600, in a zone in a thermal state. -/
def heated (st : ThermalState) (t : Int) : State :=
  (base.modSensor 0 fun x => { x with status := .valid, reading := t }).modZone 0 fun x => { x with thermal := st }

/-- Each change of state at its threshold, with the 20 tenths of CRITICAL, no change, and no reading. -/
theorem witness_ZoneThermalStateFollowsItsReadings :
    evaluateThermal .normal (validSensors 0 (heated .normal 600)) = .critical ∧
    evaluateThermal .normal (validSensors 0 (heated .normal 599)) = .warm ∧
    evaluateThermal .warm (validSensors 0 (heated .warm 449)) = .normal ∧
    evaluateThermal .critical (validSensors 0 (heated .critical 580)) = .critical ∧
    evaluateThermal .critical (validSensors 0 (heated .critical 579)) = .warm ∧
    validSensors 0 base = [] ∧ validSensors 0 (heated .normal 600) ≠ [] ∧
    (∀ x ∈ validSensors 0 (heated .normal 600), -400 ≤ x.reading) := by decide

theorem witness_CurveValueFollowsItsPoints :
    increasing (base.zone 0).curve = true ∧ (∀ p ∈ (base.zone 0).curve, p.duty ≤ 1000) ∧
    (base.zone 0).curve.head? = some ⟨250, 300⟩ ∧ (250 : Int) ≤ 250 ∧
    (base.zone 0).curve.getLast? = some ⟨550, 1000⟩ ∧
    (base.zone 0).curve = [] ++ ⟨250, 300⟩ :: ⟨350, 450⟩ :: [⟨450, 700⟩, ⟨550, 1000⟩] := by decide

theorem witness_ControlPeriodUpdatesTheZone :
    base.porstLow = false ∧ zoneUnhealthy 0 base = false ∧
    outputFloor base.agent.managed (base.zone 0).settings ≤ (base.zone 0).output ∧
    zoneUnhealthy 0 (base.modFan 1 fun x => { x with health := .stalled }) = true := by decide

/-- Demands a slew step and more above and below the output. -/
theorem witness_ControlPeriodUpdatesTheZone_slews :
    (let s := base.modZone 0 fun x => { x with output := 300, settings := { x.settings with slewUp := 10 } }
     zoneUnhealthy 0 s = false ∧ ((after (.controlPeriodExpiry 0) s).zone 0).lastUpdate.any fun d =>
       decide ((s.zone 0).output + (s.zone 0).settings.slewUp ≤ d.demand)) ∧
    (let s := base.modZone 0 fun x => { x with output := 1000 }
     zoneUnhealthy 0 s = false ∧ ((after (.controlPeriodExpiry 0) s).zone 0).lastUpdate.any fun d =>
       decide (d.demand + (s.zone 0).settings.slewDown ≤ (s.zone 0).output)) := by decide

/-- F0 with a health, rpm and run counts. -/
def fan0 (h : FanHealth) (rpm low good : Nat) : State :=
  base.modFan 0 fun x => { x with health := h, rpm := rpm, lowRun := low, goodRun := good }

/-- Each clause at the boundary of its run count, with rpm 599 low and 600 good. -/
theorem witness_FansAreJudgedAndDebounced :
    base.porstLow = false ∧ ((fan0 .absent 0 0 0).fan 0).health = .absent ∧
    ((fan0 .healthy 599 2 0).fan 0).rpm < (base.zone (fanZone 0)).settings.stall ∧
    ¬ ((fan0 .healthy 600 2 0).fan 0).rpm < (base.zone (fanZone 0)).settings.stall ∧
    ((fan0 .healthy 599 1 0).fan 0).lowRun < 2 ∧ 2 ≤ ((fan0 .healthy 599 2 0).fan 0).lowRun ∧
    ((fan0 .returning 600 0 1).fan 0).goodRun < 2 ∧ 2 ≤ ((fan0 .stalled 600 0 2).fan 0).goodRun ∧
    (((fan0 .stalled 600 0 2).modFan 0 fun x => { x with leftAs := some .stall }).fan 0).leftAs = some .stall ∧
    (((fan0 .returning 600 0 2).modFan 0 fun x => { x with leftAs := some .absent }).fan 0).leftAs = some .absent ∧
    base.events.queue.length < base.events.limit := by decide

theorem witness_FansAreJudgedAndDebounced_presence :
    base.porstLow = false ∧ true = (base.fan 0).present ∧ false ≠ (base.fan 0).present ∧
    (base.fan 0).presenceRun < 2 ∧ 2 ≤ ((base.modFan 0 fun x => { x with presenceRun := 2 }).fan 0).presenceRun ∧
    ((fan0 .healthy 0 0 0).fan 0).health = .healthy ∧ ((fan0 .stalled 0 0 0).fan 0).health = .stalled ∧
    (let x := (base.modFan 0 fun x => { x with present := false, presenceRun := 2, health := .absent }).fan 0;
      true ≠ x.present ∧ 2 ≤ x.presenceRun ∧ x.health = .absent) := by decide

/-- The cooling row below a floor, one below it that is not selected, and rows 1 and 10 at and outside their ranges. -/
theorem witness_SetZoneChecksThenChanges :
    base.porstLow = false ∧ 2 < (3 : Byte).toNat ∧ (1 : BitVec 16).getLsbD 0 = true ∧
    (let y := (base.modBay 0 fun y => { y with header := some blade }).bay 0;
      y.settings.zone = 0 ∧ y.header = some blade ∧ max 0 (min 10000 (99 : BitVec 16).toNat) < blade.floorWatts ∧
      ¬ max 0 (min 10000 (100 : BitVec 16).toNat) < blade.floorWatts) ∧
    ((0x402 : BitVec 16).getLsbD 0 = false ∧ (0x402 : BitVec 16).getLsbD 1 = true ∧
      (0x402 : BitVec 16).getLsbD 10 = true ∧ (99 : BitVec 16).toNat < 100 ∧ 10000 < (10001 : BitVec 16).toNat) := by
  decide

theorem witness_LoadCurveChecksThenReplaces :
    base.porstLow = false ∧ ([(0, 0)] : List (BitVec 16 × BitVec 16)).length ≠ (2 : Byte).toNat ∧
    ([(0, 0)] : List (BitVec 16 × BitVec 16)).length = (1 : Byte).toNat ∧ 2 < (3 : Byte).toNat ∧
    (List.replicate 9 (0, 0) : List (BitVec 16 × BitVec 16)).length = (9 : Byte).toNat ∧ 8 < (9 : Byte).toNat ∧
    ([⟨300, 1⟩, ⟨301, 2⟩] : List CurvePoint).Pairwise (fun p q => p.temp < q.temp) ∧
    ¬ ([⟨300, 1⟩, ⟨300, 2⟩] : List CurvePoint).Pairwise (fun p q => p.temp < q.temp) := by decide

/-- A bad zone, a bad code, and accepted requests that turn a channel off, move it, and select neither. -/
theorem witness_SetSensorChecksThenChanges :
    base.porstLow = false ∧ 11 < (12 : Byte).toNat ∧ ((4 : Byte).getLsbD 2 = true ∧ 2 < (3 : Byte).toNat) ∧
    ((0 : Byte).getLsbD 5 = false ∧ 1 < (2 : Byte).toNat ∧ (1 : Byte).toNat ≤ 1) ∧ (base.sensor 0).enabled = true ∧
    ((0x24 : Byte).getLsbD 2 = true ∧ (2 : Byte).toNat = (2 : ZoneIx).val ∧ (0 : Byte).toNat = false.toNat) ∧
    ((0x1B : Byte).getLsbD 2 = false ∧ (0x1B : Byte).getLsbD 5 = false) ∧
    base.converter.converting = some 0 ∧ ((disableSensor 0 base).sensor 0).enabled = false := by decide

theorem witness_UpstreamChecksInOrder :
    open0.porstLow = false ∧ frameWhole (frame host host) = true ∧ (base.bay 0).state.forwarding = false ∧
    (((bayIn .online).bay 0).state.forwarding = true ∧ ((bayIn .online).bay 0).activeUplink = none) ∧
    ((open0.bay 0).state.forwarding = true ∧ (open0.bay 0).activeUplink = some 0) ∧
    (frameWhole (tagged host host) = true ∧ frameTagged (tagged host host) = true) ∧
    frameTagged (frame host host) = false ∧
    (base.groups.get (base.bay 0).settings.group = 0 ∧
      ((base.groups.set 0 4094).get 0 ≠ 0 ∧ (base.groups.set 0 4094).get 0 ≤ 4094)) ∧
    (base.uplink 0).up = false := by decide

/-- A known station behind B0. -/
def known0 : State := putStation 0 ⟨host, 0, .learned 0⟩ open0

theorem witness_DownstreamGoesByDestination :
    open0.porstLow = false ∧ frameWhole (frame host host) = true ∧ (open0.uplink 0).up = true ∧
    frameDst (frame (stationAddr open0.agent.straps) host) = stationAddr open0.agent.straps ∧
    frameType (agentFrame controlGroupAddr host none []) = controlType ∧
    frameType (frame controlGroupAddr host) ≠ controlType ∧
    frameDst (agentFrame controlGroupAddr host none []) = controlGroupAddr ∧
    frameDst (frame host host) ≠ stationAddr open0.agent.straps ∧ frameDst (frame host host) ≠ controlGroupAddr ∧
    (allGroups.filter fun g => open0.groups.get g = ((frameTag (tagged host host)).getD 0).toNat) = [] ∧
    (allGroups.filter fun g => open0.groups.get g = ((frameTag (frame host host)).getD 0).toNat) ≠ [] ∧
    isGroup (frameDst (frame host host)) = false ∧ isGroup (frameDst (frame 0xFFFFFFFFFFFF host)) = true := by decide

/-- Hypotheses of DownstreamGoesByDestination and DeliveryAndFlooding on the station table: dropped by a watch
composite, not dropped with a station entry, and not dropped without one. -/
theorem witness_downstream_stations :
    (let v := downstreamFields 0 (frame host host) [0] known0;
      (watch v (frame host host) known0).1 = false ∧
      stationOf host (watch v (frame host host) known0).2 = some (0, ⟨host, 0, .learned 0⟩)) ∧
    (let v := downstreamFields 0 (frame host host) [0] open0;
      (watch v (frame host host) open0).1 = false ∧ stationOf host (watch v (frame host host) open0).2 = none) ∧
    (let s := { open0.modComposite 0 (fun c => { c with mask := 1, drop := true }) with
        units := open0.units.set 0 ⟨.length, 0, 65535, false, .both, true⟩ };
      (watch (downstreamFields 0 (frame host host) [0] s) (frame host host) s).1 = true) := by decide +kernel

theorem witness_DeliveryAndFlooding :
    (base.bay 0).state.forwarding = false ∧
    ((open0.bay 0).state.forwarding = true ∧ (open0.bay 0).activeUplink ≠ some 1 ∧
      (open0.bay 0).activeUplink = some 0 ∧ (open0.bay 0).settings.group ∉ [(1 : GroupIx)] ∧
      (open0.bay 0).settings.group ∈ [(0 : GroupIx)]) ∧
    (∀ b, ((base.bay b).state.forwarding && (base.bay b).activeUplink = some 0 &&
      decide ((base.bay b).settings.group ∈ [(0 : GroupIx)])) = false) := by decide

theorem witness_StationsAreLearnedAndAged :
    isGroup 0xFFFFFFFFFFFF = true ∧ isGroup host = false ∧ stationOf host open0 = none ∧
    open0.stations.entries.get 0 = none ∧ (∀ j : StationIx, ¬ j < 0) ∧
    stationOf host known0 = some (0, ⟨host, 0, .learned 0⟩) ∧ (1 : BayIx) ≠ 0 ∧
    stationOf host (putStation 0 ⟨host, 0, .fixed none⟩ open0) = some (0, ⟨host, 0, .fixed none⟩) ∧
    (none : Option BayIx) ≠ some 1 ∧
    stationOf host (putStation 0 ⟨host, 0, .fixed (some 1)⟩ open0) = some (0, ⟨host, 0, .fixed (some 1)⟩) := by
  decide +kernel

/-- A table of 256 STATIC entries at addresses other than the host's: a table without a free index. -/
def fullTable : State :=
  { base with stations := { base.stations with entries := .fill 256 (some ⟨0x020000000001, 3, .fixed none⟩) } }
/-- The same with a conflict mark of B1 on every entry. -/
def markedTable : State :=
  { base with stations := { base.stations with entries := .fill 256 (some ⟨0x020000000001, 3, .fixed (some 1)⟩) } }
/-- A table of 256 LEARNED entries of age 1. -/
def agedTable : State :=
  { base with stations := { base.stations with entries := .fill 256 (some ⟨0x020000000001, 3, .learned 1⟩) } }

theorem witness_full_table :
    stationOf host fullTable = none ∧ locate host fullTable.stations = none ∧
    (∀ i, fullTable.stations.entries.get i ≠ none) ∧
    (∀ j, ∃ x m k, fullTable.stations.entries.get j = some ⟨x, m, .fixed k⟩) ∧
    locate host markedTable.stations = none ∧
    (∀ j, ∃ x m k, markedTable.stations.entries.get j = some ⟨x, m, .fixed (some k)⟩) :=
  ⟨by decide +kernel, by decide +kernel, (fun i h => by
    rw [show fullTable.stations.entries.get i = some ⟨0x020000000001, 3, .fixed none⟩ from Tab.get_fill _ i] at h
    cases h), fun j => ⟨_, _, _, Tab.get_fill _ j⟩, by decide +kernel, fun j => ⟨_, _, _, Tab.get_fill _ j⟩⟩

/-- A full table with the full mark clear and with it set, and room for the event. -/
theorem witness_StationsAreLearnedAndAged_full_mark :
    fullTable.stations.fullMark = false ∧ fullTable.events.queue.length < fullTable.events.limit ∧
    ({ fullTable with stations := { fullTable.stations with fullMark := true } } : State).stations.fullMark = true :=
  ⟨rfl, by decide, rfl⟩

theorem witness_aged_table :
    let e : Station := ⟨0x020000000001, 3, .learned 1⟩
    locate host agedTable.stations = none ∧ (∀ j, agedTable.stations.entries.get j ≠ none) ∧
    agedTable.stations.entries.get 0 = some e ∧ e.age = some 1 ∧
    (∀ j x m, agedTable.stations.entries.get j = some x → x.age = some m → m ≤ 1 ∧ (m = 1 → (0 : StationIx) ≤ j)) := by
  refine ⟨by decide +kernel, fun j h => ?_, Tab.get_fill _ _, rfl, fun j x m hx hm => ?_⟩
  · rw [show agedTable.stations.entries.get j = some ⟨0x020000000001, 3, .learned 1⟩ from Tab.get_fill _ j] at h
    cases h
  · rw [show agedTable.stations.entries.get j = some ⟨0x020000000001, 3, .learned 1⟩ from Tab.get_fill _ j] at hx
    cases hx
    cases hm
    exact ⟨Nat.le_refl 1, fun _ => Nat.zero_le _⟩

/-- Tables with and without a LEARNED entry to clear. -/
theorem witness_ClearClearsItsScope :
    base.porstLow = false ∧ (∃ e, known0.stations.entries.get 0 = some e ∧ e.isLearned = true) ∧
    ∀ i e, base.stations.entries.get i = some e → e.isLearned = false :=
  ⟨rfl, ⟨_, rfl, rfl⟩, fun i e h => by
    rw [show base.stations.entries.get i = none from Tab.get_fill _ i] at h; cases h⟩

/-- Hypotheses of the second part of StationsAreLearnedAndAged. -/
theorem witness_StationsAreLearnedAndAged_aging : known0.porstLow = false := by decide

theorem witness_UplinkRisesAndFalls :
    open0.porstLow = false ∧ (open0.uplink 0).up = true ∧ (base.uplink 0).up = false ∧ (base.uplink 0).hold ≠ 0 ∧
    ((base.modUplink 0 fun x => { x with hold := 0 }).uplink 0).hold = 0 ∧
    (base.uplink 0).holdTimer = none ∧
    (let x := (open0.modUplink 0 fun x => { x with holdTimer := some 10000 }).uplink 0;
      x.holdTimer = some 10000 ∧ x.up = true) := by decide

theorem witness_ForwardingSettingsApply :
    base.porstLow = false ∧ 3 < (4 : Byte).toNat ∧ ((1 : Byte).getLsbD 0 = true ∧ 1 < (2 : Byte).toNat) ∧
    (∀ w : UplinkIx, w ≠ 0 → (base.uplink w).trusted = false) ∧ 15 < (16 : Byte).toNat ∧
    ((6 : Byte).getLsbD 0 = false ∧ (1 : Byte).toNat = true.toNat) ∧
    (((base.modUplink 3 fun x => { x with trusted := true }).uplink 3).trusted = true ∧ (3 : UplinkIx) ≠ 0 ∧
      (0 : Byte).toNat = false.toNat) ∧
    4094 < (4095 : BitVec 16).toNat ∧ (4094 : BitVec 16).toNat ≤ 4094 := by decide

theorem witness_StationRequestsAct :
    base.porstLow = false ∧ 13 < (14 : Byte).toNat ∧ isGroup 0xFFFFFFFFFFFF = true ∧ isGroup host = false ∧
    locate host known0.stations = some 0 ∧
    (locate host base.stations = none ∧ base.stations.entries.get 0 = none ∧ ∀ j : StationIx, ¬ j < 0) := by
  decide +kernel

theorem witness_StationRequestsAct_remove_read :
    known0.porstLow = false ∧ locate host known0.stations = some 0 ∧ locate host base.stations = none ∧
    255 < (256 : BitVec 16).toNat ∧ (255 : BitVec 16).toNat ≤ 255 ∧
    occupiedFrom 0 0 known0.stations.entries.items = [(0, ⟨host, 0, .learned 0⟩)] := by decide +kernel

theorem witness_UnitsMatchAndCompositesHit :
    let v : WatchFields := ⟨true, host, host, 0, 64, 0x0800, some 0, 0⟩
    ∀ i, (base.composites.get i).hit (unitMatches base.units v) = none := by decide

/-- A lowest group of a frame's set, and a station entry of its destination. -/
theorem witness_UnitsMatchAndCompositesHit_fields :
    base.groups.get 0 = ((frameTag (frame host host)).getD 0).toNat ∧ (∀ h : GroupIx, 0 ≤ h) ∧
    isGroup (frameDst (frame host host)) = false ∧
    stationOf (frameDst (frame host host)) known0 = some (0, ⟨host, 0, .learned 0⟩) := by decide

/-- A frame that hits both composites, C1 at its threshold, while MANAGED on U0 UP and DOWN and UNMANAGED. -/
theorem witness_UnitsMatchAndCompositesHit_hits :
    let v : WatchFields := ⟨true, host, host, 0, 64, 0x0800, some 0, 0⟩
    let units := base.units.set 0 ⟨.length, 0, 65535, false, .both, true⟩
    let c : Composite := ⟨1, .all, true, true, 2, 1, 0, false, 0⟩
    unitMatches units v = 1 ∧ ({ c with threshold := 1, hitCounter := 0 }).hit 1 = some 1 ∧ c.hit 1 = some 1 ∧
    c.threshold ≤ c.hitCounter + 1 ∧ c.latched = false ∧
    (∀ up, (managed up base).agent.managed = true ∧ (managed up base).agent.manager = some chief ∧
      ((managed up base).uplink chief.uplink).up = up) ∧ base.agent.managed = false ∧
    (queued 62).events.queue.length + 2 ≤ (queued 62).events.limit := by decide

theorem witness_WatchSettingsApply :
    base.porstLow = false ∧ 7 < (8 : Byte).toNat ∧ 6 < (7 : Byte).toNat ∧ 1 < (2 : Byte).toNat ∧ 2 < (3 : Byte).toNat := by
  decide

/-- A frame that passes every check, and one refused by each. -/
theorem witness_ManagementBeginsAndEnds :
    let c : ControlFrame := ⟨agentFrame (stationAddr 0) host none [], 0⟩
    ((open0.uplink 0).trusted = true ∧ isGroup (frameSrc c.frame) = false ∧ open0.agent.managers = [] ∧
      open0.agent.queue.length < 4) ∧
    (open0.uplink 1).trusted = false ∧ isGroup (frameSrc (agentFrame (stationAddr 0) 0xFFFFFFFFFFFF none [])) = true ∧
    open0.agent.silenceTimeout ≠ 0 ∧ (managed true base).agent.managed = true ∧ open0.agent.managed = false ∧
    open0.events.queue.length < open0.events.limit := by decide

theorem witness_ManagementBeginsAndEnds_silence :
    (managed true base).porstLow = false ∧ (managed true base).agent.silenceTimer = some 30000 ∧
    (managed true base).agent.manager = some chief ∧ zoneUnhealthy 0 (managed true base) = false ∧
    (managed true base).events.queue.length < (managed true base).events.limit := by decide

/-- A control frame in execution with its READ_EVENTS still to come. -/
def executing (count flags : Byte) : Execution :=
  ⟨⟨agentFrame (stationAddr 0) host none [1, 0, flags, 0, 0, 9, count, 0, 0x60, 0, 0, 7, 0, 1, 4], 0⟩, 8, 0, []⟩

theorem witness_AgentTakesItsTurn :
    base.porstLow = false ∧ base.agent.execution = none ∧ base.agent.queue = [] ∧
    (framePayload ((frame host host).take 21)).length < 8 ∧
    8 ≤ (framePayload (executing 1 0).control.frame).length ∧
    (byteAt (framePayload (executing 0 0).control.frame) 6 = 0 ∧
      32 < (byteAt (framePayload (executing 33 0).control.frame) 6).toNat) ∧
    (byteAt (framePayload (executing 32 0).control.frame) 0 = 1 ∧
      1 ≤ (byteAt (framePayload (executing 1 0).control.frame) 6).toNat ∧
      (byteAt (framePayload (executing 32 0).control.frame) 6).toNat ≤ 32) ∧
    Kind.ofCode 0x64 = none ∧ Kind.ofCode 0x60 = some .readEvents ∧ [(1 : Byte), 2].length ≠ Kind.readEvents.bodyLength [1, 2] := by
  decide

/-- The second part, for a record that is the last, one that is not, and one that stops on error. -/
theorem witness_AgentTakesItsTurn_record :
    let r : Record := ⟨0x60, 7, [4]⟩
    let s := { base with agent := { base.agent with execution := some (executing 1 0) } }
    recordAt (framePayload (executing 1 0).control.frame) (executing 1 0).offset = some r ∧
    (executing 1 0).records.length + r.smallest + 14 ≤ 1500 ∧
    (change (r.execute (1500 - 8 - (executing 1 0).records.length - 6)) s).answer = some ⟨.truncated, [0, 0, 0, 0]⟩ ∧
    (executing 1 0).records.length + ([0, 0, 0, 0] : List Byte).length + 14 ≤ 1500 ∧
    (executing 1 0).answered + 1 = (byteAt (framePayload (executing 1 0).control.frame) 6).toNat ∧
    (executing 2 0).answered + 1 ≠ (byteAt (framePayload (executing 2 0).control.frame) 6).toNat ∧
    (byteAt (framePayload (executing 2 1).control.frame) 2).getLsbD 0 = true ∧
    Status.badValue ≠ .ok ∧ Status.badValue ≠ .clamped ∧ Status.badValue ≠ .truncated := by
  decide

/-- Records of an unknown kind and of a wrong length (Table 11-4). -/
theorem witness_AgentTakesItsTurn_lengths :
    base.porstLow = false ∧ (0x64 : Byte).toNat = 100 ∧ (0x02 : Byte).toNat = 2 ∧
    ([1, 1, 0, 30] : List Byte).length ≠ 4 + 6 * (byteAt [1, 1, 0, 30] 1).toNat := by decide

/-- The other ends of a frame: a record past its end, no room for the smallest response, none for the whole answer. -/
theorem witness_AgentTakesItsTurn_ends :
    let x := { executing 1 0 with offset := 48 }
    let y := { executing 1 0 with records := List.replicate 1483 0 }
    let z : Execution := ⟨⟨agentFrame (stationAddr 0) host none [1, 0, 0, 0, 0, 9, 1, 0, 1, 0, 0, 7, 0, 0], 0⟩, 8, 0,
      List.replicate 1416 0⟩
    let s := { base with agent := { base.agent with managers := [host], execution := some z } }
    let t := change ((⟨1, 7, []⟩ : Record).execute (1500 - 8 - z.records.length - 6)) s
    recordAt (framePayload x.control.frame) x.offset = none ∧
    recordAt (framePayload y.control.frame) y.offset = some ⟨0x60, 7, [4]⟩ ∧
    1500 < y.records.length + (⟨0x60, 7, [4]⟩ : Record).smallest + 14 ∧
    recordAt (framePayload z.control.frame) z.offset = some ⟨1, 7, []⟩ ∧
    z.records.length + (⟨1, 7, []⟩ : Record).smallest + 14 ≤ 1500 ∧
    t.answer.map (fun a => decide (1500 < z.records.length + a.body.length + 14)) = some true := by
  decide +kernel

/-- A response to a frame with a tag, on an uplink that is UP and on one that is DOWN. -/
theorem witness_AgentTakesItsTurn_response :
    frameTag (tagged host host) = some 5 ∧ frameTag (frame host host) = none ∧
    (open0.uplink 0).up = true ∧ (base.uplink 0).up = false := by decide

theorem witness_SetManagersChecksThenChanges :
    base.porstLow = false ∧ [host].length ≠ (2 : Byte).toNat ∧ (1 : Byte).getLsbD 0 = true ∧
    ((2 : Byte).getLsbD 0 = false ∧ ([] : List Addr).length = (0 : Byte).toNat) ∧
    ((List.replicate 5 host).length = (5 : Byte).toNat ∧ 4 < (5 : Byte).toNat) ∧
    (0xFFFFFFFFFFFF : Addr) ∈ [(0xFFFFFFFFFFFF : Addr)] ∧ isGroup 0xFFFFFFFFFFFF = true ∧
    ((List.replicate 4 host).length = (4 : Byte).toNat ∧ (4 : Byte).toNat ≤ 4 ∧
      (List.replicate 4 host).all (fun a => !isGroup a) = true) := by decide

end Sys2Proof.Tests
end

/-! PROOFS. Thermal sensing: what a change of a zone's thermal state can do to the channels, the condition set and
the event queue, and from that what a conversion does (R107 to R110). -/

namespace Sys2Proof.Machine

/-! ### The passes only append events -/

/-- The event queue of `t` begins with that of `s`. -/
def EventsGrow (s t : State) : Prop := s.events.queue <+: t.events.queue

theorem EventsGrow.of_eq {s t : State} (h : t.events = s.events) : EventsGrow s t :=
  show s.events.queue <+: t.events.queue from h ▸ List.prefix_rfl

theorem EventsGrow.trans {s t u : State} (h : EventsGrow s t) (k : EventsGrow t u) : EventsGrow s u :=
  List.IsPrefix.trans h k

theorem EventsGrow.ite {c : Prop} [Decidable c] {s t u : State} (ht : EventsGrow s t) (hu : EventsGrow s u) :
    EventsGrow s (if c then t else u) := by
  split
  · exact ht
  · exact hu

theorem EventsGrow.foldl {α : Type} (f : State → α → State) (h : ∀ s a, EventsGrow s (f s a)) (l : List α) :
    ∀ s, EventsGrow s (l.foldl f s) := by
  induction l with
  | nil => exact fun _ => .of_eq rfl
  | cons a l ih => exact fun s => (h s a).trans (ih _)

theorem raise_grow (k : EventKind) (w : Subject) (d : Nat) (x : Int) (s : State) :
    EventsGrow s (raise k w d x s) := by
  rcases Nat.lt_or_ge s.events.queue.length s.events.limit with room | full
  · rw [raise_room k w d x s room]; exact List.prefix_append _ _
  · rw [raise_full k w d x s full]; exact List.prefix_rfl

/-- An event raised after changes that leave the queue alone. -/
theorem EventsGrow.raised {s t : State} (h : t.events = s.events) (k w d x) : EventsGrow s (raise k w d x t) :=
  (EventsGrow.of_eq h).trans (raise_grow k w d x t)

/-- After an event was raised with room in the queue, growth keeps it next to the events before it. -/
theorem EventsGrow.after_raise {s u : State} {k : EventKind} {w : Subject} {d : Nat} {x : Int}
    (room : s.events.queue.length < s.events.limit) (h : EventsGrow (raise k w d x s) u) :
    ∃ rest, u.events.queue =
      s.events.queue ++ ⟨k, w, BitVec.ofNat 8 d, s.seconds, BitVec.ofInt 32 x⟩ :: rest := by
  rw [raise_room k w d x s room] at h
  obtain ⟨rest, grown⟩ := h
  exact ⟨rest, grown.symm.trans (List.append_assoc ..)⟩

theorem uncapPass_grow (s : State) : EventsGrow s (uncapPass s) := by
  refine EventsGrow.foldl _ (fun s b => ?_) _ _
  unfold uncapOne
  exact .ite (.of_eq rfl) (.of_eq rfl)

theorem walkOne_grow (w : Walk) (b : BayIx) : EventsGrow w.state (walkOne w b).state := by
  unfold walkOne
  dsimp only
  split
  · exact .of_eq rfl
  · split
    · exact .of_eq rfl
    · split
      · exact .of_eq rfl
      · split <;> exact .of_eq rfl

theorem walk_grow (l : List BayIx) : ∀ w : Walk, EventsGrow w.state (l.foldl walkOne w).state := by
  induction l with
  | nil => exact fun _ => .of_eq rfl
  | cons b l ih => exact fun w => (walkOne_grow w b).trans (ih _)

theorem admissionPass_grow (s : State) : EventsGrow s (admissionPass s) := by
  have walked := walk_grow s.alloc.waiting ⟨s, false, []⟩
  unfold admissionPass
  exact .ite (walked.trans (uncapPass_grow _)) walked

theorem endRamping_grow (s : State) : EventsGrow s (endRamping s) := by
  unfold endRamping
  exact .ite (.of_eq rfl) (.of_eq rfl)

theorem powerOff_grow (b : BayIx) (s : State) : EventsGrow s (powerOff b s) := by
  unfold powerOff
  refine .trans (.ite (endRamping_grow s) (.of_eq rfl)) (.trans (.ite ?_ (.of_eq rfl)) (.of_eq rfl))
  exact .of_eq (dropStations_events _ _)

theorem shedAdmittedBay_grow (b : BayIx) (s : State) : EventsGrow s (shedAdmittedBay b s) := by
  unfold shedAdmittedBay
  exact .raised (by rfl) ..

theorem shedCapBay_grow (scope : Option ZoneIx) (b : BayIx) (s : State) : EventsGrow s (shedCapBay scope b s) := by
  unfold shedCapBay
  exact .ite (.raised (by rfl) ..) (.of_eq rfl)

theorem shedStoppingBay_grow (b : BayIx) (s : State) : EventsGrow s (shedStoppingBay b s) := by
  unfold shedStoppingBay
  exact .raised (by rfl) ..

theorem shedPoweringBay_grow (b : BayIx) (s : State) : EventsGrow s (shedPoweringBay b s) := by
  unfold shedPoweringBay
  exact .trans (powerOff_grow b s) (.raised (by rfl) ..)

theorem shedOnlineBay_grow (detail : Nat) (b : BayIx) (s : State) : EventsGrow s (shedOnlineBay detail b s) := by
  unfold shedOnlineBay
  exact .raised (by rfl) ..

theorem coverWith_grow (scope : Option ZoneIx) (st : BayState) {treat : BayIx → State → State}
    (h : ∀ b s, EventsGrow s (treat b s)) (s : State) : EventsGrow s (coverWith scope st treat s) :=
  EventsGrow.foldl _ (fun s b => .ite (h b s) (.of_eq rfl)) _ _

theorem coverDeficit_grow (scope : Option ZoneIx) (s : State) : EventsGrow s (coverDeficit scope s) := by
  unfold coverDeficit
  exact .trans (coverWith_grow _ _ shedAdmittedBay_grow s)
    (.trans (coverWith_grow _ _ (shedCapBay_grow scope) _)
      (.trans (coverWith_grow _ _ shedStoppingBay_grow _)
        (.trans (coverWith_grow _ _ shedPoweringBay_grow _)
          (coverWith_grow _ _ (shedOnlineBay_grow shedOnline) _))))

theorem shedPass_grow (s : State) : EventsGrow s (shedPass s) := by
  have covered := (EventsGrow.foldl _ (fun s z => coverDeficit_grow (some z) s) allZones s).trans
    (coverDeficit_grow none _)
  unfold shedPass
  exact .ite (covered.trans (admissionPass_grow _)) covered

theorem afterLimit_grow (scope : Option ZoneIx) (old : Nat) (s : State) :
    EventsGrow s (afterLimit scope old s) := by
  unfold afterLimit
  exact .ite (admissionPass_grow _) (.ite (shedPass_grow _) (.of_eq rfl))

theorem recomputeLimit_grow (z : ZoneIx) (s : State) : EventsGrow s (recomputeLimit z s) := by
  unfold recomputeLimit
  exact .ite (.of_eq rfl) (.trans (.of_eq (by rfl)) (afterLimit_grow _ _ _))

/-! ### An ended condition (R189) -/

theorem endCondition_inactive {k : CondKey} {s : State} {e : Condition} (h : e ∈ (endCondition k s).conditions)
    (key : e.key = k) : e.active = false := by
  rcases (mem_endCondition k s e).mp h with ⟨-, other⟩ | ⟨d, -, -, -, rfl⟩
  · exact absurd key other
  · rfl

/-! ### What a re-evaluation of a zone leaves alone (R109, R110) -/

/-- A step of the change of zone `z`'s thermal state: the channels stand, of the conditions only ZONE_CRITICAL of
the zone may begin or end, and events are only appended. -/
structure ThermalStep (z : ZoneIx) (s t : State) : Prop where
  sensors : t.sensors = s.sensors
  conditions : ∀ e : Condition, e.key ≠ .zoneCritical z → (e ∈ t.conditions ↔ e ∈ s.conditions)
  events : EventsGrow s t

section ThermalStep

variable {z : ZoneIx} {s t u : State}

theorem ThermalStep.refl (s : State) : ThermalStep z s s := ⟨rfl, fun _ _ => .rfl, .of_eq rfl⟩

theorem ThermalStep.trans (h : ThermalStep z s t) (k : ThermalStep z t u) : ThermalStep z s u :=
  ⟨k.sensors.trans h.sensors, fun e he => (k.conditions e he).trans (h.conditions e he), h.events.trans k.events⟩

theorem ThermalStep.ite {c : Prop} [Decidable c] (ht : ThermalStep z s t) (hu : ThermalStep z s u) :
    ThermalStep z s (if c then t else u) := by
  split
  · exact ht
  · exact hu

theorem ThermalStep.modZone (s : State) (i : ZoneIx) (f : Zone → Zone) : ThermalStep z s (s.modZone i f) :=
  ⟨rfl, fun _ _ => .rfl, .of_eq rfl⟩

theorem raise_thermalStep (s : State) (k w d x) : ThermalStep z s (raise k w d x s) :=
  ⟨raise_sensors .., fun _ _ => by rw [raise_conditions], raise_grow ..⟩

theorem raiseZoneCritical_thermalStep (s : State) : ThermalStep z s (raiseCondition (.zoneCritical z) s) where
  sensors := rfl
  conditions e he := by
    have new : e ≠ ⟨.zoneCritical z, true, false, s.seconds⟩ := fun h => he (congrArg Condition.key h)
    rw [mem_raiseCondition]
    constructor
    · rintro (⟨old, -⟩ | added)
      · exact old
      · exact absurd added new
    · exact fun old => .inl ⟨old, he⟩
  events := .of_eq rfl

theorem endZoneCritical_thermalStep (s : State) : ThermalStep z s (endCondition (.zoneCritical z) s) where
  sensors := rfl
  conditions e he := by
    rw [mem_endCondition]
    constructor
    · rintro (⟨old, -⟩ | ⟨d, -, key, -, rfl⟩)
      · exact old
      · exact absurd key he
    · exact fun old => .inl ⟨old, he⟩
  events := .of_eq rfl

theorem recomputeLimit_thermalStep (z : ZoneIx) (s : State) : ThermalStep z s (recomputeLimit z s) := by
  rcases recomputeLimit_step z s with same | pass
  · rw [same]; exact .refl s
  · exact ⟨pass.sensors, fun _ _ => by rw [pass.conditions, State.modZone_conditions], recomputeLimit_grow z s⟩

theorem changeThermal_thermalStep (st : ThermalState) (s : State) : ThermalStep z s (changeThermal z st s) := by
  have updated : ∀ t : State, ThermalStep z t (if st = .critical then updateZone z t else t) :=
    fun t => .ite (by rw [updateZone_only]; exact .modZone ..) (.refl t)
  unfold changeThermal
  exact .trans (.modZone ..) (.trans (raise_thermalStep ..)
    (.trans (.ite (raiseZoneCritical_thermalStep _) (.ite (endZoneCritical_thermalStep _) (.refl _)))
      (.trans (recomputeLimit_thermalStep z _) (updated _))))

theorem evaluateZone_thermalStep (z : ZoneIx) (s : State) : ThermalStep z s (evaluateZone z s) := by
  unfold evaluateZone
  exact .ite (.refl s) (changeThermal_thermalStep _ s)

end ThermalStep

@[simp] theorem evaluateZone_sensor (z : ZoneIx) (s : State) (c : ChanIx) :
    (evaluateZone z s).sensor c = s.sensor c :=
  congrArg (Tab.get · c) (evaluateZone_thermalStep z s).sensors

/-! ### The judgement of an in-range code (R107, R108) -/

/-- Two changes of one channel are one. -/
theorem State.modSensor_modSensor (s : State) (c : ChanIx) (f g : Sensor → Sensor) :
    (s.modSensor c f).modSensor c g = s.modSensor c fun x => g (f x) := by
  simp only [State.modSensor, State.sensor, Tab.get_set_self, Tab.set_set]

/-- A change of a channel matters by what it makes of that channel's record. -/
theorem State.modSensor_congr {s : State} {c : ChanIx} {f g : Sensor → Sensor}
    (h : f (s.sensor c) = g (s.sensor c)) : s.modSensor c f = s.modSensor c g := by
  rw [State.modSensor, h, State.modSensor]

/-- The status an in-range code leaves a channel in: a FAULTED one is restored by the second alone. -/
def Sensor.judged (x : Sensor) : SensorStatus :=
  if x.status = .faulted ∧ x.inRangeRun = 0 then .faulted else .valid

theorem Sensor.judged_of_not_faulted {x : Sensor} (h : x.status ≠ .faulted) : x.judged = .valid :=
  if_neg fun both => h both.1

theorem Sensor.judged_first {x : Sensor} (h : x.status = .faulted) (run : x.inRangeRun = 0) :
    x.judged = .faulted := if_pos ⟨h, run⟩

theorem Sensor.judged_restored {x : Sensor} (run : 1 ≤ x.inRangeRun) : x.judged = .valid :=
  if_neg fun both => Nat.ne_of_gt run both.2

/-- R107's conversion: the quotient truncated, the offset added, and the sum clamped. -/
theorem codeTemperature_eq (gain : Nat) (offset : Int) (code : Nat) :
    codeTemperature gain offset code =
      if ((code * gain / 1024 : Nat) : Int) + offset < -400 then -400
      else if 1500 < ((code * gain / 1024 : Nat) : Int) + offset then 1500
      else ((code * gain / 1024 : Nat) : Int) + offset := by
  unfold codeTemperature clampInt
  split
  · omega
  · split <;> omega

/-- A channel's record after an in-range code that leaves it in status `st`. -/
def Sensor.taken (code : BitVec 12) (st : SensorStatus) (x : Sensor) : Sensor :=
  { x with lastCode := code, reading := codeTemperature x.gain x.offset code.toNat
           inRangeRun := x.inRangeRun + 1, railRun := 0, status := st }

theorem Sensor.validReading_taken (code : BitVec 12) (x : Sensor) :
    (x.taken code .valid).validReading = some (x.taken code .valid).reading := if_pos rfl

theorem Sensor.validReading_taken_faulted (code : BitVec 12) (x : Sensor) :
    (x.taken code .faulted).validReading = none := if_neg fun h => nomatch h

section Judgement

variable (c : ChanIx) (code : BitVec 12) (s : State)

theorem inRangeCode_of_not_faulted (h : (s.sensor c).status ≠ .faulted) :
    inRangeCode c code s = s.modSensor c (Sensor.taken code .valid) := by
  simp only [inRangeCode, State.modSensor_sensor_self, if_neg h, State.modSensor_modSensor]
  rfl

/-- The first in-range code of a FAULTED channel is only stored. -/
theorem inRangeCode_first (h : (s.sensor c).status = .faulted) (run : (s.sensor c).inRangeRun = 0) :
    inRangeCode c code s = s.modSensor c (Sensor.taken code .faulted) := by
  have notSecond : ¬ 2 ≤ (s.sensor c).inRangeRun + 1 := by omega
  simp only [inRangeCode, State.modSensor_sensor_self, if_pos h, if_neg notSecond]
  exact State.modSensor_congr (by rw [Sensor.taken, ← h])

/-- The second in-range code of a FAULTED channel restores it. -/
theorem inRangeCode_restores (h : (s.sensor c).status = .faulted) (run : 1 ≤ (s.sensor c).inRangeRun) :
    inRangeCode c code s = endCondition (.sensorFault c) (raise .sensorRestored (.sensor c) 0
      (codeTemperature (s.sensor c).gain (s.sensor c).offset code.toNat)
      (s.modSensor c (Sensor.taken code .valid))) := by
  have second : 2 ≤ (s.sensor c).inRangeRun + 1 := by omega
  simp only [inRangeCode, State.modSensor_sensor_self, if_pos h, if_pos second, State.modSensor_modSensor]
  rfl

/-- Every in-range code stores its record, in the status the judgement gives, and no other channel's. -/
theorem inRangeCode_sensors :
    (inRangeCode c code s).sensors = (s.modSensor c fun x => x.taken code x.judged).sensors := by
  have stored : ∀ st, (s.sensor c).judged = st →
      s.modSensor c (Sensor.taken code st) = s.modSensor c fun x => x.taken code x.judged :=
    fun st h => State.modSensor_congr (by rw [h])
  by_cases faulted : (s.sensor c).status = .faulted
  · rcases Nat.eq_zero_or_pos (s.sensor c).inRangeRun with first | second
    · rw [inRangeCode_first c code s faulted first, stored _ (Sensor.judged_first faulted first)]
    · rw [inRangeCode_restores c code s faulted second, stored _ (Sensor.judged_restored second)]
      simp only [endCondition, setConditions_sensors, raise_sensors]
  · rw [inRangeCode_of_not_faulted c code s faulted, stored _ (Sensor.judged_of_not_faulted faulted)]

theorem inRangeCode_sensor (d : ChanIx) :
    (inRangeCode c code s).sensor d = (s.modSensor c fun x => x.taken code x.judged).sensor d :=
  congrArg (Tab.get · d) (inRangeCode_sensors c code s)

/-! ### A completed conversion (R106) -/

variable {c code s} (low : 1 ≤ code.toNat) (high : code.toNat ≤ 4094)
include low high

theorem isRail_of_inRange : isRail code = false := by
  have notLow : code ≠ 0 := by bv_omega
  have notHigh : code ≠ 4095 := by bv_omega
  rw [isRail, decide_eq_false notLow, decide_eq_false notHigh, Bool.or_self]

theorem converted_inRange : converted c code s = evaluateZone (s.sensor c).zone (inRangeCode c code s) := by
  have zone : ((inRangeCode c code s).sensor c).zone = (s.sensor c).zone := by
    rw [inRangeCode_sensor, State.modSensor_sensor_self, Sensor.taken]
  rw [converted, isRail_of_inRange low high, if_neg Bool.false_ne_true, zone]

theorem converted_sensor_self :
    (converted c code s).sensor c = (s.sensor c).taken code (s.sensor c).judged := by
  rw [converted_inRange low high, evaluateZone_sensor, inRangeCode_sensor, State.modSensor_sensor_self]

theorem converted_sensor_ne {d : ChanIx} (h : d ≠ c) : (converted c code s).sensor d = s.sensor d := by
  rw [converted_inRange low high, evaluateZone_sensor, inRangeCode_sensor, State.modSensor_sensor_ne s h]

/-- The second in-range code of a FAULTED channel leaves no active SENSOR_FAULT entry of it. -/
theorem converted_endsFault (faulted : (s.sensor c).status = .faulted) (second : 1 ≤ (s.sensor c).inRangeRun)
    {e : Condition} (he : e ∈ (converted c code s).conditions) (key : e.key = .sensorFault c) :
    e.active = false := by
  have other : e.key ≠ .zoneCritical (s.sensor c).zone := fun h => nomatch key.symm.trans h
  rw [converted_inRange low high, (evaluateZone_thermalStep _ _).conditions e other,
    inRangeCode_restores c code s faulted second] at he
  exact endCondition_inactive he key

/-- The second in-range code of a FAULTED channel raises SENSOR_RESTORED with its reading, ahead of any event of the
re-evaluation that follows. -/
theorem converted_raisesRestored (faulted : (s.sensor c).status = .faulted)
    (second : 1 ≤ (s.sensor c).inRangeRun) (room : s.events.queue.length < s.events.limit) :
    ∃ rest, (converted c code s).events.queue = s.events.queue ++
      ⟨.sensorRestored, .sensor c, 0, s.seconds,
        BitVec.ofInt 32 (codeTemperature (s.sensor c).gain (s.sensor c).offset code.toNat)⟩ :: rest := by
  have raised : EventsGrow (raise .sensorRestored (.sensor c) 0
      (codeTemperature (s.sensor c).gain (s.sensor c).offset code.toNat)
      (s.modSensor c (Sensor.taken code .valid))) (inRangeCode c code s) := by
    rw [inRangeCode_restores c code s faulted second]
    exact .of_eq (setConditions_events ..)
  rw [converted_inRange low high]
  have grown := raised.trans (evaluateZone_thermalStep (s.sensor c).zone _).events
  exact EventsGrow.after_raise (s := s.modSensor c _) room grown

end Judgement

/-! ### The statement -/

/-- Settles O38: the judgement of the code fixes the channel's record, and the re-evaluation of the zone that follows
leaves the channels, the SENSOR_FAULT conditions and the events already raised. -/
theorem inRangeCodeIsConverted : Obligations.InRangeCodeIsConverted := by
  intro c code s low high
  dsimp only
  have zoneJudged := converted_inRange (c := c) (s := s) low high
  rw [converted_sensor_self low high]
  have stored : ∀ st, (s.modSensor c fun x =>
      { x with lastCode := code, reading := ((s.sensor c).taken code (s.sensor c).judged).reading
               inRangeRun := x.inRangeRun + 1, railRun := 0, status := st }) =
      s.modSensor c (Sensor.taken code st) := fun _ => State.modSensor_congr rfl
  have notFaulted : (s.sensor c).status = .initial ∨ (s.sensor c).status = .valid →
      (s.sensor c).status ≠ .faulted := by
    rintro (h | h) <;> rw [h] <;> decide
  refine ⟨codeTemperature_eq .., rfl, rfl, rfl, fun status => ?_, fun faulted first => ?_,
    fun faulted second => ?_, ⟨fun status => ?_, fun faulted first => ?_, fun faulted second => ⟨?_, ?_, ?_⟩⟩,
    rfl, rfl, rfl, rfl, rfl, rfl, fun d other => converted_sensor_ne low high other⟩
  · rw [Sensor.judged_of_not_faulted (notFaulted status)]
    exact ⟨rfl, Sensor.validReading_taken ..⟩
  · rw [Sensor.judged_first faulted first]
    exact ⟨rfl, Sensor.validReading_taken_faulted ..⟩
  · rw [Sensor.judged_restored second]
    exact ⟨rfl, Sensor.validReading_taken ..⟩
  · rw [stored, zoneJudged, inRangeCode_of_not_faulted c code s (notFaulted status)]
  · rw [stored, zoneJudged, inRangeCode_first c code s faulted first]
  · rw [stored, zoneJudged, inRangeCode_restores c code s faulted second, Sensor.taken]
  · exact fun e he key => converted_endsFault low high faulted second he key
  · exact converted_raisesRestored low high faulted second

end Sys2Proof.Machine

/-! PROOFS. Forwarding downstream: what a delivery on one bay port and on several in turn changes, which bays a flood
reaches, and from that where a frame goes (R140, R141). -/

namespace Sys2Proof.Machine

/-! ### Deliveries (R140) -/

/-- The record of a bay that has taken one more frame down. -/
def Bay.delivered (y : Bay) : Bay :=
  { y with counters := { y.counters with framesDown := sat32 y.counters.framesDown } }

/-- On the bays' records a delivery is the count of one frame. -/
theorem deliver_bay (f : Frame) (b : BayIx) (s : State) (c : BayIx) :
    (deliver f b s).bay c = (s.countBay b fun n => { n with framesDown := sat32 n.framesDown }).bay c := rfl

@[simp] theorem deliver_bay_self (f : Frame) (b : BayIx) (s : State) :
    (deliver f b s).bay b = (s.bay b).delivered := by
  rw [deliver_bay, State.countBay_bay_self, Bay.delivered]

theorem deliver_bay_ne (f : Frame) {b c : BayIx} (h : c ≠ b) (s : State) : (deliver f b s).bay c = s.bay c := by
  rw [deliver_bay, State.countBay_bay_ne s h]

@[simp] theorem deliver_sent (f : Frame) (b : BayIx) (s : State) :
    (deliver f b s).sent = s.sent ++ [.bay b (stripTag f)] := rfl

theorem deliver_only (f : Frame) (b : BayIx) (s : State) :
    deliver f b s = { s with bays := (deliver f b s).bays, sent := (deliver f b s).sent } := rfl

/-- The frame delivered on each bay port of a list in turn. -/
def deliverAll (f : Frame) (l : List BayIx) (s : State) : State := l.foldl (fun s b => deliver f b s) s

@[simp] theorem deliverAll_nil (f : Frame) (s : State) : deliverAll f [] s = s := rfl

@[simp] theorem deliverAll_cons (f : Frame) (b : BayIx) (l : List BayIx) (s : State) :
    deliverAll f (b :: l) s = deliverAll f l (deliver f b s) := rfl

theorem deliverAll_only (f : Frame) (l : List BayIx) (s : State) :
    deliverAll f l s = { s with bays := (deliverAll f l s).bays, sent := (deliverAll f l s).sent } := by
  induction l generalizing s with
  | nil => rfl
  | cons b l ih => rw [deliverAll_cons, ih, deliver_only]

theorem deliverAll_sent (f : Frame) (l : List BayIx) (s : State) :
    (deliverAll f l s).sent = s.sent ++ l.map fun b => .bay b (stripTag f) := by
  induction l generalizing s with
  | nil => simp
  | cons b l ih => simp [ih]

theorem deliverAll_bay_of_notMem (f : Frame) {l : List BayIx} {c : BayIx} (h : c ∉ l) (s : State) :
    (deliverAll f l s).bay c = s.bay c := by
  induction l generalizing s with
  | nil => rfl
  | cons b l ih =>
    rw [deliverAll_cons, ih (List.not_mem_of_not_mem_cons h), deliver_bay_ne f (List.ne_of_not_mem_cons h)]

/-- A bay named once in the list takes the frame once. -/
theorem deliverAll_bay_of_mem (f : Frame) {l : List BayIx} (once : l.Nodup) {c : BayIx} (h : c ∈ l) (s : State) :
    (deliverAll f l s).bay c = (s.bay c).delivered := by
  induction l generalizing s with
  | nil => exact absurd h List.not_mem_nil
  | cons b l ih =>
    obtain ⟨fresh, rest⟩ := List.nodup_cons.mp once
    rw [deliverAll_cons]
    rcases List.mem_cons.mp h with rfl | later
    · rw [deliverAll_bay_of_notMem f fresh, deliver_bay_self]
    · have other : c ≠ b := fun same => fresh (same ▸ later)
      rw [ih rest later, deliver_bay_ne f other]

/-! ### The checks of a frame for one bay (R140) -/

section DeliverTo

variable {u : UplinkIx} {set : List GroupIx} {b : BayIx} {s : State} (f : Frame)

theorem deliverTo_blocked (closed : (s.bay b).state.forwarding = false) :
    deliverTo u f set b s = s.countBay b fun c => { c with blocked := sat32 c.blocked } := by
  simp only [deliverTo, closed, Bool.not_false, if_true]

variable (isOpen : (s.bay b).state.forwarding = true)
include isOpen

theorem deliverTo_notActive (other : (s.bay b).activeUplink ≠ some u) :
    deliverTo u f set b s = s.countBay b fun c => { c with notActive := sat32 c.notActive } := by
  simp only [deliverTo, isOpen, Bool.not_true, Bool.false_eq_true, if_false, if_pos other]

theorem deliverTo_groupMismatch (active : (s.bay b).activeUplink = some u)
    (outside : (s.bay b).settings.group ∉ set) :
    deliverTo u f set b s = s.countBay b fun c => { c with groupMismatch := sat32 c.groupMismatch } := by
  simp [deliverTo, isOpen, active, outside]

theorem deliverTo_delivers (active : (s.bay b).activeUplink = some u) (inside : (s.bay b).settings.group ∈ set) :
    deliverTo u f set b s = deliver f b s := by
  simp [deliverTo, isOpen, active, inside]

end DeliverTo

/-! ### Flooding (R141) -/

/-- The bay meets the conditions of R141: an open port, on that uplink, in a group of the set. -/
def takesFlood (u : UplinkIx) (set : List GroupIx) (s : State) (b : BayIx) : Bool :=
  (s.bay b).state.forwarding && (s.bay b).activeUplink = some u && decide ((s.bay b).settings.group ∈ set)

section Flood

variable {u : UplinkIx} {set : List GroupIx} {s : State} (f : Frame)

theorem mem_floodBays {b : BayIx} : b ∈ floodBays u set s ↔ takesFlood u set s b = true := by
  simp only [floodBays, takesFlood, List.mem_filter, mem_allBays, true_and, List.contains_eq_mem]

theorem floodBays_nodup : (floodBays u set s).Nodup := allBays_nodup.filter _

theorem flood_noBay (nobody : ∀ b, takesFlood u set s b = false) :
    flood u f set s = s.countUplink u fun c => { c with noBay := sat32 c.noBay } := by
  have empty : floodBays u set s = [] := List.eq_nil_iff_forall_not_mem.mpr fun b member =>
    Bool.false_ne_true ((nobody b).symm.trans (mem_floodBays.mp member))
  rw [flood, empty]
  rfl

theorem flood_delivers (somebody : ∃ b, takesFlood u set s b = true) :
    flood u f set s = deliverAll f (floodBays u set s) s := by
  obtain ⟨b, takes⟩ := somebody
  have nonempty : ¬ (floodBays u set s).isEmpty = true := fun empty =>
    List.ne_nil_of_mem (mem_floodBays.mpr takes) (List.isEmpty_iff.mp empty)
  exact if_neg nonempty

/-- A bay's record changes by exactly one delivery if it meets the conditions, and else not at all. -/
theorem deliverAll_floodBays_bay (b : BayIx) :
    (deliverAll f (floodBays u set s) s).bay b =
      if takesFlood u set s b = true then (s.bay b).delivered else s.bay b := by
  split
  case isTrue takes => exact deliverAll_bay_of_mem f floodBays_nodup (mem_floodBays.mpr takes) s
  case isFalse refuses => exact deliverAll_bay_of_notMem f (refuses ∘ mem_floodBays.mp) s

/-- The copies sent: one for each bay that meets the conditions, none twice. -/
theorem floodCopies_spec :
    let copies := (floodBays u set s).map fun b => Sent.bay b (stripTag f)
    (∀ x, x ∈ copies ↔ ∃ b, takesFlood u set s b = true ∧ x = .bay b (stripTag f)) ∧ copies.Nodup := by
  refine ⟨fun x => ?_, List.Pairwise.map _ (fun b c other same => other (Sent.bay.inj same).1) floodBays_nodup⟩
  simp only [List.mem_map, mem_floodBays, eq_comm (a := x)]

end Flood

/-! ### Where a frame that the watch units let pass goes (R138) -/

section SendDown

variable {u : UplinkIx} {f : Frame} {set : List GroupIx} {s : State}

/-- The entry of the destination after the watch units decides. -/
theorem sendDown_passed (passed : (watch (downstreamFields u f set s) f s).1 = false) :
    let w := (watch (downstreamFields u f set s) f s).2
    (∀ i e, destEntry f w = some (i, e) → sendDown u f set s = deliverTo u f set e.bay w) ∧
    (destEntry f w = none → sendDown u f set s = flood u f set w) := by
  rcases judged : watch (downstreamFields u f set s) f s with ⟨dropped, w⟩
  rw [judged] at passed
  obtain rfl : dropped = false := passed
  constructor
  · intro i e entry
    simp only [sendDown, judged, entry]
  · intro entry
    simp only [sendDown, judged, entry]

theorem destEntry_unicast (unicast : isGroup (frameDst f) = false) : destEntry f s = stationOf (frameDst f) s := by
  rw [destEntry, unicast, if_neg Bool.false_ne_true]

theorem destEntry_none (h : isGroup (frameDst f) = true ∨ stationOf (frameDst f) s = none) :
    destEntry f s = none := by
  unfold destEntry
  split
  case isTrue => rfl
  case isFalse unicast => exact h.resolve_left unicast

end SendDown

/-! ### The statement -/

/-- Settles O50: the destination's entry chooses between one bay and a flood, and the copies of a flood go to bays
each listed once, so each delivery meets a record no other one has changed. -/
theorem deliveryAndFlooding : Obligations.DeliveryAndFlooding := by
  intro u f set s
  dsimp only
  refine ⟨fun i e passed unicast entry => ?_, fun passed unknown => ?_, fun b => deliverTo_blocked f,
    fun b => deliverTo_notActive f, fun b => deliverTo_groupMismatch f, fun b => deliverTo_delivers f,
    flood_noBay f, fun somebody => ?_⟩
  · exact (sendDown_passed passed).1 i e ((destEntry_unicast unicast).trans entry)
  · exact (sendDown_passed passed).2 (destEntry_none unknown)
  · rw [flood_delivers f somebody]
    exact ⟨deliverAll_floodBays_bay f, ⟨_, deliverAll_sent .., floodCopies_spec f⟩, deliverAll_only ..⟩

end Sys2Proof.Machine

/-! PROOFS. Power-on reset: the levels of the pins while PORST_N is low, what the zones' power-on values depend on,
and from that the levels at its rising edge (R196, R118). -/

namespace Sys2Proof.Machine

/-! ### The pins (R196) -/

section Pins
variable {s : State}

/-- Every output at its inactive level. -/
def PinsInactive (s : State) : Prop :=
  (∀ b, pinStandby b s = false ∧ pinMain b s = false ∧ pinLed b s = false) ∧ pinIref s = 0 ∧ pinFault s = false

theorem pinsInactive_of_low (low : s.porstLow = true) : PinsInactive s := by
  simp [PinsInactive, pinStandby, pinMain, pinLed, pinIref, pinFault, low]

theorem pinPwm_of_low (low : s.porstLow = true) (z : ZoneIx) : (pinPwm z s).1 = 0 := by
  simp [pinPwm, low]

theorem pinPwm_of_high (high : s.porstLow = false) (z : ZoneIx) :
    pinPwm z s = ((s.zone z).compare, (s.zone z).settings.period) := by
  simp [pinPwm, high]

/-- Out of reset the outputs are still inactive where the enables are deasserted, the LEDs' pattern is the dark one,
and the IREF code and FAULT_IND are 0. -/
theorem pinsInactive_of_idle
    (bays : ∀ b, (s.bay b).standbyEnable = false ∧ (s.bay b).mainEnable = false ∧ (s.bay b).state.led = .dark)
    (iref : s.ramp.iref = 0) (fault : s.faultInd = false) : PinsInactive s := by
  refine ⟨fun b => ?_, ?_, ?_⟩
  · obtain ⟨standby, main, led⟩ := bays b
    simp [pinStandby, pinMain, pinLed, standby, main, led, LedPattern.lit]
  · simp [pinIref, iref]
  · simp [pinFault, fault]

end Pins

/-! ### Fans and zones at the rising edge (R118) -/

section Zones
variable (straps : BitVec 4) (fans : BitVec 6)

theorem Fan.atReset_healthy (f : FanIx) : (Fan.atReset fans f).health = .healthy ↔ fans.getLsbD f.val = true := by
  unfold Fan.atReset
  split <;> simp_all [Fan.reset]

/-- A zone's values at reset with `h` of its fans healthy and the limit `limit`. -/
def Zone.atReset (h limit : Nat) (x : Zone) : Zone :=
  { x.drive (if h = 2 then x.settings.failsafe else 1000) with limit := limit }

theorem zoneAtReset_eq (z : ZoneIx) (s : State) :
    zoneAtReset z s = s.modZone z (Zone.atReset (healthyCount z s) (zoneLimit z s)) := by
  unfold zoneAtReset State.modZone Zone.atReset zoneUnhealthy
  by_cases h : healthyCount z s = 2 <;> simp [h]

theorem zoneAtReset_zone_self (z : ZoneIx) (s : State) :
    (zoneAtReset z s).zone z = (s.zone z).atReset (healthyCount z s) (zoneLimit z s) := by
  rw [zoneAtReset_eq, State.modZone_zone_self]

theorem zoneAtReset_zone_ne {z y : ZoneIx} (h : y ≠ z) (s : State) : (zoneAtReset z s).zone y = s.zone y := by
  rw [zoneAtReset_eq, State.modZone_zone_ne s h]

theorem zoneAtReset_fans (z : ZoneIx) (s : State) : (zoneAtReset z s).fans = s.fans := rfl

theorem healthyCount_congr {s t : State} (h : t.fans = s.fans) (z : ZoneIx) : healthyCount z t = healthyCount z s := by
  unfold healthyCount State.fan
  rw [h]

theorem zoneLimit_congr {s t : State} {z : ZoneIx} (hf : t.fans = s.fans) (hz : t.zone z = s.zone z) :
    zoneLimit z t = zoneLimit z s := by
  simp only [zoneLimit, healthyCount_congr hf, hz]

/-- Setting the zones of a list leaves every other block as it was. -/
theorem zonesAtReset_only (l : List ZoneIx) (s : State) :
    l.foldl (fun s z => zoneAtReset z s) s =
      { s with zones := (l.foldl (fun s z => zoneAtReset z s) s).zones } := by
  induction l generalizing s with
  | nil => rfl
  | cons z l ih => exact ih (zoneAtReset z s)

theorem zonesAtReset_zone_of_notMem {l : List ZoneIx} {z : ZoneIx} (h : z ∉ l) (s : State) :
    (l.foldl (fun s z => zoneAtReset z s) s).zone z = s.zone z := by
  induction l generalizing s with
  | nil => rfl
  | cons y l ih =>
    obtain ⟨ne, rest⟩ := not_or.mp (mt List.mem_cons.mpr h)
    exact (ih rest _).trans (zoneAtReset_zone_ne ne s)

/-- A zone listed once takes its values from its own record and the fans, neither of which the others change. -/
theorem zonesAtReset_zone_of_mem {l : List ZoneIx} (once : l.Nodup) {z : ZoneIx} (h : z ∈ l) (s : State) :
    (l.foldl (fun s z => zoneAtReset z s) s).zone z =
      (s.zone z).atReset (healthyCount z s) (zoneLimit z s) := by
  induction l generalizing s with
  | nil => cases h
  | cons y l ih =>
    obtain ⟨fresh, once⟩ := List.nodup_cons.mp once
    by_cases e : z = y
    · subst e
      exact (zonesAtReset_zone_of_notMem fresh _).trans (zoneAtReset_zone_self z s)
    · have same := zoneAtReset_zone_ne e s
      have fansSame := zoneAtReset_fans y s
      rw [List.foldl_cons, ih once (List.mem_of_ne_of_mem e h), same, healthyCount_congr fansSame,
        zoneLimit_congr fansSame same]

/-- The reset state with the straps and the fan presence sampled at the rising edge, before the zones' outputs. -/
def State.sampled (straps : BitVec 4) (fans : BitVec 6) : State :=
  { State.reset with
    agent := { State.reset.agent with straps := straps }
    fans := ⟨allFans.map (Fan.atReset fans), rfl⟩ }

theorem powerOn_eq_foldl :
    powerOn straps fans = allZones.foldl (fun s z => zoneAtReset z s) (State.sampled straps fans) := rfl

theorem allFans_getElem (f : FanIx) : allFans[f.val]'f.isLt = f := by revert f; decide
theorem allBays_getElem (b : BayIx) : allBays[b.val]'b.isLt = b := by revert b; decide

theorem State.sampled_fan (f : FanIx) : (State.sampled straps fans).fan f = Fan.atReset fans f :=
  (List.getElem_map ..).trans (congrArg _ (allFans_getElem f))

theorem State.sampled_bay (b : BayIx) : (State.sampled straps fans).bay b = .reset b :=
  (List.getElem_map ..).trans (congrArg _ (allBays_getElem b))

theorem State.sampled_zone (z : ZoneIx) : (State.sampled straps fans).zone z = .reset := Tab.get_fill ..

/-- The two fans of a zone. -/
theorem allFans_filter_zone (z : ZoneIx) :
    (allFans.filter fun f => f.val / 2 = z.val) = [⟨2 * z.val, by omega⟩, ⟨2 * z.val + 1, by omega⟩] := by
  revert z; decide

/-- At reset a zone has as many healthy fans as are present of its two. -/
theorem healthyCount_sampled (z : ZoneIx) :
    healthyCount z (State.sampled straps fans) =
      (fans.getLsbD (2 * z.val)).toNat + (fans.getLsbD (2 * z.val + 1)).toNat := by
  simp only [healthyCount, State.sampled_fan, Fan.atReset_healthy, Bool.decide_eq_true, ← List.filter_filter,
    Bool.and_comm (decide (_ = z.val)), allFans_filter_zone, List.filter_cons, List.filter_nil]
  cases fans.getLsbD (2 * z.val) <;> cases fans.getLsbD (2 * z.val + 1) <;> rfl

theorem powerOn_only :
    powerOn straps fans = { State.sampled straps fans with zones := (powerOn straps fans).zones } :=
  zonesAtReset_only ..

theorem powerOn_zone (z : ZoneIx) :
    (powerOn straps fans).zone z =
      Zone.reset.atReset ((fans.getLsbD (2 * z.val)).toNat + (fans.getLsbD (2 * z.val + 1)).toNat)
        (zoneLimit z (State.sampled straps fans)) := by
  rw [powerOn_eq_foldl, zonesAtReset_zone_of_mem (by decide) (mem_allZones z), State.sampled_zone,
    healthyCount_sampled]

/-- The zone's drive at the rising edge: the failsafe duty of 600 with both fans present, else 1000 (R117, R118). -/
theorem powerOn_pwm (z : ZoneIx) :
    pinPwm z (powerOn straps fans) =
      (if fans.getLsbD (2 * z.val) && fans.getLsbD (2 * z.val + 1) then 150 else 250, 250) := by
  rw [pinPwm_of_high (by rw [powerOn_only]; rfl), powerOn_zone]
  cases fans.getLsbD (2 * z.val) <;> cases fans.getLsbD (2 * z.val + 1) <;> rfl

theorem powerOn_pinsInactive : PinsInactive (powerOn straps fans) := by
  have bay : ∀ b, (powerOn straps fans).bay b = .reset b := fun b => by
    rw [powerOn_only]
    exact State.sampled_bay straps fans b
  refine pinsInactive_of_idle (fun b => ?_) ?_ ?_
  · rw [bay]
    exact ⟨rfl, rfl, rfl⟩
  · rw [powerOn_only]
    rfl
  · rw [powerOn_only]
    rfl

end Zones

/-! ### The statement -/

theorem exec_powerOnReset_low (straps : BitVec 4) (fans : BitVec 6) (s : State) :
    exec (.powerOnReset false straps fans) s = .next { s with porstLow := true } := rfl

theorem exec_powerOnReset_high (straps : BitVec 4) (fans : BitVec 6) (s : State) :
    exec (.powerOnReset true straps fans) s = .next { powerOn straps fans with pending := s.pending } := rfl

/-- Settles O3: the level of a pin depends on the reset line and its own block, and the blocks at the rising edge are
those of power-on whatever was there before; the queue kept across it reaches no pin. -/
theorem outputsInResetAndAfter : Obligations.OutputsInResetAndAfter := by
  intro s straps fans
  refine ⟨⟨_, exec_powerOnReset_low straps fans s, rfl⟩, fun low => ?_,
    ⟨_, exec_powerOnReset_high straps fans s, ?_⟩⟩
  · obtain ⟨bays, iref, fault⟩ := pinsInactive_of_low low
    exact ⟨bays, iref, fault, pinPwm_of_low low⟩
  · obtain ⟨bays, iref, fault⟩ := powerOn_pinsInactive straps fans
    exact ⟨bays, iref, fault, powerOn_pwm straps fans⟩

end Sys2Proof.Machine

/-! PROOFS. The inventory store: the first fit, the longest free run, compaction, writing and freeing, slot by slot,
and what each keeps of the store's law. -/

namespace Sys2Proof

/-- A table's entries in index order. -/
theorem Tab.items_eq_map {α : Type} {n : Nat} (t : Tab α n) : t.items = (List.finRange n).map t.get := by
  apply List.ext_getElem
  · simp [t.len]
  · intro i h k
    simp [Tab.get]

theorem Tab.length_filter_items {α : Type} {n : Nat} (t : Tab α n) (p : α → Bool) :
    (t.items.filter p).length = ((List.finRange n).filter fun i => p (t.get i)).length := by
  rw [t.items_eq_map, List.filter_map, List.length_map]
  rfl

namespace Machine

/-! ### Choices and lists -/

theorem ite_congr_of_iff {α : Sort _} {p q : Prop} [Decidable p] [Decidable q] {a b x y : α} (h : p ↔ q) (yes : a = x)
    (no : b = y) : (if p then a else b) = if q then x else y :=
  ite_congr (propext h) (fun _ => yes) fun _ => no

theorem length_filter_mono {α : Type} {l : List α} {p q : α → Bool} (h : ∀ x ∈ l, p x = true → q x = true) :
    (l.filter p).length ≤ (l.filter q).length := by
  rw [← List.countP_eq_length_filter, ← List.countP_eq_length_filter]
  exact List.countP_mono_left h

theorem sum_map_mono {α : Type} {l : List α} {f g : α → Nat} (h : ∀ x ∈ l, f x ≤ g x) : (l.map f).sum ≤ (l.map g).sum := by
  induction l with
  | nil => exact Nat.le_refl 0
  | cons x l ih =>
    rw [List.map_cons, List.map_cons, List.sum_cons, List.sum_cons]
    exact Nat.add_le_add (h x List.mem_cons_self) (ih fun y hy => h y (List.mem_cons_of_mem x hy))

/-! ### Runs of free slots -/

/-- The slot at an index of a list is there and free. -/
def freeAt (l : List Slot) (i : Nat) : Prop := ∃ x, l[i]? = some x ∧ x.isFree = true

/-- The `n` slots from an index on are there and free. -/
def freeRun (l : List Slot) (start n : Nat) : Prop :=
  start + n ≤ l.length ∧ ∀ i, start ≤ i → i < start + n → freeAt l i

theorem freeAt_append_left {l k : List Slot} {i : Nat} (h : i < l.length) : freeAt (l ++ k) i ↔ freeAt l i := by
  unfold freeAt
  rw [List.getElem?_append_left h]

theorem freeAt_concat {l : List Slot} {x : Slot} : freeAt (l ++ [x]) l.length ↔ x.isFree = true := by
  simp [freeAt]

theorem freeRun_append_left {l k : List Slot} {start n : Nat} (h : start + n ≤ l.length) :
    freeRun (l ++ k) start n ↔ freeRun l start n := by
  unfold freeRun
  rw [List.length_append]
  constructor
  · rintro ⟨-, f⟩
    exact ⟨h, fun i lo hi => (freeAt_append_left (by omega)).mp (f i lo hi)⟩
  · rintro ⟨-, f⟩
    exact ⟨by omega, fun i lo hi => (freeAt_append_left (by omega)).mpr (f i lo hi)⟩

/-- What first fit answers: the lowest run that is long enough, or that there is none. -/
def FirstFitOk (n : Nat) (l : List Slot) : Option Nat → Prop
  | some k => freeRun l k n ∧ ∀ lower, lower < k → ¬ freeRun l lower n
  | none => ∀ k, ¬ freeRun l k n

/-- First fit over the rest of a list: `start` and `run` are the free run that ends where the rest begins. -/
theorem firstFit_spec (n : Nat) (l : List Slot) : ∀ (pre : List Slot) (start run : Nat), start + run = pre.length →
    run < n → (∀ i, start ≤ i → i < start + run → freeAt pre i) →
    (∀ lower, lower < start → ¬ freeRun (pre ++ l) lower n) → FirstFitOk n (pre ++ l) (firstFit n l start run) := by
  induction l with
  | nil =>
    intro pre start run len short free lower k h
    by_cases hk : k < start
    · exact lower k hk h
    · have := h.1
      rw [List.append_nil] at this
      omega
  | cons x l ih =>
    intro pre start run len short free lower
    have whole : pre ++ x :: l = (pre ++ [x]) ++ l := by simp
    unfold firstFit
    split
    case isTrue hx =>
      have free' : ∀ i, start ≤ i → i < start + (run + 1) → freeAt (pre ++ [x]) i := by
        intro i lo hi
        by_cases e : i < pre.length
        · exact (freeAt_append_left e).mpr (free i lo (by omega))
        · rw [show i = pre.length by omega]
          exact freeAt_concat.mpr hx
      split
      case isTrue e =>
        refine ⟨⟨by simp; omega, fun i lo hi => ?_⟩, lower⟩
        rw [whole, freeAt_append_left (by simp; omega)]
        exact free' i lo (by omega)
      case isFalse e =>
        rw [whole] at lower ⊢
        exact ih _ start (run + 1) (by simp; omega) (by omega) free' lower
    case isFalse hx =>
      rw [whole] at lower ⊢
      refine ih _ (start + run + 1) 0 (by simp; omega) (by omega) (fun i lo hi => by omega) fun k hk h => ?_
      by_cases hs : k < start
      · exact lower k hs h
      · have f := h.2 (start + run) (by omega) (by omega)
        rw [len, freeAt_append_left (by simp), freeAt_concat] at f
        exact hx f

theorem firstFit_ok {n : Nat} (h : 1 ≤ n) (l : List Slot) : FirstFitOk n l (firstFit n l 0 0) :=
  firstFit_spec n l [] 0 0 rfl h (fun i lo hi => by omega) (fun lower hl => by omega)

/-- The longest free run over the rest of a list: `run` slots are free just before the rest, and no more. -/
theorem longestFree_spec (l : List Slot) : ∀ (pre : List Slot) (run best : Nat), run ≤ pre.length →
    (∀ i, pre.length - run ≤ i → i < pre.length → freeAt pre i) →
    (run < pre.length → ¬ freeAt pre (pre.length - run - 1)) →
    (∃ start, freeRun pre start best) → (∀ start n, freeRun pre start n → n ≤ best) →
    (∃ start, freeRun (pre ++ l) start (longestFree l run best)) ∧
      ∀ start n, freeRun (pre ++ l) start n → n ≤ longestFree l run best := by
  induction l with
  | nil =>
    intro pre run best _ _ _ reach bound
    rw [List.append_nil]
    exact ⟨reach, bound⟩
  | cons x l ih =>
    intro pre run best short free stop reach bound
    have whole : pre ++ x :: l = (pre ++ [x]) ++ l := by simp
    have older : ∀ start n, start + n ≤ pre.length → freeRun (pre ++ [x]) start n → n ≤ best := fun start n le h =>
      bound start n ((freeRun_append_left le).mp h)
    obtain ⟨start, reached⟩ := reach
    have reached' := (freeRun_append_left (k := [x]) reached.1).mpr reached
    rw [whole]
    unfold longestFree
    split
    case isTrue hx =>
      have free' : ∀ i, (pre ++ [x]).length - (run + 1) ≤ i → i < (pre ++ [x]).length → freeAt (pre ++ [x]) i := by
        simp only [List.length_append, List.length_singleton]
        intro i lo hi
        by_cases e : i < pre.length
        · exact (freeAt_append_left e).mpr (free i (by omega) e)
        · rw [show i = pre.length by omega]
          exact freeAt_concat.mpr hx
      refine ih _ (run + 1) (max best (run + 1)) (by simp; omega) free' (fun lt => ?_) ?_ fun k n h => ?_
      · simp only [List.length_append, List.length_singleton] at lt ⊢
        rw [freeAt_append_left (by omega), show pre.length + 1 - (run + 1) - 1 = pre.length - run - 1 by omega]
        exact stop (by omega)
      · rcases Nat.le_total best (run + 1) with le | le
        · rw [Nat.max_eq_right le]
          exact ⟨pre.length - run, by simp; omega, fun i lo hi => free' i (by simp; omega) (by simp; omega)⟩
        · rw [Nat.max_eq_left le]
          exact ⟨start, reached'⟩
      · by_cases e : k + n ≤ pre.length
        · exact Nat.le_trans (older k n e h) (Nat.le_max_left _ _)
        · have len := h.1
          simp only [List.length_append, List.length_singleton] at len
          refine Nat.le_trans ?_ (Nat.le_max_right _ _)
          refine Classical.byContradiction fun more => ?_
          have f := h.2 (pre.length - run - 1) (by omega) (by omega)
          rw [freeAt_append_left (by omega)] at f
          exact stop (by omega) f
    case isFalse hx =>
      refine ih _ 0 best (Nat.zero_le _) (fun i lo hi => by omega) (fun _ => ?_) ⟨start, reached'⟩ fun k n h => ?_
      · rw [show (pre ++ [x]).length - 0 - 1 = pre.length by simp, freeAt_concat]
        exact hx
      · by_cases e : k + n ≤ pre.length
        · exact older k n e h
        · refine Classical.byContradiction fun more => ?_
          have len := h.1
          simp only [List.length_append, List.length_singleton] at len
          have f := h.2 pre.length (by omega) (by omega)
          rw [freeAt_concat] at f
          exact hx f

theorem longestFree_ok (l : List Slot) : (∃ start, freeRun l start (longestFree l 0 0)) ∧
    ∀ start n, freeRun l start n → n ≤ longestFree l 0 0 := by
  refine longestFree_spec l [] 0 0 (Nat.le_refl _) (fun i _ hi => by cases hi) (fun h => by cases h)
    ⟨0, by simp [freeRun]⟩ fun start n h => ?_
  have := h.1
  simp only [List.length_nil] at this
  omega

/-- A run of free slots holds no more than there are. -/
theorem freeRun_le_count {l : List Slot} {start n : Nat} (h : freeRun l start n) :
    n ≤ (l.filter Slot.isFree).length := by
  have sub : ((l.drop start).take n).Sublist l := (List.take_sublist _ _).trans (List.drop_sublist _ _)
  have all : ((l.drop start).take n).filter Slot.isFree = (l.drop start).take n := by
    refine List.filter_eq_self.mpr fun x hx => ?_
    obtain ⟨i, hi, rfl⟩ := List.getElem_of_mem hx
    rw [List.length_take, List.length_drop] at hi
    obtain ⟨y, hy, free⟩ := h.2 (start + i) (Nat.le_add_right _ _) (by omega)
    rw [List.getElem_take, List.getElem_drop]
    rw [List.getElem?_eq_some_iff] at hy
    obtain ⟨_, rfl⟩ := hy
    exact free
  calc n = ((l.drop start).take n).length := by rw [List.length_take, List.length_drop]; have := h.1; omega
    _ = (((l.drop start).take n).filter Slot.isFree).length := by rw [all]
    _ ≤ (l.filter Slot.isFree).length := (sub.filter _).length_le


/-! ### The store's runs -/

variable {s t : State} {o : Owner}

theorem isFree_iff {x : Slot} : x.isFree = true ↔ x.owner = none := by simp [Slot.isFree]

/-- The `n` slots of the store from an index on are free. -/
theorem freeRun_store {start n : Nat} : freeRun s.store.slots.items start n ↔
    start + n ≤ 128 ∧ ∀ i, start ≤ i → i < start + n → ∀ j : Fin 128, j.val = i → (s.store.slots.get j).owner = none := by
  unfold freeRun
  rw [s.store.slots.len]
  refine and_congr_right fun le => forall_congr' fun i => forall_congr' fun _ => forall_congr' fun hi => ?_
  constructor
  · rintro ⟨x, hx, free⟩ j rfl
    rw [Tab.get_eq_getElem?] at hx
    rw [Option.some.inj hx]
    exact isFree_iff.mp free
  · intro h
    exact ⟨_, s.store.slots.get_eq_getElem? ⟨i, by omega⟩, isFree_iff.mpr (h ⟨i, by omega⟩ rfl)⟩

/-! ### Reservation (R52) -/

/-- A slot reserved as block `i - start` of an owner's record. -/
def reservedBlock (o : Owner) (start i : Nat) : Slot :=
  ⟨some o, i - start, decide (start < i), .reading, List.replicate 16 0⟩

theorem reserveAt_slot (o : Owner) (start n : Nat) (s : State) (i : Fin 128) :
    (reserveAt o start n s).store.slots.get i =
      if start ≤ i.val ∧ i.val < start + n then reservedBlock o start i.val else s.store.slots.get i := by
  unfold reserveAt
  rw [Tab.get_mapIdx]
  simp only [reservedSlot, Bool.and_eq_true, decide_eq_true_eq]
  rfl

theorem firstFit_eq {n start : Nat} (hn : 1 ≤ n) (run : freeRun s.store.slots.items start n)
    (lowest : ∀ lower, lower < start → ¬ freeRun s.store.slots.items lower n) :
    firstFit n s.store.slots.items 0 0 = some start := by
  have ok := firstFit_ok hn s.store.slots.items
  cases h : firstFit n s.store.slots.items 0 0 with
  | none => rw [h] at ok; exact absurd run (ok start)
  | some k =>
    rw [h] at ok
    obtain ⟨found, lower⟩ := ok
    have := mt (lower start) (Classical.not_not.mpr run)
    have := mt (lowest k) (Classical.not_not.mpr found)
    congr
    omega

theorem firstFit_none {n : Nat} (hn : 1 ≤ n) (none : ∀ start, ¬ freeRun s.store.slots.items start n) :
    firstFit n s.store.slots.items 0 0 = .none := by
  have ok := firstFit_ok hn s.store.slots.items
  cases h : firstFit n s.store.slots.items 0 0 with
  | none => rfl
  | some k => rw [h] at ok; exact absurd ok.1 (none k)

/-- A reservation refused for want of free slots. -/
theorem reserve_refused {n : Nat} (h : freeSlots s < n) : reserve o n s = none := by
  have none : firstFit n s.store.slots.items 0 0 = .none :=
    firstFit_none (by omega) fun start run => by have := freeRun_le_count run; unfold freeSlots at h; omega
  unfold reserve
  rw [none]
  exact if_neg (by omega)

/-! ### Compaction (R53) -/

theorem isFree_eq_decide (x : Slot) : x.isFree = decide (x.owner = none) :=
  Bool.eq_iff_iff.mpr (by rw [isFree_iff, decide_eq_true_eq])

theorem compact_items (s : State) : (compact s).store.slots.items =
    s.store.slots.items.filter (fun x => decide (x.owner ≠ none)) ++
      s.store.slots.items.filter (fun x => decide (x.owner = none)) := by
  show s.store.slots.items.filter _ ++ s.store.slots.items.filter _ = _
  simp only [isFree_eq_decide, Bool.not_not, decide_not, ne_eq]

theorem compact_freeSlots (s : State) : freeSlots (compact s) = freeSlots s := by
  unfold freeSlots
  rw [compact_items, List.filter_append, List.length_append, List.filter_filter, List.filter_filter]
  have occupied : (s.store.slots.items.filter fun x => x.isFree && decide (x.owner ≠ none)) = [] :=
    List.filter_eq_nil_iff.mpr fun x _ => by simp [isFree_eq_decide]
  rw [occupied, List.length_nil, Nat.zero_add]
  congr 1
  exact List.filter_congr fun x _ => by simp [isFree_eq_decide]

theorem freeSlots_eq (s : State) : freeSlots s =
    ((List.finRange 128).filter fun i => decide ((s.store.slots.get i).owner = none)).length := by
  unfold freeSlots
  rw [Tab.length_filter_items]
  congr 1
  exact List.filter_congr fun i _ => isFree_eq_decide _

/-! ### Writing (R43, R53) -/

theorem writeBlock_slot (o : Owner) (k : Nat) (data : Option (List Byte)) (s : State) (i : Fin 128) :
    (writeBlock o k data s).store.slots.get i =
      if (s.store.slots.get i).owner = some o ∧ (s.store.slots.get i).block = k then
        { s.store.slots.get i with content := if data = none then .invalid else .valid
                                   data := data.getD (List.replicate 16 0) }
      else s.store.slots.get i := by
  unfold writeBlock
  rw [Tab.get_map]
  simp only [writtenSlot, Bool.and_eq_true, decide_eq_true_eq]
  cases data <;> rfl

/-! ### Where a record stands -/

/-- The record of an owner begins at `start`: every slot of the owner stands as far behind as its block says. -/
theorem StoreOk.record_at (h : StoreOk s) {i : Fin 128} (hi : (s.store.slots.get i).owner = some o) :
    ∃ start : Fin 128, (s.store.slots.get start).owner = some o ∧ (s.store.slots.get start).block = 0 ∧
      start.val + (s.store.slots.get i).block = i.val ∧
      ∀ j : Fin 128, start ≤ j → j ≤ i → (s.store.slots.get j).owner = some o := by
  obtain ⟨slots, -⟩ := h
  generalize hk : (s.store.slots.get i).block = k
  induction k generalizing i with
  | zero => exact ⟨i, hi, hk, rfl, fun j lo hi' => by rw [Fin.le_antisymm hi' lo]; exact hi⟩
  | succ k ih =>
    obtain ⟨-, before, -⟩ := slots i o hi
    obtain ⟨j, next, hj, block⟩ := before (by omega)
    obtain ⟨start, first, zero, at_, between⟩ := ih hj (by omega)
    refine ⟨start, first, zero, by omega, fun m lo hi' => ?_⟩
    by_cases e : m = i
    · rw [e]; exact hi
    · exact between m lo (by have : m.val ≠ i.val := fun k => e (Fin.ext k); have := Fin.le_def.mp hi'; exact Fin.le_def.mpr (by omega))

/-- A slot of an owner has its mark clear exactly on block 0. -/
theorem StoreOk.first_iff (h : StoreOk s) {i : Fin 128} (hi : (s.store.slots.get i).owner = some o) :
    (s.store.slots.get i).cont = false ↔ (s.store.slots.get i).block = 0 := by
  obtain ⟨slots, -⟩ := h
  obtain ⟨cont, -⟩ := slots i o hi
  rw [cont, decide_eq_false_iff_not, Nat.not_lt, Nat.le_zero]

theorem StoreOk.recordStart_some (h : StoreOk s) {k : Nat} (hk : recordStart o s = some k) :
    ∃ start : Fin 128, start.val = k ∧ (s.store.slots.get start).owner = some o ∧
      (s.store.slots.get start).block = 0 := by
  unfold recordStart at hk
  rw [List.findIdx?_eq_some_iff_getElem] at hk
  obtain ⟨lt, first, -⟩ := hk
  have lt' : k < 128 := s.store.slots.len ▸ lt
  have first' : ((s.store.slots.get ⟨k, lt'⟩).owner = some o) ∧ (s.store.slots.get ⟨k, lt'⟩).cont = false := by
    simpa [Tab.get] using first
  exact ⟨⟨k, lt'⟩, rfl, first'.1, (h.first_iff first'.1).mp first'.2⟩

theorem StoreOk.recordStart_none (h : StoreOk s) (none : recordStart o s = none) (i : Fin 128) :
    (s.store.slots.get i).owner ≠ some o := by
  intro hi
  obtain ⟨start, first, zero, -⟩ := h.record_at hi
  unfold recordStart at none
  rw [List.findIdx?_eq_none_iff] at none
  have := none _ ((s.store.slots.mem_items _).mpr ⟨start, rfl⟩)
  rw [(h.first_iff first).mpr zero] at this
  simp [first] at this

theorem lt_takeWhile_length {α : Type} {p : α → Bool} {l : List α} {k : Nat} :
    k < (l.takeWhile p).length ↔ ∀ j, j ≤ k → ∃ x, l[j]? = some x ∧ p x = true := by
  induction l generalizing k with
  | nil => simpa using ⟨0, Nat.zero_le k⟩
  | cons x l ih =>
    rw [List.takeWhile_cons]
    split
    case isTrue hx =>
      cases k with
      | zero => simpa using hx
      | succ k =>
        rw [List.length_cons, Nat.add_lt_add_iff_right, ih]
        refine ⟨fun h j le => ?_, fun h j le => h (j + 1) (Nat.succ_le_succ le)⟩
        cases j with
        | zero => exact ⟨x, rfl, hx⟩
        | succ j => exact h j (Nat.le_of_succ_le_succ le)
    case isFalse hx =>
      refine ⟨fun h => absurd h (Nat.not_lt_zero k), fun h => ?_⟩
      obtain ⟨y, hy, py⟩ := h 0 (Nat.zero_le k)
      cases hy
      exact absurd py hx

/-- The slots of a whole record are those between its first one and its last. -/
theorem StoreOk.recordLength_iff (h : StoreOk s) {start : Fin 128} (first : (s.store.slots.get start).owner = some o)
    (zero : (s.store.slots.get start).block = 0) (i : Fin 128) :
    (start ≤ i ∧ i.val < start.val + recordLength o start.val s) ↔ (s.store.slots.get i).owner = some o := by
  have inner : ∀ j : Fin 128, start < j → ((s.store.slots.get j).owner = some o ∧ (s.store.slots.get j).cont = true ↔
      (s.store.slots.get j).owner = some o) := by
    intro j lt
    refine and_iff_left_of_imp fun hj => ?_
    refine Classical.byContradiction fun clear => ?_
    have zero' := (h.first_iff hj).mp (by simpa using clear)
    obtain ⟨-, once, -⟩ := h
    exact absurd (once j start o hj first (zero'.trans zero.symm)) (Fin.ne_of_gt lt)
  have mem : ∀ k, start.val + 1 + k < 128 → (k < ((s.store.slots.items.drop (start.val + 1)).takeWhile fun x =>
      x.owner = some o && x.cont).length ↔
        ∀ j : Fin 128, start < j → j.val ≤ start.val + 1 + k → (s.store.slots.get j).owner = some o) := by
    intro k hk
    rw [lt_takeWhile_length]
    refine ⟨fun all j lo hi => ?_, fun all j le => ?_⟩
    · obtain ⟨x, hx, px⟩ := all (j.val - (start.val + 1)) (by omega)
      have := Fin.lt_def.mp lo
      rw [List.getElem?_drop, show start.val + 1 + (j.val - (start.val + 1)) = j.val by omega,
        Tab.get_eq_getElem?] at hx
      rw [Option.some.inj hx]
      simp only [Bool.and_eq_true, decide_eq_true_eq] at px
      exact px.1
    · refine ⟨_, (List.getElem?_drop ..).trans (s.store.slots.get_eq_getElem? ⟨start.val + 1 + j, by omega⟩), ?_⟩
      have lt : start < ⟨start.val + 1 + j, by omega⟩ := Fin.lt_def.mpr (by simp only; omega)
      have both := (inner _ lt).mpr (all _ lt (by simp only; omega))
      simpa only [Bool.and_eq_true, decide_eq_true_eq] using both
  unfold recordLength
  constructor
  · rintro ⟨lo, hi⟩
    by_cases e : start = i
    · exact e ▸ first
    · have := Nat.lt_of_le_of_ne lo fun v => e (Fin.ext v)
      have lt : start < i := Fin.lt_def.mpr this
      exact (mem (i.val - (start.val + 1)) (by omega)).mp (by omega) i lt (by omega)
  · intro hi
    obtain ⟨start', first', zero', at_, between⟩ := h.record_at hi
    have e : start' = start := by
      obtain ⟨-, once, -⟩ := h
      exact once _ _ o first' first (zero'.trans zero.symm)
    subst e
    have lo : start' ≤ i := Fin.le_def.mpr (by omega)
    refine ⟨lo, ?_⟩
    by_cases e : start' = i
    · subst e; omega
    · have := Nat.lt_of_le_of_ne lo fun v => e (Fin.ext v)
      have := (mem (i.val - (start'.val + 1)) (by omega)).mpr fun j lo' hi' =>
        between j (Fin.le_of_lt lo') (Fin.le_def.mpr (by omega))
      omega

/-! ### Freeing (R54) -/

theorem freeRecord_eq (o : Owner) (s : State) :
    freeRecord o s = { s with store := { (freeRecord o s).store with compactions := s.store.compactions } } := by
  unfold freeRecord
  split <;> rfl

/-- A free releases every slot of the owner and no other. -/
theorem StoreOk.freeRecord_slot (h : StoreOk s) (o : Owner) (i : Fin 128) :
    (freeRecord o s).store.slots.get i =
      if (s.store.slots.get i).owner = some o then { s.store.slots.get i with owner := none }
      else s.store.slots.get i := by
  unfold freeRecord
  split
  case h_1 none => rw [if_neg (h.recordStart_none none i)]
  case h_2 k hk =>
    obtain ⟨start, rfl, first, zero⟩ := h.recordStart_some hk
    rw [Tab.get_mapIdx]
    unfold freedSlot
    simp only [Bool.and_eq_true, decide_eq_true_eq]
    exact ite_congr_of_iff (h.recordLength_iff first zero i) rfl rfl

/-! ### The store's operations together -/

/-- Settles O30: the first fit and the longest run by induction over the slots with the run in progress; the slots of a
whole record are those its length names. -/
theorem storeReservesCompactsAndFrees : Obligations.StoreReservesCompactsAndFrees := by
  intro o s
  dsimp only
  simp only [← freeRun_store]
  refine ⟨fun start n hn run lowest => ?_, fun n hn none enough => ?_, fun n => reserve_refused, rfl, compact_items s,
    rfl, fun k data => writeBlock_slot o k data s, fun h => h.freeRecord_slot o, freeRecord_eq o s, (longestFree_ok _).1,
    (longestFree_ok _).2, freeSlots_eq s⟩
  · refine ⟨reserveAt o start n s, ?_, rfl, rfl, reserveAt_slot o start n s⟩
    unfold reserve
    rw [firstFit_eq hn run lowest]
  · refine ⟨reserveAt o (128 - freeSlots s) n (compact s), ?_, rfl, rfl, reserveAt_slot o _ n _⟩
    unfold reserve
    rw [firstFit_none hn none]
    dsimp only
    rw [if_pos enough, compact_freeSlots]

end Machine
end Sys2Proof

namespace Sys2Proof.Machine

variable {s t : State} {o p : Owner}

/-! ### The law of the store, owner by owner -/

/-- The slot at an index. -/
abbrev slotAt (s : State) (i : Fin 128) : Slot := s.store.slots.get i

/-- An owner's slots make a whole record: the mark clear on block 0 alone, each later block after the block before it,
block 0 a valid header that tells their number, and no block twice. -/
def RecordOk (o : Owner) (s : State) : Prop :=
  (∀ i, (slotAt s i).owner = some o → (slotAt s i).cont = decide (0 < (slotAt s i).block) ∧
    (0 < (slotAt s i).block → ∃ j : Fin 128, j.val + 1 = i.val ∧ (slotAt s j).owner = some o ∧
      (slotAt s j).block + 1 = (slotAt s i).block) ∧
    ((slotAt s i).block = 0 → (slotAt s i).content = .valid ∧ slotsOf o s = (byteAt (slotAt s i).data 2).toNat)) ∧
  ∀ i j, (slotAt s i).owner = some o → (slotAt s j).owner = some o → (slotAt s i).block = (slotAt s j).block → i = j

/-- The blade or supply is there. -/
def ownerPresent (s : State) : Owner → Prop
  | .bay b => (s.bay b).state ≠ .empty ∧ (s.bay b).state ≠ .settling
  | .supply i => (s.supply i).state ≠ .absent

/-- The blade or supply is being identified. -/
def ownerIdent (s : State) : Owner → Prop
  | .bay b => (s.bay b).state = .ident
  | .supply i => (s.supply i).state = .ident

/-- What the law says of an owner's read in flight. -/
def FlightOk (o : Owner) (s : State) : Prop := ∀ r, readOf o s = some r →
  ownerIdent s o ∧ 1 ≤ r.nextBlock ∧ 0 ∉ r.retry ∧ (r.phase = .header → ∀ i, (slotAt s i).owner ≠ some o)

theorem storeOk_iff : StoreOk s ↔ ∀ o, RecordOk o s ∧ ((∃ i, (slotAt s i).owner = some o) → ownerPresent s o) ∧
    FlightOk o s := by
  constructor
  · rintro ⟨slots, once, bays, supplies, ident, supplyIdent, reads⟩ o
    refine ⟨⟨fun i => slots i o, fun i j => once i j o⟩, fun ⟨i, hi⟩ => ?_, fun r hr => ⟨?_, reads o r hr⟩⟩
    · cases o with
      | bay b => exact bays i b hi
      | supply j => exact supplies i j hi
    · cases o with
      | bay b => exact ident b (by rw [show (s.bay b).read = some r from hr]; rfl)
      | supply j => exact supplyIdent j (by rw [show (s.supply j).read = some r from hr]; rfl)
  · intro h
    refine ⟨fun i o => (h o).1.1 i, fun i j o => (h o).1.2 i j, fun i b hi => (h (.bay b)).2.1 ⟨i, hi⟩,
      fun i j hi => (h (.supply j)).2.1 ⟨i, hi⟩, fun b hb => ?_, fun i hi => ?_, fun o r hr => ((h o).2.2 r hr).2⟩
    · obtain ⟨r, hr⟩ := Option.isSome_iff_exists.mp hb
      exact ((h (.bay b)).2.2 r hr).1
    · obtain ⟨r, hr⟩ := Option.isSome_iff_exists.mp hi
      exact ((h (.supply i)).2.2 r hr).1

theorem slotsOf_eq (o : Owner) (s : State) : slotsOf o s =
    ((List.finRange 128).filter fun i => decide ((slotAt s i).owner = some o)).length :=
  Tab.length_filter_items _ _

theorem slotsOf_congr (h : ∀ i, (slotAt t i).owner = some o ↔ (slotAt s i).owner = some o) :
    slotsOf o t = slotsOf o s := by
  rw [slotsOf_eq, slotsOf_eq]
  simp only [h]

/-- An owner's record stands where each of its slots stands as it was, but for the data of later blocks. -/
theorem RecordOk.congr (h : RecordOk o s)
    (owner : ∀ i, (slotAt t i).owner = some o ↔ (slotAt s i).owner = some o)
    (slot : ∀ i, (slotAt s i).owner = some o → (slotAt t i).block = (slotAt s i).block ∧
      (slotAt t i).cont = (slotAt s i).cont ∧ ((slotAt s i).block = 0 →
        (slotAt t i).content = (slotAt s i).content ∧ (slotAt t i).data = (slotAt s i).data)) : RecordOk o t := by
  obtain ⟨slots, once⟩ := h
  refine ⟨fun i hi => ?_, fun i j hi hj e => ?_⟩
  · rw [owner] at hi
    obtain ⟨cont, before, first⟩ := slots i hi
    obtain ⟨block', cont', head⟩ := slot i hi
    rw [block', cont', slotsOf_congr owner]
    refine ⟨cont, fun pos => ?_, fun zero => ?_⟩
    · obtain ⟨j, next, hj, e⟩ := before pos
      exact ⟨j, next, (owner j).mpr hj, by rw [(slot j hj).1]; exact e⟩
    · rw [(head zero).1, (head zero).2]
      exact first zero
  · rw [owner] at hi hj
    rw [(slot i hi).1, (slot j hj).1] at e
    exact once i j hi hj e

/-- A change of the store that leaves an owner's slots, and what the law reads of the owner. -/
theorem RecordOk.same (h : RecordOk o s) (slots : t.store.slots = s.store.slots) : RecordOk o t := by
  have slot : ∀ i, slotAt t i = slotAt s i := fun i => by simp only [slotAt, slots]
  exact h.congr (fun i => by rw [slot]) fun i _ => by rw [slot]; exact ⟨rfl, rfl, fun _ => ⟨rfl, rfl⟩⟩

/-! ### Freeing -/

/-- The record of one owner freed, with what the law reads of every owner as it was. -/
theorem StoreOk.freed (h : StoreOk s)
    (slots : ∀ i, slotAt t i = if (slotAt s i).owner = some o then { slotAt s i with owner := none } else slotAt s i)
    (present : ∀ p, ownerPresent s p → ownerPresent t p) (ident : ∀ p, ownerIdent s p → ownerIdent t p)
    (reads : ∀ p, readOf p t = readOf p s) : StoreOk t := by
  rw [storeOk_iff] at h ⊢
  have owner : ∀ p i, (slotAt t i).owner = some p → (slotAt s i).owner = some p ∧ p ≠ o := by
    intro p i hi
    rw [slots] at hi
    split at hi
    case isTrue => cases hi
    case isFalse no => exact ⟨hi, fun e => no (e ▸ hi)⟩
  intro p
  obtain ⟨record, there, flight⟩ := h p
  refine ⟨?_, fun ⟨i, hi⟩ => present p (there ⟨i, (owner p i hi).1⟩), fun r hr => ?_⟩
  · by_cases e : p = o
    · exact ⟨fun i hi => absurd e (owner p i hi).2, fun i _ hi => absurd e (owner p i hi).2⟩
    · refine record.congr (fun i => ⟨fun hi => (owner p i hi).1, fun hi => ?_⟩) fun i hi => ?_
      all_goals
        have other : (slotAt s i).owner ≠ some o := by rw [hi]; exact fun k => e (Option.some.inj k)
        rw [slots, if_neg other]
      · exact hi
      · exact ⟨rfl, rfl, fun _ => ⟨rfl, rfl⟩⟩
  · rw [reads] at hr
    obtain ⟨id, next, retry, header⟩ := flight r hr
    exact ⟨ident p id, next, retry, fun k i hi => header k i (owner p i hi).1⟩

/-! ### Compaction -/

/-- Where a list's element stands among those that pass a test. -/
theorem getElem?_filter_countP {α : Type} {q : α → Bool} {l : List α} {i : Nat} {x : α} (hx : l[i]? = some x)
    (pass : q x = true) : (l.filter q)[(l.take i).countP q]? = some x := by
  induction l generalizing i with
  | nil => cases hx
  | cons y l ih =>
    cases i with
    | zero =>
      cases hx
      simp [List.filter_cons_of_pos pass]
    | succ i =>
      have hl := ih hx
      by_cases hy : q y = true
      · rw [List.filter_cons_of_pos hy, List.take_succ_cons, List.countP_cons_of_pos hy]
        exact hl
      · rw [List.filter_cons_of_neg hy, List.take_succ_cons, List.countP_cons_of_neg hy]
        exact hl

/-- Every element that passes comes from one place of the list. -/
theorem exists_of_getElem?_filter {α : Type} {q : α → Bool} {l : List α} {k : Nat} {x : α}
    (hx : (l.filter q)[k]? = some x) : ∃ i, l[i]? = some x ∧ q x = true ∧ (l.take i).countP q = k := by
  induction l generalizing k with
  | nil => cases hx
  | cons y l ih =>
    by_cases hy : q y = true
    · rw [List.filter_cons_of_pos hy] at hx
      cases k with
      | zero => cases hx; exact ⟨0, rfl, hy, rfl⟩
      | succ k =>
        obtain ⟨i, hi, pass, count⟩ := ih hx
        exact ⟨i + 1, hi, pass, by rw [List.take_succ_cons, List.countP_cons_of_pos hy, count]⟩
    · rw [List.filter_cons_of_neg hy] at hx
      obtain ⟨i, hi, pass, count⟩ := ih hx
      exact ⟨i + 1, hi, pass, by rw [List.take_succ_cons, List.countP_cons_of_neg hy, count]⟩

/-- A slot holds a block of a record. -/
def Slot.held (x : Slot) : Bool := decide (x.owner ≠ none)

theorem compact_items_held (s : State) : (compact s).store.slots.items =
    s.store.slots.items.filter Slot.held ++ s.store.slots.items.filter fun x => decide (x.owner = none) :=
  compact_items s

/-- The index to which compaction moves the slot at an index that holds a block. -/
def movedTo (s : State) (i : Fin 128) : Nat := (s.store.slots.items.take i.val).countP Slot.held

theorem compact_slot_moved {i : Fin 128} (hi : (slotAt s i).held = true) :
    ∃ j : Fin 128, j.val = movedTo s i ∧ slotAt (compact s) j = slotAt s i := by
  have at_ := getElem?_filter_countP (s.store.slots.get_eq_getElem? i) hi
  have there : movedTo s i < (s.store.slots.items.filter Slot.held).length := (List.getElem?_eq_some_iff.mp at_).1
  have short : movedTo s i < 128 := Nat.lt_of_lt_of_le there
    (Nat.le_trans (List.length_filter_le _ _) (Nat.le_of_eq s.store.slots.len))
  refine ⟨⟨movedTo s i, short⟩, rfl, ?_⟩
  have e := (compact s).store.slots.get_eq_getElem? ⟨movedTo s i, short⟩
  rw [compact_items_held, List.getElem?_append_left there] at e
  exact Option.some.inj (e.symm.trans at_)

theorem compact_slot_from {j : Fin 128} (hj : (slotAt (compact s) j).held = true) :
    ∃ i : Fin 128, j.val = movedTo s i ∧ slotAt (compact s) j = slotAt s i := by
  have e := (compact s).store.slots.get_eq_getElem? j
  rw [compact_items_held] at e
  by_cases front : j.val < (s.store.slots.items.filter Slot.held).length
  · rw [List.getElem?_append_left front] at e
    obtain ⟨i, hi, -, count⟩ := exists_of_getElem?_filter e
    have lt : i < 128 := s.store.slots.len ▸ (List.getElem?_eq_some_iff.mp hi).1
    exact ⟨⟨i, lt⟩, count.symm, Option.some.inj (hi.symm.trans (s.store.slots.get_eq_getElem? ⟨i, lt⟩))⟩
  · rw [List.getElem?_append_right (Nat.not_lt.mp front)] at e
    obtain ⟨-, -, free, -⟩ := exists_of_getElem?_filter e
    unfold Slot.held at hj
    simp only [decide_eq_true_eq] at free hj
    exact absurd free hj

theorem movedTo_succ {i j : Fin 128} (hj : (slotAt s j).held = true) (next : j.val + 1 = i.val) :
    movedTo s i = movedTo s j + 1 := by
  unfold movedTo
  rw [← next, List.take_add_one, s.store.slots.get_eq_getElem? j, List.countP_append]
  simp only [Option.toList_some, List.countP_singleton]
  rw [if_pos hj]

theorem held_of_owner {x : Slot} (h : x.owner = some o) : x.held = true := by simp [Slot.held, h]

theorem compact_slotsOf (o : Owner) (s : State) : slotsOf o (compact s) = slotsOf o s := by
  unfold slotsOf
  rw [compact_items, List.filter_append, List.length_append, List.filter_filter, List.filter_filter]
  have free : (s.store.slots.items.filter fun x => decide (x.owner = some o) && decide (x.owner = none)) = [] :=
    List.filter_eq_nil_iff.mpr fun x _ => by simp +contextual
  rw [free, List.length_nil, Nat.add_zero]
  congr 1
  refine List.filter_congr fun x _ => ?_
  simp +contextual

theorem RecordOk.compacted (h : RecordOk o s) : RecordOk o (compact s) := by
  obtain ⟨slots, once⟩ := h
  refine ⟨fun j hj => ?_, fun j k hj hk e => ?_⟩
  · obtain ⟨i, at_, same⟩ := compact_slot_from (held_of_owner hj)
    rw [same] at hj ⊢
    obtain ⟨cont, before, first⟩ := slots i hj
    refine ⟨cont, fun pos => ?_, fun zero => ?_⟩
    · obtain ⟨i', next, hi', block⟩ := before pos
      obtain ⟨j', at', same'⟩ := compact_slot_moved (held_of_owner hi')
      refine ⟨j', ?_, same'.symm ▸ hi', same'.symm ▸ block⟩
      rw [at_, at', movedTo_succ (held_of_owner hi') next]
    · rw [compact_slotsOf]
      exact first zero
  · obtain ⟨i, at_, same⟩ := compact_slot_from (held_of_owner hj)
    obtain ⟨i', at', same'⟩ := compact_slot_from (held_of_owner hk)
    rw [same] at hj e
    rw [same'] at hk e
    rw [once i i' hj hk e] at at_
    exact Fin.ext (at_.trans at'.symm)

theorem StoreOk.compacted (h : StoreOk s) : StoreOk (compact s) := by
  rw [storeOk_iff] at h ⊢
  intro o
  obtain ⟨record, there, flight⟩ := h o
  have back : ∀ j, (slotAt (compact s) j).owner = some o → ∃ i, (slotAt s i).owner = some o := fun j hj => by
    obtain ⟨i, -, same⟩ := compact_slot_from (held_of_owner hj)
    exact ⟨i, same ▸ hj⟩
  refine ⟨record.compacted, fun ⟨j, hj⟩ => there (back j hj), fun r hr => ?_⟩
  obtain ⟨id, next, retry, header⟩ := flight r hr
  refine ⟨id, next, retry, fun k j hj => ?_⟩
  obtain ⟨i, hi⟩ := back j hj
  exact header k i hi

/-! ### Writing -/

/-- A later block written. -/
theorem StoreOk.written {k : Nat} (h : StoreOk s) (later : 1 ≤ k) (data : Option (List Byte)) :
    StoreOk (writeBlock o k data s) := by
  rw [storeOk_iff] at h ⊢
  have owner : ∀ i, (slotAt (writeBlock o k data s) i).owner = (slotAt s i).owner := by
    intro i
    rw [slotAt, writeBlock_slot]
    split <;> rfl
  intro p
  obtain ⟨record, there, flight⟩ := h p
  refine ⟨record.congr (fun i => by rw [owner]) fun i _ => ?_, fun ⟨i, hi⟩ => there ⟨i, owner i ▸ hi⟩, fun r hr => ?_⟩
  · rw [show slotAt (writeBlock o k data s) i = _ from writeBlock_slot ..]
    split
    case isTrue e => exact ⟨rfl, rfl, fun zero => absurd (e.2.symm.trans zero) (by omega)⟩
    case isFalse => exact ⟨rfl, rfl, fun _ => ⟨rfl, rfl⟩⟩
  · obtain ⟨id, next, retry, header⟩ := flight r hr
    exact ⟨id, next, retry, fun ph i hi => header ph i (owner i ▸ hi)⟩

/-! ### Reservation of a record with its header -/

theorem length_filter_range (start n m : Nat) :
    ((List.range m).filter fun i => decide (start ≤ i ∧ i < start + n)).length = min m (start + n) - min m start := by
  induction m with
  | zero => simp
  | succ m ih =>
    rw [List.range_succ, List.filter_append, List.length_append, ih, List.filter_cons, List.filter_nil]
    by_cases inside : start ≤ m ∧ m < start + n
    · rw [if_pos (decide_eq_true inside), List.length_singleton]
      omega
    · rw [if_neg (by simpa using inside), List.length_nil]
      omega

theorem count_interval {start n : Nat} (h : start + n ≤ 128) :
    ((List.finRange 128).filter fun i => decide (start ≤ i.val ∧ i.val < start + n)).length = n := by
  have values : (List.finRange 128).map Fin.val = List.range 128 := List.ext_getElem (by simp) (by simp)
  have e : ((List.finRange 128).filter fun i => decide (start ≤ i.val ∧ i.val < start + n)).map Fin.val =
      (List.range 128).filter fun i => decide (start ≤ i ∧ i < start + n) := by
    rw [← values, List.filter_map]
    rfl
  rw [← List.length_map (f := Fin.val), e, length_filter_range]
  omega

/-- Where a reservation puts a record: into free slots of the store, or of the compacted store. -/
theorem reserve_some {n : Nat} {u : State} (hn : 1 ≤ n) (h : reserve o n s = some u) :
    ∃ start v, (v = s ∨ v = compact s) ∧ freeRun v.store.slots.items start n ∧ u = reserveAt o start n v := by
  have ok := firstFit_ok hn s.store.slots.items
  unfold reserve at h
  split at h
  case h_1 start found =>
    rw [found] at ok
    exact ⟨start, s, .inl rfl, ok.1, (Option.some.inj h).symm⟩
  case h_2 =>
    split at h
    case isFalse => cases h
    case isTrue enough =>
      refine ⟨_, compact s, .inr rfl, ?_, (Option.some.inj h).symm⟩
      have total : (s.store.slots.items.filter Slot.held).length + freeSlots s = 128 := by
        have := congrArg List.length (compact_items_held s)
        rw [(compact s).store.slots.len, List.length_append] at this
        rw [freeSlots, show (Slot.isFree) = fun x => decide (x.owner = none) from funext isFree_eq_decide]
        exact this.symm
      rw [compact_freeSlots]
      refine ⟨by rw [(compact s).store.slots.len]; omega, fun i lo hi => ?_⟩
      unfold freeAt
      rw [compact_items_held, List.getElem?_append_right (by omega)]
      have tail : i - (s.store.slots.items.filter Slot.held).length <
          (s.store.slots.items.filter fun x => decide (x.owner = none)).length := by
        have : freeSlots s = (s.store.slots.items.filter fun x => decide (x.owner = none)).length := by
          rw [freeSlots, show (Slot.isFree) = fun x => decide (x.owner = none) from funext isFree_eq_decide]
        omega
      refine ⟨_, List.getElem?_eq_getElem tail, ?_⟩
      have mem := List.getElem_mem tail
      rw [List.mem_filter] at mem
      rw [isFree_eq_decide]
      exact mem.2

/-- A record reserved with its valid header for an owner that holds none and has no read in flight. -/
theorem StoreOk.reserved {n start : Nat} {d : List Byte} (h : StoreOk s) (count : n = headerCount d)
    (run : freeRun s.store.slots.items start n) (none : ∀ i, (slotAt s i).owner ≠ some o)
    (idle : readOf o s = .none) (present : ownerPresent s o) :
    StoreOk (writeBlock o 0 (some d) (reserveAt o start n s)) := by
  rw [freeRun_store] at run
  obtain ⟨short, free⟩ := run
  generalize ht : writeBlock o 0 (some d) (reserveAt o start n s) = t
  have slot : ∀ i : Fin 128, slotAt t i = if start ≤ i.val ∧ i.val < start + n then
      if i.val = start then ⟨some o, 0, false, .valid, d⟩ else reservedBlock o start i.val
      else slotAt s i := by
    intro i
    rw [← ht, slotAt, writeBlock_slot, reserveAt_slot]
    by_cases range : start ≤ i.val ∧ i.val < start + n
    · rw [if_pos range, if_pos range]
      by_cases e : i.val = start
      · simp [reservedBlock, e]
      · rw [if_neg e, if_neg]
        rintro ⟨-, zero⟩
        have : i.val - start = 0 := zero
        omega
    · rw [if_neg range, if_neg range, if_neg]
      exact fun k => none i k.1
  have owner : ∀ i : Fin 128, (slotAt t i).owner = some o ↔ start ≤ i.val ∧ i.val < start + n := by
    intro i
    rw [slot]
    split
    case isTrue range =>
      refine iff_of_true ?_ range
      split <;> rfl
    case isFalse range => exact iff_of_false (none i) range
  have other : ∀ p, p ≠ o → ∀ i, (slotAt t i).owner = some p ↔ (slotAt s i).owner = some p := by
    intro p hp i
    rw [slot]
    split
    case isTrue range =>
      refine iff_of_false ?_ (by rw [slotAt, free i.val range.1 range.2 i rfl]; exact nofun)
      split <;> exact fun k => hp (Option.some.inj k).symm
    case isFalse => rfl
  have total : slotsOf o t = n := by
    rw [slotsOf_eq]
    simp only [owner]
    exact count_interval short
  have reads : ∀ p, readOf p t = readOf p s := fun p => by rw [← ht]; cases p <;> rfl
  have blockOf : ∀ i : Fin 128, start ≤ i.val ∧ i.val < start + n → (slotAt t i).block = i.val - start ∧
      (slotAt t i).cont = decide (start < i.val) ∧
      (i.val = start → (slotAt t i).content = .valid ∧ (slotAt t i).data = d) := by
    intro i range
    rw [slot, if_pos range]
    split
    case isTrue e => exact ⟨by simp [e], by simp [e], fun _ => ⟨rfl, rfl⟩⟩
    case isFalse e => exact ⟨rfl, rfl, fun k => absurd k e⟩
  rw [storeOk_iff] at h ⊢
  intro p
  obtain ⟨record, there, flight⟩ := h p
  by_cases hp : p = o
  · subst hp
    refine ⟨⟨fun i hi => ?_, fun i j hi hj e => ?_⟩, fun _ => ?_, fun r hr => ?_⟩
    · have range := (owner i).mp hi
      obtain ⟨block, cont, head⟩ := blockOf i range
      rw [block, cont, total]
      refine ⟨by rw [decide_eq_decide]; omega, fun pos => ?_, fun zero => ?_⟩
      · have range' : start ≤ i.val - 1 ∧ i.val - 1 < start + n := by omega
        refine ⟨⟨i.val - 1, by omega⟩, by simp only; omega, (owner _).mpr range', ?_⟩
        rw [(blockOf ⟨i.val - 1, by omega⟩ range').1]
        simp only
        omega
      · obtain ⟨valid, data⟩ := head (by omega)
        rw [data]
        exact ⟨valid, count⟩
    · have ri := (owner i).mp hi
      have rj := (owner j).mp hj
      rw [(blockOf i ri).1, (blockOf j rj).1] at e
      exact Fin.ext (by omega)
    · rw [← ht]
      exact present
    · rw [reads, idle] at hr
      cases hr
  · refine ⟨record.congr (other p hp) fun i hi => ?_, fun ⟨i, hi⟩ => ?_, fun r hr => ?_⟩
    · have outside : ¬ (start ≤ i.val ∧ i.val < start + n) := fun range => by
        rw [slotAt, free i.val range.1 range.2 i rfl] at hi
        cases hi
      rw [slot, if_neg outside]
      exact ⟨rfl, rfl, fun _ => ⟨rfl, rfl⟩⟩
    · have := there ⟨i, (other p hp i).mp hi⟩
      rw [← ht]
      exact this
    · rw [reads] at hr
      obtain ⟨id, next, retry, header⟩ := flight r hr
      refine ⟨?_, next, retry, fun k i hi => header k i ((other p hp i).mp hi)⟩
      rw [← ht]
      exact id

end Sys2Proof.Machine

/-! PROOFS. What a change keeps: the laws of Safety.lean, the settings and the LED patterns, as one relation between the
state before and after an operation. It is transitive, so that a command's outcome is followed operation by
operation, and an operation that leaves a law open until its end says so. -/

namespace Sys2Proof.Machine

/-! ### Laws, settings and permits -/

/-- The laws of Safety.lean by name. The ramp channel and the lists agree with the bay states together. -/
inductive Law where
  | events | conditions | enables | power | budget | supplies | outputs | stations | uplinks | composites | agent | store

/-- What a law says of a state. -/
def Law.holds : Law → State → Prop
  | .events => EventsOk
  | .conditions => ConditionsOk
  | .enables => EnablesOk
  | .power => fun s => RampOk s ∧ ListsOk s
  | .budget => BudgetOk
  | .supplies => SuppliesOk
  | .outputs => OutputsOk
  | .stations => StationsOk
  | .uplinks => ActiveUplinksOk
  | .composites => CompositesOk
  | .agent => AgentOk
  | .store => StoreOk

/-- The groups of settings, each with the request that changes it; the frame in execution is the agent's. -/
inductive Setting where
  | bay | supply | policy | ramp | zone | curve | sensor | uplink | group | watch | composite | managers | limit
  | execution

/-- What a group of settings holds. -/
abbrev Setting.Value : Setting → Type
  | .bay => BayIx → BaySettings
  | .supply => SupIx → Nat
  | .policy => RedundancyMode × Nat × Nat
  | .ramp => Tab Nat 4 × Nat × Nat × Nat × Nat
  | .zone => ZoneIx → ZoneSettings
  | .curve => ZoneIx → List CurvePoint
  | .sensor => ChanIx → Nat × Int × ZoneIx × Int × Int × Bool
  | .uplink => Nat × (UplinkIx → Bool × Nat)
  | .group => Tab Nat 16
  | .watch => Tab WatchUnit 8
  | .composite => CompIx → BitVec 8 × CompositeMode × Bool × Bool × Nat
  | .managers => List Addr × Nat
  | .limit => Nat
  | .execution => Option Execution

/-- The settings of a group as a state holds them. -/
def Setting.value : (x : Setting) → State → x.Value
  | .bay, s => fun b => (s.bay b).settings
  | .supply, s => fun i => (s.supply i).override
  | .policy, s => (s.alloc.mode, s.alloc.overhead, s.alloc.capTimeout)
  | .ramp, s => (s.ramp.classCodes, s.ramp.rampTimeout, s.ramp.settleTime, s.ramp.stopTimeout, s.ramp.shedGrace)
  | .zone, s => fun z => (s.zone z).settings
  | .curve, s => fun z => (s.zone z).curve
  | .sensor, s => fun c => ((s.sensor c).gain, (s.sensor c).offset, (s.sensor c).zone, (s.sensor c).warn,
      (s.sensor c).crit, (s.sensor c).enabled)
  | .uplink, s => (s.stations.agingInterval, fun u => ((s.uplink u).trusted, (s.uplink u).hold))
  | .group, s => s.groups
  | .watch, s => s.units
  | .composite, s => fun i => ((s.composites.get i).mask, (s.composites.get i).mode, (s.composites.get i).drop,
      (s.composites.get i).copy, (s.composites.get i).threshold)
  | .managers, s => (s.agent.managers, s.agent.silenceTimeout)
  | .limit, s => s.events.limit
  | .execution, s => s.agent.execution

/-- What an operation may do beyond what every operation may: change a group of settings, move a bay into or out of the
dark LED pattern or the one of FAULT, or make a grant. -/
inductive Permit where
  | sets (x : Setting)
  | inDark | outDark | inFault | outFault | grant

/-- No pattern is both left and entered. -/
def Compatible (P : Permit → Prop) : Prop :=
  ¬ (P .inDark ∧ P .outDark) ∧ ¬ (P .inFault ∧ P .outFault) ∧ ¬ P .grant

/-! ### What an operation does to a bay's LED (R23) -/

/-- How a bay's LED goes on from one record to a later one, with what is permitted. -/
structure LedStep (P : Permit → Prop) (now : Nat) (x y : Bay) : Prop where
  since : y.ledSince = x.ledSince ∨ y.ledSince = now
  anew : x.state.led ≠ y.state.led → y.ledSince = now
  kept : Compatible P → x.state.led = y.state.led → y.state.led ≠ .fastBlink → y.ledSince = x.ledSince
  inDark : y.state.led = .dark → x.state.led = .dark ∨ P .inDark
  outDark : x.state.led = .dark → y.state.led = .dark ∨ P .outDark
  inFault : y.state.led = .doubleFlash → x.state.led = .doubleFlash ∨ P .inFault
  outFault : x.state.led = .doubleFlash → y.state.led = .doubleFlash ∨ P .outFault
  inFast : y.state.led = .fastBlink → x.state.led = .fastBlink ∨ x.state.led = .steady ∨ P .grant
  powering : y.state = .powering → x.state = .powering ∨ P .grant
  online : y.state = .online → x.state = .online ∨ x.state = .powering ∨ P .grant

/-- A bay in the same state with the same beginning of its pattern. -/
theorem LedStep.same {P : Permit → Prop} {now : Nat} {x y : Bay} (hs : y.state = x.state)
    (hl : y.ledSince = x.ledSince) : LedStep P now x y where
  since := .inl hl
  anew h := absurd (by rw [hs]) h
  kept _ _ _ := hl
  inDark h := .inl (hs ▸ h)
  outDark h := .inl (hs ▸ h)
  inFault h := .inl (hs ▸ h)
  outFault h := .inl (hs ▸ h)
  inFast h := .inl (hs ▸ h)
  powering h := .inl (hs ▸ h)
  online h := .inl (hs ▸ h)

theorem LedStep.refl {P : Permit → Prop} {now : Nat} (x : Bay) : LedStep P now x x := .same rfl rfl

theorem led_eq_steady {st : BayState} : st.led = .steady ↔ st = .online := by cases st <;> decide

/-- A pattern that is left is not entered again: the patterns of the two steps are those of one. -/
theorem LedStep.no_return {P : Permit → Prop} {now : Nat} {x y z : Bay} (compatible : Compatible P)
    (h : LedStep P now x y) (k : LedStep P now y z) (same : x.state.led = z.state.led)
    (notFast : z.state.led ≠ .fastBlink) : x.state.led = y.state.led := by
  obtain ⟨dark, fault, grant⟩ := compatible
  have fromOnline : y.state.led = .steady → x.state.led = .steady ∨ x.state.led = .fastBlink := by
    intro e
    rcases h.online (led_eq_steady.mp e) with e | e | g
    · exact .inl (led_eq_steady.mpr e)
    · exact .inr (by rw [e]; rfl)
    · exact absurd g grant
  have intoOnline : z.state.led = .steady → y.state.led = .steady ∨ x.state.led = .fastBlink := by
    intro e
    rcases k.online (led_eq_steady.mp e) with e | e | g
    · exact .inl (led_eq_steady.mpr e)
    · rcases h.powering e with e | g
      · exact .inr (by rw [e]; rfl)
      · exact absurd g grant
    · exact absurd g grant
  have inDark := k.inDark
  have outDark := h.outDark
  have darkIn := h.inDark
  have darkOut := k.outDark
  have inFault := k.inFault
  have outFault := h.outFault
  have faultIn := h.inFault
  have faultOut := k.outFault
  have inFast := h.inFast
  cases hz : z.state.led <;> cases hy : y.state.led <;> simp_all

theorem LedStep.trans {P : Permit → Prop} {now : Nat} {x y z : Bay} (h : LedStep P now x y) (k : LedStep P now y z) :
    LedStep P now x z where
  since := by
    rcases k.since with e | e
    · rw [e]; exact h.since
    · exact .inr e
  anew := by
    intro ne
    by_cases hyz : y.state.led = z.state.led
    · rcases k.since with e | e
      · rw [e]; exact h.anew (hyz ▸ ne)
      · exact e
    · exact k.anew hyz
  kept := by
    intro compatible same notFast
    have first := h.no_return compatible k same notFast
    rw [k.kept compatible (first ▸ same) notFast, h.kept compatible first (first ▸ same ▸ notFast)]
  inDark e := (k.inDark e).elim h.inDark .inr
  outDark e := (h.outDark e).elim k.outDark .inr
  inFault e := (k.inFault e).elim h.inFault .inr
  outFault e := (h.outFault e).elim k.outFault .inr
  inFast e := by
    rcases k.inFast e with f | f | g
    · exact h.inFast f
    · rcases h.online (led_eq_steady.mp f) with e' | e' | g
      · exact .inr (.inl (led_eq_steady.mpr e'))
      · exact .inl (by rw [e']; rfl)
      · exact .inr (.inr g)
    · exact .inr (.inr g)
  powering e := (k.powering e).elim h.powering .inr
  online e := by
    rcases k.online e with f | f | g
    · exact h.online f
    · exact .inr ((h.powering f).imp id id)
    · exact .inr (.inr g)

end Sys2Proof.Machine

namespace Sys2Proof.Machine

/-! ### What an operation keeps -/

/-- An operation from `s` to `t` keeps every law but those of `O`, which it leaves open, changes no settings and takes
no bay into or out of a pattern that `P` does not permit, and leaves the clock and the queue of commands. -/
structure KeepsBut (O : Law → Prop) (P : Permit → Prop) (s t : State) : Prop where
  law : ∀ l : Law, ¬ O l → l.holds s → l.holds t
  setting : ∀ x : Setting, ¬ P (.sets x) → x.value t = x.value s
  led : ∀ b, LedStep P s.now (s.bay b) (t.bay b)
  now : t.now = s.now
  pending : t.pending = s.pending
  porstLow : t.porstLow = s.porstLow
  straps : t.agent.straps = s.agent.straps

/-- An operation that keeps every law. -/
abbrev Keeps : (Permit → Prop) → State → State → Prop := KeepsBut fun _ => False

variable {O : Law → Prop} {P : Permit → Prop} {s t u : State}

theorem KeepsBut.refl (s : State) : KeepsBut O P s s :=
  ⟨fun _ _ h => h, fun _ _ => rfl, fun _ => .refl _, rfl, rfl, rfl, rfl⟩

theorem KeepsBut.trans (h : KeepsBut O P s t) (k : KeepsBut O P t u) : KeepsBut O P s u where
  law l o := k.law l o ∘ h.law l o
  setting x p := (k.setting x p).trans (h.setting x p)
  led b := (h.led b).trans (h.now ▸ k.led b)
  now := k.now.trans h.now
  pending := k.pending.trans h.pending
  porstLow := k.porstLow.trans h.porstLow
  straps := k.straps.trans h.straps

theorem KeepsBut.ite {c : Prop} [Decidable c] (ht : c → KeepsBut O P s t) (hu : ¬ c → KeepsBut O P s u) :
    KeepsBut O P s (if c then t else u) := by
  split
  case isTrue h => exact ht h
  case isFalse h => exact hu h

theorem KeepsBut.foldl {α : Type} (f : State → α → State) (h : ∀ s a, KeepsBut O P s (f s a)) (l : List α) :
    ∀ s, KeepsBut O P s (l.foldl f s) := by
  induction l with
  | nil => exact fun s => .refl s
  | cons a l ih => exact fun s => (h s a).trans (ih _)

/-- An operation that keeps every law keeps those that matter here. -/
theorem KeepsBut.leaving (h : Keeps P s t) : KeepsBut O P s t := { h with law := fun l _ => h.law l id }

/-- The laws left open hold in the end. -/
theorem KeepsBut.closing (h : KeepsBut O P s t) (closed : ∀ l : Law, O l → l.holds s → l.holds t) : Keeps P s t :=
  { h with law := fun l _ => (Classical.em (O l)).elim (closed l) (h.law l) }

/-! ### A change of one block -/

/-- A change that leaves the bays, the clock, the queue of commands and the straps keeps what its blocks keep. -/
theorem KeepsBut.of_blocks (law : ∀ l : Law, ¬ O l → l.holds s → l.holds t)
    (setting : ∀ x : Setting, ¬ P (.sets x) → x.value t = x.value s)
    (rest : (t.bays, t.now, t.pending, t.porstLow, t.agent.straps) =
      (s.bays, s.now, s.pending, s.porstLow, s.agent.straps)) : KeepsBut O P s t := by
  obtain ⟨bays, now, pending, low, straps⟩ : _ ∧ _ ∧ _ ∧ _ ∧ _ := by simpa only [Prod.mk.injEq] using rest
  refine ⟨law, setting, fun b => ?_, now, pending, low, straps⟩
  rw [State.bay, State.bay, bays]
  exact .refl _

/-- A change that reaches no law, no setting and no bay. -/
theorem KeepsBut.loose (l : SupplyLink) (q : List Sent) (a : Option Answer) (d w : Nat) (c : Converter) :
    KeepsBut O P s { s with supplyLink := l, sent := q, answer := a, draws := d, converter := c, tachWindow := w } := by
  refine .of_blocks ?_ ?_ rfl
  · intro l _ h
    cases l <;> exact h
  · intro x _
    cases x <;> rfl

theorem KeepsBut.sensors (x : Tab Sensor 12)
    (hs : P (.sets .sensor) ∨ Setting.sensor.value { s with sensors := x } = Setting.sensor.value s) :
    KeepsBut O P s { s with sensors := x } := by
  refine .of_blocks ?_ ?_ rfl
  · intro l _ h
    cases l <;> exact h
  · intro k p
    cases k
    case sensor => exact hs.resolve_left p
    all_goals rfl

theorem KeepsBut.events (x : EventQueue) (hs : P (.sets .limit) ∨ x.limit = s.events.limit)
    (h : ¬ O .events → EventsOk s → EventsOk { s with events := x }) : KeepsBut O P s { s with events := x } := by
  refine .of_blocks ?_ ?_ rfl
  · intro l o k
    cases l
    case events => exact h o k
    all_goals exact k
  · intro k p
    cases k
    case limit => exact hs.resolve_left p
    all_goals rfl

theorem KeepsBut.conditions (l : List Condition) (b : Bool)
    (h : ¬ O .conditions → ConditionsOk s → ConditionsOk { s with conditions := l, faultInd := b }) :
    KeepsBut O P s { s with conditions := l, faultInd := b } := by
  refine .of_blocks ?_ ?_ rfl
  · intro l o k
    cases l
    case conditions => exact h o k
    all_goals exact k
  · intro k p
    cases k <;> rfl

theorem KeepsBut.stations (x : StationTable) (hs : P (.sets .uplink) ∨ x.agingInterval = s.stations.agingInterval)
    (h : ¬ O .stations → StationsOk s → StationsOk { s with stations := x }) :
    KeepsBut O P s { s with stations := x } := by
  refine .of_blocks ?_ ?_ rfl
  · intro l o k
    cases l
    case stations => exact h o k
    all_goals exact k
  · intro k p
    cases k
    case uplink => exact congrArg (·, _) (hs.resolve_left p)
    all_goals rfl

theorem KeepsBut.groups (x : Tab Nat 16) (hs : P (.sets .group)) : KeepsBut O P s { s with groups := x } := by
  refine .of_blocks ?_ ?_ rfl
  · intro l _ h
    cases l <;> exact h
  · intro k p
    cases k
    case group => exact absurd hs p
    all_goals rfl

theorem KeepsBut.units (x : Tab WatchUnit 8) (hs : P (.sets .watch)) : KeepsBut O P s { s with units := x } := by
  refine .of_blocks ?_ ?_ rfl
  · intro l _ h
    cases l <;> exact h
  · intro k p
    cases k
    case watch => exact absurd hs p
    all_goals rfl

theorem KeepsBut.composites (x : Tab Composite 2)
    (hs : P (.sets .composite) ∨ Setting.composite.value { s with composites := x } = Setting.composite.value s)
    (h : ¬ O .composites → CompositesOk s → CompositesOk { s with composites := x }) :
    KeepsBut O P s { s with composites := x } := by
  refine .of_blocks ?_ ?_ rfl
  · intro l o k
    cases l
    case composites => exact h o k
    all_goals exact k
  · intro k p
    cases k
    case composite => exact hs.resolve_left p
    all_goals rfl

theorem KeepsBut.agent (x : Agent) (hm : P (.sets .managers) ∨ Setting.managers.value { s with agent := x } =
      Setting.managers.value s)
    (he : P (.sets .execution) ∨ x.execution = s.agent.execution) (straps : x.straps = s.agent.straps)
    (h : ¬ O .agent → AgentOk s → AgentOk { s with agent := x })
    (ho : ¬ O .outputs → OutputsOk s → OutputsOk { s with agent := x }) :
    KeepsBut O P s { s with agent := x } := by
  refine .of_blocks ?_ ?_ (by rw [straps])
  · intro l o k
    cases l
    case agent => exact h o k
    case outputs => exact ho o k
    all_goals exact k
  · intro k p
    cases k
    case managers => exact hm.resolve_left p
    case execution => exact he.resolve_left p
    all_goals rfl

theorem KeepsBut.uplinks (x : Tab Uplink 4)
    (hs : P (.sets .uplink) ∨ Setting.uplink.value { s with uplinks := x } = Setting.uplink.value s)
    (h : ¬ O .uplinks → ActiveUplinksOk s → ActiveUplinksOk { s with uplinks := x })
    (ha : ¬ O .agent → AgentOk s → AgentOk { s with uplinks := x }) : KeepsBut O P s { s with uplinks := x } := by
  refine .of_blocks ?_ ?_ rfl
  · intro l o k
    cases l
    case uplinks => exact h o k
    case agent => exact ha o k
    all_goals exact k
  · intro k p
    cases k
    case uplink => exact hs.resolve_left p
    all_goals rfl

theorem KeepsBut.supplies (x : Tab Supply 6)
    (hs : P (.sets .supply) ∨ Setting.supply.value { s with supplies := x } = Setting.supply.value s)
    (h : ¬ O .supplies → SuppliesOk s → SuppliesOk { s with supplies := x })
    (hr : ¬ O .store → StoreOk s → StoreOk { s with supplies := x }) : KeepsBut O P s { s with supplies := x } := by
  refine .of_blocks ?_ ?_ rfl
  · intro l o k
    cases l
    case supplies => exact h o k
    case store => exact hr o k
    all_goals exact k
  · intro k p
    cases k
    case supply => exact hs.resolve_left p
    all_goals rfl

theorem KeepsBut.store (x : Store) (h : ¬ O .store → StoreOk s → StoreOk { s with store := x }) :
    KeepsBut O P s { s with store := x } := by
  refine .of_blocks ?_ ?_ rfl
  · intro l o k
    cases l
    case store => exact h o k
    all_goals exact k
  · intro k p
    cases k <;> rfl

/-- The power policy, raw capacity and B. -/
theorem KeepsBut.policy (m : RedundancyMode) (o c r b : Nat)
    (hs : P (.sets .policy) ∨ (m, o, c) = Setting.policy.value s)
    (h : ¬ O .supplies → SuppliesOk s → SuppliesOk { s with alloc := { s.alloc with
      mode := m, overhead := o, capTimeout := c, raw := r, budget := b } })
    (hb : ¬ O .budget → BudgetOk s → BudgetOk { s with alloc := { s.alloc with
      mode := m, overhead := o, capTimeout := c, raw := r, budget := b } }) :
    KeepsBut O P s { s with alloc := { s.alloc with
      mode := m, overhead := o, capTimeout := c, raw := r, budget := b } } := by
  refine .of_blocks ?_ ?_ rfl
  · intro l o k
    cases l
    case supplies => exact h o k
    case budget => exact hb o k
    all_goals exact k
  · intro k p
    cases k
    case policy => exact hs.resolve_left p
    all_goals rfl

theorem KeepsBut.zones (x : Tab Zone 3)
    (hz : P (.sets .zone) ∨ Setting.zone.value { s with zones := x } = Setting.zone.value s)
    (hc : P (.sets .curve) ∨ Setting.curve.value { s with zones := x } = Setting.curve.value s)
    (hb : ¬ O .budget → BudgetOk s → BudgetOk { s with zones := x })
    (ho : ¬ O .outputs → OutputsOk s → OutputsOk { s with zones := x }) : KeepsBut O P s { s with zones := x } := by
  refine .of_blocks ?_ ?_ rfl
  · intro l o k
    cases l
    case budget => exact hb o k
    case outputs => exact ho o k
    all_goals exact k
  · intro k p
    cases k
    case zone => exact hz.resolve_left p
    case curve => exact hc.resolve_left p
    all_goals rfl

theorem KeepsBut.fans (x : Tab Fan 6) (ho : ¬ O .outputs → OutputsOk s → OutputsOk { s with fans := x }) :
    KeepsBut O P s { s with fans := x } := by
  refine .of_blocks ?_ ?_ rfl
  · intro l o k
    cases l
    case outputs => exact ho o k
    all_goals exact k
  · intro k p
    cases k <;> rfl

theorem KeepsBut.ramp (x : RampChannel)
    (hs : P (.sets .ramp) ∨ Setting.ramp.value { s with ramp := x } = Setting.ramp.value s)
    (h : ¬ O .power → RampOk s ∧ ListsOk s → RampOk { s with ramp := x } ∧ ListsOk { s with ramp := x }) :
    KeepsBut O P s { s with ramp := x } := by
  refine .of_blocks ?_ ?_ rfl
  · intro l o k
    cases l
    case power => exact h o k
    all_goals exact k
  · intro k p
    cases k
    case ramp => exact hs.resolve_left p
    all_goals rfl

end Sys2Proof.Machine

namespace Sys2Proof.Machine

variable {O : Law → Prop} {P : Permit → Prop} {s t : State}

/-! ### A change of bays that no law reads -/

/-- The bay's record as every law and the LED read it stands. -/
structure Bay.SameCore (x y : Bay) : Prop where
  settings : y.settings = x.settings
  state : y.state = x.state
  standby : y.standbyEnable = x.standbyEnable
  main : y.mainEnable = x.mainEnable
  ledSince : y.ledSince = x.ledSince
  alloc : y.alloc = x.alloc
  stamp : y.waitingStamp = x.waitingStamp
  uplink : y.activeUplink = x.activeUplink
  read : y.read = x.read

theorem Bay.SameCore.refl (x : Bay) : x.SameCore x := ⟨rfl, rfl, rfl, rfl, rfl, rfl, rfl, rfl, rfl⟩

theorem RampOk.congr (states : ∀ c, (t.bay c).state = (s.bay c).state) (ramp : t.ramp = s.ramp) (h : RampOk s) :
    RampOk t := by
  unfold RampOk
  simp only [states, ramp]
  exact h

theorem ListsOk.congr (states : ∀ c, (t.bay c).state = (s.bay c).state)
    (priorities : ∀ c, (t.bay c).settings.priority = (s.bay c).settings.priority)
    (stamps : ∀ c, (t.bay c).waitingStamp = (s.bay c).waitingStamp)
    (waiting : t.alloc.waiting = s.alloc.waiting) (next : t.alloc.nextStamp = s.alloc.nextStamp)
    (queue : t.ramp.queue = s.ramp.queue) (h : ListsOk s) : ListsOk t := by
  have order : waitsNoLater t = waitsNoLater s := by
    funext b c
    simp only [waitsNoLater, priorities, stamps]
  unfold ListsOk
  rw [order]
  simp only [states, stamps, waiting, next, queue]
  exact h

theorem allocSum_congr {sel sel' : Bay → Bool} (h : ∀ c, (if sel' (t.bay c) then (t.bay c).alloc else 0) =
    if sel (s.bay c) then (s.bay c).alloc else 0) : allocSum sel' t = allocSum sel s := by
  simp only [allocSum, h]

theorem BudgetOk.congr (states : ∀ c, (t.bay c).state = (s.bay c).state) (allocs : ∀ c, (t.bay c).alloc = (s.bay c).alloc)
    (zones : ∀ c, (t.bay c).settings.zone = (s.bay c).settings.zone) (budget : t.alloc.budget = s.alloc.budget)
    (limits : ∀ z, (t.zone z).limit = (s.zone z).limit) (h : BudgetOk s) : BudgetOk t := by
  have sums : ∀ scope, nonShedding scope t = nonShedding scope s := fun scope =>
    allocSum_congr fun c => by simp only [states, allocs, zones]
  unfold BudgetOk
  simp only [states, allocs, sums, budget, limits]
  exact h

theorem StationsOk.congr (entries : t.stations.entries = s.stations.entries)
    (states : ∀ c, (s.bay c).state.forwarding = true → (t.bay c).state.forwarding = true) (h : StationsOk s) :
    StationsOk t := by
  unfold StationsOk
  rw [entries]
  obtain ⟨once, unicast, learned⟩ := h
  exact ⟨once, unicast, fun i e he hl => states _ (learned i e he hl)⟩

theorem ActiveUplinksOk.congr (states : ∀ c, (t.bay c).state = (s.bay c).state)
    (active : ∀ c, (t.bay c).activeUplink = (s.bay c).activeUplink)
    (settings : ∀ c, (t.bay c).settings = (s.bay c).settings)
    (up : ∀ u, (t.uplink u).up = (s.uplink u).up) (h : ActiveUplinksOk s) : ActiveUplinksOk t := by
  unfold ActiveUplinksOk
  simp only [states, active, settings, up]
  exact h

theorem readOf_congr (o : Owner) (bays : ∀ c, (t.bay c).read = (s.bay c).read)
    (supplies : ∀ i, (t.supply i).read = (s.supply i).read) : readOf o t = readOf o s := by
  cases o
  · exact bays _
  · exact supplies _

/-- The law of the store reads the slots, and the states and reads of bays and supplies. -/
theorem StoreOk.congr (store : t.store.slots = s.store.slots)
    (states : ∀ c, (t.bay c).state = (s.bay c).state) (reads : ∀ c, (t.bay c).read = (s.bay c).read)
    (supplyStates : ∀ i, (t.supply i).state = (s.supply i).state)
    (supplyReads : ∀ i, (t.supply i).read = (s.supply i).read) (h : StoreOk s) : StoreOk t := by
  have counts : ∀ o, slotsOf o t = slotsOf o s := fun o => by simp only [slotsOf, store]
  have inFlight : ∀ o, readOf o t = readOf o s := fun o => readOf_congr o reads supplyReads
  unfold StoreOk
  simp only [store, states, reads, supplyStates, supplyReads, counts, inFlight]
  exact h

/-- A change of bays that keeps what the laws and the LED read of each. -/
theorem KeepsBut.bays (x : Tab Bay 14) (same : ∀ c, (s.bay c).SameCore (x.get c)) :
    KeepsBut O P s { s with bays := x } where
  law l _ h := by
    cases l
    case enables =>
      intro b
      obtain ⟨hs, hm⟩ := h b
      exact ⟨by rw [← (same b).state] at hs; exact (same b).standby.trans hs,
        by rw [← (same b).state] at hm; exact (same b).main.trans hm⟩
    case power =>
      obtain ⟨hr, hl⟩ := h
      exact ⟨hr.congr (fun c => (same c).state) rfl, hl.congr (fun c => (same c).state)
        (fun c => congrArg _ (same c).settings) (fun c => (same c).stamp) rfl rfl rfl⟩
    case budget =>
      exact BudgetOk.congr (fun c => (same c).state) (fun c => (same c).alloc)
        (fun c => congrArg _ (same c).settings) rfl (fun _ => rfl) h
    case stations =>
      exact StationsOk.congr (s := s) (t := { s with bays := x }) rfl
        (fun c k => (congrArg BayState.forwarding (same c).state).trans k) h
    case uplinks =>
      exact ActiveUplinksOk.congr (s := s) (t := { s with bays := x }) (fun c => (same c).state) (fun c => (same c).uplink) (fun c => (same c).settings)
        (fun _ => rfl) h
    case store =>
      exact StoreOk.congr (s := s) (t := { s with bays := x }) rfl (fun c => (same c).state) (fun c => (same c).read)
        (fun _ => rfl) (fun _ => rfl) h
    all_goals exact h
  setting k p := by
    cases k
    case bay => exact funext fun b => (same b).settings
    all_goals rfl
  led b := .same (same b).state (same b).ledSince
  now := rfl
  pending := rfl
  porstLow := rfl
  straps := rfl

theorem Tab.set_sameCore {x : Tab Bay 14} {b : BayIx} {y : Bay} (h : (x.get b).SameCore y) (c : BayIx) :
    (x.get c).SameCore ((x.set b y).get c) := by
  rw [Tab.get_set]
  split
  case isTrue e => subst e; exact h
  case isFalse => exact .refl _

/-- A change of one bay that keeps what the laws and the LED read of it. -/
theorem KeepsBut.minor (b : BayIx) (f : Bay → Bay) (h : (s.bay b).SameCore (f (s.bay b))) :
    KeepsBut O P s (s.modBay b f) := .bays _ (Tab.set_sameCore h)

theorem KeepsBut.modLink (b : BayIx) (f : BayLink → BayLink) : KeepsBut O P s (s.modLink b f) :=
  .minor b _ ⟨rfl, rfl, rfl, rfl, rfl, rfl, rfl, rfl, rfl⟩

theorem KeepsBut.countBay (b : BayIx) (f : BayCounters → BayCounters) : KeepsBut O P s (s.countBay b f) :=
  .minor b _ ⟨rfl, rfl, rfl, rfl, rfl, rfl, rfl, rfl, rfl⟩

/-! ### The shared operations (Machine/Ops.lean) -/

theorem KeepsBut.raise (k : EventKind) (w : Subject) (d : Nat) (x : Int) :
    KeepsBut O P s (raise k w d x s) := by
  rw [(raise_only_events k w d x s).1]
  refine .events _ (.inr (raise_limit ..)) fun _ h => ?_
  obtain ⟨low, high, room, lost⟩ := h
  rw [← (raise_only_events k w d x s).1]
  refine ⟨?_, ?_, raise_length_le k w d x s room, raise_lost_le k w d x s lost⟩ <;> rw [raise_limit]
  · exact low
  · exact high

/-- A condition set made from the old one, each kind and subject once and no entry inactive and acknowledged. -/
theorem KeepsBut.setConditions (l : List Condition)
    (once : (s.conditions.map (·.key)).Nodup → (l.map (·.key)).Nodup)
    (active : (∀ c ∈ s.conditions, c.acked = true → c.active = true) → ∀ c ∈ l, c.acked = true → c.active = true) :
    KeepsBut O P s (setConditions l s) :=
  .conditions _ _ fun _ ⟨h, k, _⟩ => ⟨once h, active k, rfl⟩

theorem KeepsBut.raiseCondition (k : CondKey) : KeepsBut O P s (raiseCondition k s) := by
  refine .setConditions _ (fun h => ?_) (fun h c hc => ?_)
  · rw [List.map_append, List.nodup_append]
    refine ⟨h.sublist (List.filter_sublist.map _), List.pairwise_singleton _ _, fun x hx y hy => ?_⟩
    obtain ⟨c, hc, rfl⟩ := List.mem_map.mp hx
    rw [List.mem_filter] at hc
    rw [List.mem_singleton.mp hy]
    simpa using hc.2
  · rcases List.mem_append.mp hc with old | new
    · exact h c (List.mem_filter.mp old).1
    · rw [List.mem_singleton.mp new]
      exact fun _ => rfl

/-- An operation on entries that drops some and keeps the key of each other keeps each kind and subject once. -/
theorem nodup_keys_filterMap {f : Condition → Option Condition} (key : ∀ c d, f c = some d → d.key = c.key)
    {l : List Condition} (h : (l.map (·.key)).Nodup) : ((l.filterMap f).map (·.key)).Nodup := by
  induction l with
  | nil => exact h
  | cons c l ih =>
    obtain ⟨fresh, rest⟩ := List.nodup_cons.mp h
    cases hc : f c with
    | none => rw [List.filterMap_cons_none hc]; exact ih rest
    | some d =>
      rw [List.filterMap_cons_some hc, List.map_cons, List.nodup_cons]
      refine ⟨fun hd => fresh ?_, ih rest⟩
      obtain ⟨e, he, ke⟩ := List.mem_map.mp hd
      obtain ⟨a, ha, fa⟩ := List.mem_filterMap.mp he
      rw [key c d hc, key a e fa] at ke
      exact List.mem_map.mpr ⟨a, ha, ke⟩

theorem KeepsBut.endCondition (k : CondKey) : KeepsBut O P s (endCondition k s) := by
  refine .setConditions _ (nodup_keys_filterMap fun c d h => ?_) (fun h c hc => ?_)
  · unfold endEntry at h
    split at h
    · split at h
      · cases h
      · cases h; rfl
    · cases h; rfl
  · rcases (mem_endCondition k s c).mp hc with ⟨old, -⟩ | ⟨d, -, -, unacked, rfl⟩
    · exact h c old
    · exact fun acked => absurd acked (by simp [unacked])

theorem KeepsBut.removeCondition (k : CondKey) : KeepsBut O P s (removeCondition k s) :=
  .setConditions _ (fun h => h.sublist (List.filter_sublist.map _)) (fun h c hc => h c (List.mem_filter.mp hc).1)

theorem KeepsBut.answer (st : Status) (body : List Byte) : KeepsBut O P s (answer st body s) := .loose ..

/-- A change of an uplink that leaves its link, its trust and its hold. -/
theorem KeepsBut.minorUplink (u : UplinkIx) (f : Uplink → Uplink) (up : (f (s.uplink u)).up = (s.uplink u).up)
    (trusted : (f (s.uplink u)).trusted = (s.uplink u).trusted) (hold : (f (s.uplink u)).hold = (s.uplink u).hold) :
    KeepsBut O P s (s.modUplink u f) := by
  have same : ∀ w, ((s.modUplink u f).uplink w).up = (s.uplink w).up ∧
      ((s.modUplink u f).uplink w).trusted = (s.uplink w).trusted ∧
      ((s.modUplink u f).uplink w).hold = (s.uplink w).hold := by
    intro w
    rw [State.modUplink_uplink]
    split
    case isTrue e => subst e; exact ⟨up, trusted, hold⟩
    case isFalse => exact ⟨rfl, rfl, rfl⟩
  refine .uplinks _ (.inr ?_) 
    (fun _ h => ActiveUplinksOk.congr (s := s) (fun _ => rfl) (fun _ => rfl) (fun _ => rfl) (fun w => (same w).1) h)
    fun _ ⟨queue, list, unicast, manager, timer, w, hw⟩ =>
      ⟨queue, list, unicast, manager, timer, w, (same w).2.1.trans hw⟩
  exact congrArg (_, ·) (funext fun w => by rw [← (same w).2.1, ← (same w).2.2]; rfl)

theorem KeepsBut.countUplink (u : UplinkIx) (f : UplinkCounters → UplinkCounters) :
    KeepsBut O P s (s.countUplink u f) := .minorUplink u _ rfl rfl rfl

theorem KeepsBut.transmit (u : UplinkIx) (f : Frame) : KeepsBut O P s (transmit u f s) := by
  cases up : (s.uplink u).up with
  | true => rw [transmit_up u f s up]; exact .trans (.countUplink u _) (.loose ..)
  | false => rw [transmit_down u f s up]; exact .refl _

theorem KeepsBut.promptAttention (before : State) : KeepsBut O P s (promptAttention before s) := by
  rcases promptAttention_cases before s with h | ⟨m, -, -, -, -, h⟩ <;> rw [h]
  · exact .refl _
  · exact .transmit ..

end Sys2Proof.Machine

namespace Sys2Proof.Machine

variable {O : Law → Prop} {P : Permit → Prop} {s t : State} {b : BayIx}

/-! ### What a change of one bay's state needs -/

/-- The permits a move from one bay state to another needs. -/
def BayState.needs (x y : BayState) : List Permit :=
  (if y.led = .dark ∧ x.led ≠ .dark then [.inDark] else []) ++
  (if x.led = .dark ∧ y.led ≠ .dark then [.outDark] else []) ++
  (if y.led = .doubleFlash ∧ x.led ≠ .doubleFlash then [.inFault] else []) ++
  (if x.led = .doubleFlash ∧ y.led ≠ .doubleFlash then [.outFault] else []) ++
  (if (y.led = .fastBlink ∧ x.led ≠ .fastBlink ∧ x.led ≠ .steady) ∨ (y = .powering ∧ x ≠ .powering) ∨
    (y = .online ∧ x ≠ .online ∧ x ≠ .powering) then [.grant] else [])

/-- A bay that entered a state. -/
theorem LedStep.entered {now : Nat} {x y : Bay} (permits : ∀ p ∈ x.state.needs y.state, P p)
    (hl : y.ledSince = if x.state.led = y.state.led then x.ledSince else now) : LedStep P now x y where
  since := by rw [hl]; split <;> simp
  anew h := by rw [hl, if_neg h]
  kept _ h _ := by rw [hl, if_pos h]
  inDark h := by
    by_cases k : x.state.led = .dark
    · exact .inl k
    · exact .inr (permits _ (by simp [BayState.needs, h, k]))
  outDark h := by
    by_cases k : y.state.led = .dark
    · exact .inl k
    · exact .inr (permits _ (by simp [BayState.needs, h, k]))
  inFault h := by
    by_cases k : x.state.led = .doubleFlash
    · exact .inl k
    · exact .inr (permits _ (by simp [BayState.needs, h, k]))
  outFault h := by
    by_cases k : y.state.led = .doubleFlash
    · exact .inl k
    · exact .inr (permits _ (by simp [BayState.needs, h, k]))
  inFast h := by
    by_cases k : x.state.led = .fastBlink
    · exact .inl k
    · by_cases l : x.state.led = .steady
      · exact .inr (.inl l)
      · exact .inr (.inr (permits _ (by simp [BayState.needs, h, k, l])))
  powering h := by
    by_cases k : x.state = .powering
    · exact .inl k
    · exact .inr (permits _ (by simp [BayState.needs, h, k]))
  online h := by
    by_cases k : x.state = .online
    · exact .inl k
    · by_cases l : x.state = .powering
      · exact .inr (.inl l)
      · exact .inr (.inr (permits _ (by simp [BayState.needs, h, k, l])))

theorem LedStep.entering {now : Nat} {x : Bay} {st : BayState} (permits : ∀ p ∈ x.state.needs st, P p) :
    LedStep P now x (x.enter st now) := .entered permits rfl

/-! ### A change of one bay -/

/-- The states differ in one bay, the waiting list and stamps, what the ramp channel holds besides its settings,
and the store. -/
structure BayFrame (b : BayIx) (s t : State) : Prop where
  frame : t = { s with
    bays := t.bays, ramp := t.ramp, store := t.store
    alloc := { s.alloc with waiting := t.alloc.waiting, nextStamp := t.alloc.nextStamp } }
  others : ∀ c, c ≠ b → t.bay c = s.bay c
  rampSettings : Setting.ramp.value t = Setting.ramp.value s

/-- A bay's enables follow its state. -/
def Bay.EnablesOk (y : Bay) : Prop := y.standbyEnable = y.state.standby ∧ y.mainEnable = y.state.mainPowered

/-- The bay's active uplink is UP, is one it names, and is held only while the bay forwards. -/
def Bay.UplinkOk (s : State) (y : Bay) : Prop := ∀ u, y.activeUplink = some u →
  y.state.forwarding = true ∧ (s.uplink u).up = true ∧ (y.settings.primary = u ∨ y.settings.alternate = some u)

/-- No LEARNED station entry names the bay. -/
def NoLearned (b : BayIx) (s : State) : Prop :=
  ∀ i e, s.stations.entries.get i = some e → e.isLearned = true → e.bay ≠ b

/-- A change of one bay keeps what it keeps of that bay, of the lists and of the sums. -/
theorem KeepsBut.bay (f : BayFrame b s t) (settings : P (.sets .bay) ∨ (t.bay b).settings = (s.bay b).settings)
    (led : LedStep P s.now (s.bay b) (t.bay b))
    (enables : ¬ O .enables → (s.bay b).EnablesOk → (t.bay b).EnablesOk)
    (power : ¬ O .power → RampOk s ∧ ListsOk s → RampOk t ∧ ListsOk t)
    (budget : ¬ O .budget → BudgetOk s → BudgetOk t)
    (stations : ¬ O .stations → (s.bay b).state.forwarding = true →
      (t.bay b).state.forwarding = true ∨ NoLearned b s)
    (uplinks : ¬ O .uplinks → (s.bay b).UplinkOk s → (t.bay b).UplinkOk s)
    (store : ¬ O .store → StoreOk s → StoreOk t) : KeepsBut O P s t := by
  obtain ⟨frame, others, ramp⟩ := f
  generalize htb : t.bay b = y at *
  rw [frame]
  generalize t.alloc.waiting = w at *
  generalize t.alloc.nextStamp = n at *
  have bays : ∀ c, c ≠ b ∧ t.bays.get c = s.bay c ∨ c = b ∧ t.bays.get c = y := fun c =>
    (Classical.em (c = b)).elim (fun e => .inr ⟨e, e ▸ htb⟩) (fun e => .inl ⟨e, others c e⟩)
  constructor
  case law =>
    intro l o h
    cases l
    case enables =>
      intro c
      rcases bays c with ⟨-, e⟩ | ⟨rfl, e⟩
      · exact cast (congrArg Bay.EnablesOk e.symm) (h c)
      · exact cast (congrArg Bay.EnablesOk e.symm) (enables o (h c))
    case power => rw [frame] at power; exact power o h
    case budget => rw [frame] at budget; exact budget o h
    case store => rw [frame] at store; exact store o h
    case uplinks =>
      intro c
      rcases bays c with ⟨-, e⟩ | ⟨rfl, e⟩
      · exact cast (congrArg (Bay.UplinkOk s) e.symm) (h c)
      · exact cast (congrArg (Bay.UplinkOk s) e.symm) (uplinks o (h c))
    case stations =>
      obtain ⟨once, unicast, learned⟩ := h
      refine ⟨once, unicast, fun i e he hl => ?_⟩
      rw [State.bay]
      rcases bays e.bay with ⟨-, eq⟩ | ⟨eb, eq⟩ <;> rw [eq]
      · exact learned i e he hl
      · exact (stations o (eb ▸ learned i e he hl)).resolve_right fun none => none i e he hl eb
    all_goals exact h
  case setting =>
    intro x p
    cases x
    case bay =>
      funext c
      show (t.bays.get c).settings = _
      rcases bays c with ⟨-, e⟩ | ⟨rfl, e⟩ <;> rw [e]
      · rfl
      · exact settings.resolve_left p
    case ramp => exact ramp
    all_goals rfl
  case led =>
    intro c
    show LedStep P s.now (s.bay c) (t.bays.get c)
    rcases bays c with ⟨-, e⟩ | ⟨rfl, e⟩ <;> rw [e]
    · exact .refl _
    · exact led
  all_goals rfl

end Sys2Proof.Machine

namespace Sys2Proof.Machine

variable {s t : State} {b : BayIx}

/-! ### The laws of the lists over a change of one bay -/

theorem BayFrame.zone (f : BayFrame b s t) (z : ZoneIx) : t.zone z = s.zone z := by rw [f.frame]; rfl
theorem BayFrame.budget (f : BayFrame b s t) : t.alloc.budget = s.alloc.budget := by rw [f.frame]
theorem BayFrame.supply (f : BayFrame b s t) (i : SupIx) : t.supply i = s.supply i := by rw [f.frame]; rfl
theorem BayFrame.limitOf (f : BayFrame b s t) (scope : Option ZoneIx) : limitOf scope t = limitOf scope s := by
  cases scope
  · exact f.budget
  · exact congrArg Zone.limit (f.zone _)

theorem insertBefore_nodup {r : BayIx → BayIx → Bool} {l : List BayIx} (fresh : b ∉ l) (h : l.Nodup) :
    (insertBefore r b l).Nodup := by
  induction l with
  | nil => exact List.pairwise_singleton _ b
  | cons c l ih =>
    obtain ⟨hc, hl⟩ := List.nodup_cons.mp h
    unfold insertBefore
    split
    · exact List.nodup_cons.mpr ⟨fresh, h⟩
    · refine List.nodup_cons.mpr ⟨fun k => ?_, ih (List.not_mem_of_not_mem_cons fresh) hl⟩
      rcases (mem_insertBefore r c b l).mp k with e | k
      · exact fresh (e ▸ List.mem_cons_self)
      · exact hc k

/-- A bay inserted into a sorted list stands in its order. -/
theorem insertBefore_pairwise {r : BayIx → BayIx → Bool} {R : BayIx → BayIx → Prop}
    (trans : ∀ x y z, R x y → R y z → R x z) (before : ∀ c, r b c = true → R b c)
    (after : ∀ c, r b c = false → R c b) {l : List BayIx} (h : l.Pairwise R) : (insertBefore r b l).Pairwise R := by
  induction l with
  | nil => exact List.pairwise_singleton R b
  | cons c l ih =>
    obtain ⟨hc, hl⟩ := List.pairwise_cons.mp h
    unfold insertBefore
    split
    case isTrue k =>
      refine List.pairwise_cons.mpr ⟨fun d hd => ?_, h⟩
      rcases List.mem_cons.mp hd with rfl | hd
      · exact before _ k
      · exact trans _ _ _ (before c k) (hc d hd)
    case isFalse k =>
      refine List.pairwise_cons.mpr ⟨fun d hd => ?_, ih hl⟩
      rcases (mem_insertBefore r d b l).mp hd with rfl | hd
      · exact after c (Bool.eq_false_iff.mpr k)
      · exact hc d hd

theorem waitsNoLater_trans (x y z : BayIx) (h : waitsNoLater s x y) (k : waitsNoLater s y z) : waitsNoLater s x z := by
  unfold waitsNoLater at *
  omega

theorem waitsNoLater_of_before {c : BayIx} (h : waitsBefore s b c = true) : waitsNoLater s b c := by
  simp only [waitsBefore, Bool.or_eq_true, Bool.and_eq_true, decide_eq_true_eq] at h
  unfold waitsNoLater
  omega

theorem waitsNoLater_of_not_before {c : BayIx} (h : waitsBefore s b c = false) : waitsNoLater s c b := by
  simp only [waitsBefore, Bool.or_eq_false_iff, Bool.and_eq_false_iff, decide_eq_false_iff_not] at h
  unfold waitsNoLater
  omega

/-- How the waiting list and the ramp queue follow the state of the bay that changes. -/
structure ListsStep (b : BayIx) (s t : State) : Prop where
  waiting : (t.bay b).state ≠ .waiting ∧ t.alloc.waiting = s.alloc.waiting.filter (· ≠ b) ∨
    (t.bay b).state = .waiting ∧
      t.alloc.waiting = insertBefore (waitsBefore t) b (s.alloc.waiting.filter (· ≠ b)) ∧
      (∃ n, (t.bay b).waitingStamp = some n ∧ n < t.alloc.nextStamp) ∨
    (t.bay b).state = (s.bay b).state ∧ t.alloc.waiting = s.alloc.waiting ∧
      (t.bay b).settings.priority = (s.bay b).settings.priority ∧ (t.bay b).waitingStamp = (s.bay b).waitingStamp
  queue : (t.bay b).state ≠ .admitted ∧ t.ramp.queue = s.ramp.queue.filter (· ≠ b) ∨
    (t.bay b).state = .admitted ∧ t.ramp.queue = s.ramp.queue.filter (· ≠ b) ++ [b] ∨
    (t.bay b).state = (s.bay b).state ∧ t.ramp.queue = s.ramp.queue
  stamps : s.alloc.nextStamp ≤ t.alloc.nextStamp

theorem filter_ne_of_not_mem {l : List BayIx} (h : b ∉ l) : l.filter (· ≠ b) = l :=
  List.filter_eq_self.mpr fun c hc => by simpa using fun e : c = b => h (e ▸ hc)

/-- A bay that does not wait stands in no place of the waiting list. -/
theorem ListsOk.not_waiting (h : ListsOk s) (hb : (s.bay b).state ≠ .waiting) :
    s.alloc.waiting.filter (· ≠ b) = s.alloc.waiting := by
  obtain ⟨-, -, mem, -⟩ := h
  exact filter_ne_of_not_mem fun k => hb ((mem b).1.mp k)

theorem ListsOk.not_queued (h : ListsOk s) (hb : (s.bay b).state ≠ .admitted) :
    s.ramp.queue.filter (· ≠ b) = s.ramp.queue := by
  obtain ⟨-, -, mem, -⟩ := h
  exact filter_ne_of_not_mem fun k => hb ((mem b).2.mp k)

theorem mem_filter_ne {c : BayIx} {l : List BayIx} : c ∈ l.filter (· ≠ b) ↔ c ∈ l ∧ c ≠ b := by
  simp [List.mem_filter]

theorem ListsOk.change (h : ListsOk s) (others : ∀ c, c ≠ b → t.bay c = s.bay c) (k : ListsStep b s t) :
    ListsOk t := by
  obtain ⟨nodupW, nodupQ, mem, order, stamps⟩ := h
  obtain ⟨waiting, queue, next⟩ := k
  have others' : ∀ c, c ∈ s.alloc.waiting.filter (· ≠ b) → t.bay c = s.bay c := fun c hc =>
    others c (mem_filter_ne.mp hc).2
  have rest : (s.alloc.waiting.filter (· ≠ b)).Pairwise (waitsNoLater t) :=
    (order.filter _).imp_of_mem fun hc hd k => by
      unfold waitsNoLater at *
      rw [others' _ hc, others' _ hd]
      exact k
  have restStamps : ∀ c ∈ s.alloc.waiting.filter (· ≠ b),
      ∃ n, (t.bay c).waitingStamp = some n ∧ n < t.alloc.nextStamp := fun c hc => by
    obtain ⟨n, hn, lt⟩ := stamps c (mem_filter_ne.mp hc).1
    exact ⟨n, (others' c hc).symm ▸ hn, Nat.lt_of_lt_of_le lt next⟩
  have elsewhere : ∀ c, c ≠ b → (c ∈ s.alloc.waiting ↔ (t.bay c).state = .waiting) ∧
      (c ∈ s.ramp.queue ↔ (t.bay c).state = .admitted) := fun c hc => by rw [others c hc]; exact mem c
  have nodup : t.ramp.queue.Nodup := by
    rcases queue with ⟨-, e⟩ | ⟨-, e⟩ | ⟨-, e⟩ <;> rw [e]
    · exact nodupQ.filter _
    · refine List.nodup_append.mpr ⟨nodupQ.filter _, List.pairwise_singleton _ b, fun c hc d hd => ?_⟩
      rw [List.mem_singleton.mp hd]
      exact (mem_filter_ne.mp hc).2
    · exact nodupQ
  have queued : ∀ c, c ∈ t.ramp.queue ↔ (t.bay c).state = .admitted := by
    intro c
    by_cases hc : c = b
    · subst hc
      rcases queue with ⟨st, e⟩ | ⟨st, e⟩ | ⟨st, e⟩ <;> rw [e]
      · simp [st]
      · simp [st]
      · rw [st]; exact (mem c).2
    · rw [← (elsewhere c hc).2]
      rcases queue with ⟨-, e⟩ | ⟨-, e⟩ | ⟨-, e⟩ <;> rw [e]
      · simp [hc]
      · simp [hc]
  rcases waiting with ⟨st, e⟩ | ⟨st, e, stamp⟩ | ⟨st, e, priority, stamp⟩
  · refine ⟨e ▸ nodupW.filter _, nodup, fun c => ⟨?_, queued c⟩, e ▸ rest, e ▸ restStamps⟩
    rw [e, mem_filter_ne]
    by_cases hc : c = b
    · subst hc; simp [st]
    · simp [hc, elsewhere c hc]
  · have mem' : ∀ c, c ∈ t.alloc.waiting ↔ c = b ∨ c ∈ s.alloc.waiting.filter (· ≠ b) := by
      rw [e]; exact fun c => mem_insertBefore _ _ _ _
    refine ⟨?_, nodup, fun c => ⟨?_, queued c⟩, ?_, fun c hc => ?_⟩
    · rw [e]; exact insertBefore_nodup (fun k => (mem_filter_ne.mp k).2 rfl) (nodupW.filter _)
    · rw [mem' c, mem_filter_ne]
      by_cases hc : c = b
      · subst hc; simp [st]
      · simp [hc, elsewhere c hc]
    · rw [e]
      exact insertBefore_pairwise waitsNoLater_trans (fun _ => waitsNoLater_of_before)
        (fun _ => waitsNoLater_of_not_before) rest
    · rcases (mem' c).mp hc with rfl | hc
      · exact stamp
      · exact restStamps c hc
  · have same : ∀ c, (t.bay c).state = (s.bay c).state ∧
        (t.bay c).settings.priority = (s.bay c).settings.priority ∧ (t.bay c).waitingStamp = (s.bay c).waitingStamp := by
      intro c
      by_cases hc : c = b
      · subst hc; exact ⟨st, priority, stamp⟩
      · rw [others c hc]; exact ⟨rfl, rfl, rfl⟩
    refine ⟨e ▸ nodupW, nodup, fun c => ⟨?_, queued c⟩, ?_, fun c hc => ?_⟩
    · rw [e, (same c).1]; exact (mem c).1
    · rw [e]
      refine order.imp fun k => ?_
      unfold waitsNoLater at *
      rw [(same _).2.1, (same _).2.1, (same _).2.2, (same _).2.2]
      exact k
    · obtain ⟨n, hn, lt⟩ := stamps c (e ▸ hc)
      exact ⟨n, (same c).2.2.trans hn, Nat.lt_of_lt_of_le lt next⟩

/-! ### The ramp channel over a change of one bay -/

/-- The channel stands, and the bay neither enters nor leaves POWERING. -/
theorem RampOk.stand (h : RampOk s) (others : ∀ c, c ≠ b → t.bay c = s.bay c)
    (powering : (t.bay b).state = .powering ↔ (s.bay b).state = .powering)
    (ramp : (t.ramp.state, t.ramp.rampTimer, t.ramp.settleTimer, t.ramp.iref) =
      (s.ramp.state, s.ramp.rampTimer, s.ramp.settleTimer, s.ramp.iref)) : RampOk t := by
  obtain ⟨state, rampTimer, settleTimer, iref⟩ : _ ∧ _ ∧ _ ∧ _ := by simpa only [Prod.mk.injEq] using ramp
  obtain ⟨bays, rest⟩ := h
  unfold RampOk
  rw [state, rampTimer, settleTimer, iref]
  refine ⟨fun c => ?_, rest⟩
  rw [← bays c]
  by_cases hc : c = b
  · subst hc; exact powering
  · rw [others c hc]

/-- RAMPING ends with its bay out of POWERING (R94). -/
theorem RampOk.ended (h : RampOk s) (others : ∀ c, c ≠ b → t.bay c = s.bay c) (was : (s.bay b).state = .powering)
    (is : (t.bay b).state ≠ .powering)
    (ramp : (t.ramp.state, t.ramp.rampTimer, t.ramp.settleTimer, t.ramp.iref) =
      ((endRamping s).ramp.state, (endRamping s).ramp.rampTimer, (endRamping s).ramp.settleTimer,
        (endRamping s).ramp.iref)) : RampOk t := by
  obtain ⟨state, rampTimer, settleTimer, iref⟩ : _ ∧ _ ∧ _ ∧ _ := by simpa only [Prod.mk.injEq] using ramp
  obtain ⟨bays, -⟩ := h
  have none : ∀ c, (t.bay c).state ≠ .powering := by
    intro c
    by_cases hc : c = b
    · subst hc; exact is
    · rw [others c hc]
      intro k
      exact hc (ChannelState.ramping.inj (((bays c).mp k).symm.trans ((bays b).mp was)))
  unfold RampOk
  rw [state, rampTimer, settleTimer, iref]
  unfold endRamping
  split <;> simp [none, ChannelState.bay]

/-! ### The sums over a change of one bay -/

/-- What a bay adds to the non-SHEDDING sum of a scope. -/
def Bay.load (scope : Option ZoneIx) (y : Bay) : Nat :=
  if scope.all (· = y.settings.zone) && y.state ≠ .shedding then y.alloc else 0

theorem sum_map_change {f g : BayIx → Nat} (h : ∀ c, c ≠ b → g c = f c) :
    (allBays.map g).sum + f b = (allBays.map f).sum + g b := by
  have perm := List.perm_cons_erase (mem_allBays b)
  have rest : (allBays.erase b).map g = (allBays.erase b).map f :=
    List.map_congr_left fun c hc => h c ((List.Nodup.mem_erase_iff allBays_nodup).mp hc).1
  have hf := (perm.map f).sum_nat
  have hg := (perm.map g).sum_nat
  rw [List.map_cons, List.sum_cons] at hf hg
  rw [hf, hg, rest]
  omega

theorem allocSum_change (sel : Bay → Bool) (others : ∀ c, c ≠ b → t.bay c = s.bay c) :
    allocSum sel t + (if sel (s.bay b) then (s.bay b).alloc else 0) =
      allocSum sel s + if sel (t.bay b) then (t.bay b).alloc else 0 :=
  sum_map_change (f := fun c => if sel (s.bay c) then (s.bay c).alloc else 0) fun c hc => by rw [others c hc]

theorem nonShedding_change (scope : Option ZoneIx) (others : ∀ c, c ≠ b → t.bay c = s.bay c) :
    nonShedding scope t + (s.bay b).load scope = nonShedding scope s + (t.bay b).load scope :=
  allocSum_change _ others

theorem budgetOk_iff : BudgetOk s ↔ (∀ b, (s.bay b).alloc ≠ 0 → (s.bay b).state.allocated = true) ∧
    ∀ scope, nonShedding scope s ≤ limitOf scope s := by
  unfold BudgetOk
  rw [Option.forall]
  rfl

/-- No sum rises beyond its limit, and only an allocated state holds watts. -/
theorem BudgetOk.change (h : BudgetOk s) (f : BayFrame b s t)
    (allocated : (t.bay b).alloc ≠ 0 → (t.bay b).state.allocated = true)
    (fits : ∀ scope, (t.bay b).load scope ≤ (s.bay b).load scope ∨
      nonShedding scope s + (t.bay b).load scope ≤ limitOf scope s + (s.bay b).load scope) : BudgetOk t := by
  obtain ⟨alloc, sums⟩ := budgetOk_iff.mp h
  refine budgetOk_iff.mpr ⟨fun c => ?_, fun scope => ?_⟩
  · by_cases hc : c = b
    · subst hc; exact allocated
    · rw [f.others c hc]; exact alloc c
  · rw [f.limitOf]
    have := nonShedding_change scope f.others
    have := sums scope
    have := fits scope
    omega

theorem Bay.load_zero (scope : Option ZoneIx) {y : Bay} (h : y.alloc = 0) : y.load scope = 0 := by
  unfold Bay.load; rw [h, ite_self]

theorem Bay.load_shedding (scope : Option ZoneIx) {y : Bay} (h : y.state = .shedding) : y.load scope = 0 := by
  simp [Bay.load, h]

theorem Bay.load_le_alloc (scope : Option ZoneIx) (y : Bay) : y.load scope ≤ y.alloc := by
  unfold Bay.load; split <;> omega

/-- A bay of the same zone that adds no more. -/
theorem Bay.load_le {scope : Option ZoneIx} {x y : Bay} (zone : y.settings.zone = x.settings.zone)
    (alloc : y.alloc ≤ x.alloc) (state : y.state = .shedding ∨ x.state ≠ .shedding) :
    y.load scope ≤ x.load scope := by
  unfold Bay.load
  rw [zone]
  rcases state with h | h
  · simp [h]
  · simp only [ne_eq, h, not_false_eq_true, decide_true, Bool.and_true]
    split <;> split <;> simp_all

/-- A bay that loses its allocation. -/
theorem BudgetOk.released (h : BudgetOk s) (f : BayFrame b s t) (none : (t.bay b).alloc = 0) : BudgetOk t :=
  h.change f (fun k => absurd none k) fun scope => .inl (by rw [Bay.load_zero scope none]; exact Nat.zero_le _)

/-! ### The inventory store over a change of one bay -/

/-- The bay holds a blade. -/
def BayState.present (st : BayState) : Prop := st ≠ .empty ∧ st ≠ .settling

/-- What the law of the store says of the bay's read. -/
def Bay.ReadOk (b : BayIx) (s : State) (y : Bay) : Prop :=
  (y.read.isSome = true → y.state = .ident) ∧ ∀ r, y.read = some r →
    1 ≤ r.nextBlock ∧ 0 ∉ r.retry ∧ (r.phase = .header → ∀ i, (s.store.slots.get i).owner ≠ some (.bay b))

theorem StoreOk.readOk (h : StoreOk s) (b : BayIx) : (s.bay b).ReadOk b s := by
  obtain ⟨-, -, -, -, ident, -, reads⟩ := h
  exact ⟨ident b, reads (.bay b)⟩

theorem StoreOk.change (h : StoreOk s) (f : BayFrame b s t) (store : t.store = s.store)
    (holds : (∃ i, (s.store.slots.get i).owner = some (.bay b)) → (s.bay b).state.present → (t.bay b).state.present)
    (read : (t.bay b).ReadOk b s) : StoreOk t := by
  obtain ⟨slots, once, bays, supplies, ident, supplyIdent, reads⟩ := h
  have counts : ∀ o, slotsOf o t = slotsOf o s := fun o => by unfold slotsOf; rw [store]
  unfold StoreOk
  simp only [store, counts, f.supply]
  refine ⟨slots, once, fun i c hc => ?_, supplies, fun c => ?_, supplyIdent, fun o r hr => ?_⟩
  · by_cases e : c = b
    · subst e; exact holds ⟨i, hc⟩ (bays i c hc)
    · rw [f.others c e]; exact bays i c hc
  · by_cases e : c = b
    · subst e; exact read.1
    · rw [f.others c e]; exact ident c
  · cases o with
    | bay c =>
      by_cases e : c = b
      · subst e; exact read.2 r hr
      · exact reads (.bay c) r ((congrArg Bay.read (f.others c e)).symm.trans hr)
    | supply i => exact reads (.supply i) r ((congrArg Supply.read (f.supply i)).symm.trans hr)

/-- A bay that keeps its read and its blade; one in IDENT stays there or has no read in flight. -/
theorem StoreOk.moved (h : StoreOk s) (f : BayFrame b s t) (store : t.store = s.store) (present : (t.bay b).state.present)
    (read : (t.bay b).read = (s.bay b).read)
    (ident : (s.bay b).state = .ident → (t.bay b).state = .ident ∨ (s.bay b).read = none) : StoreOk t := by
  obtain ⟨flight, reads⟩ := h.readOk b
  refine h.change f store (fun _ _ => present) ⟨fun k => ?_, fun r hr => reads r (read.symm.trans hr)⟩
  rw [read] at k
  refine (ident (flight k)).resolve_right fun none => ?_
  rw [none] at k
  cases k

end Sys2Proof.Machine

namespace Sys2Proof.Machine

variable {O : Law → Prop} {P : Permit → Prop} {s t : State} {b c : BayIx}

/-! ### What the exits and entries make of a bay -/

theorem enterWaiting_bay_self (b : BayIx) (s : State) : (enterWaiting b s).bay b =
    { (s.bay b).enter .waiting s.now with stopRequested := false, waitingStamp := some s.alloc.nextStamp } := by
  show ((setState b .waiting s).modBay b fun y =>
    { y with stopRequested := false, waitingStamp := some s.alloc.nextStamp }).bay b = _
  rw [State.modBay_bay_self, setState_bay_self]

theorem enterWaiting_bay_ne (h : c ≠ b) (s : State) : (enterWaiting b s).bay c = s.bay c := by
  show ((setState b .waiting s).modBay b fun y =>
    { y with stopRequested := false, waitingStamp := some s.alloc.nextStamp }).bay c = _
  rw [State.modBay_bay_ne _ h, setState_bay_ne _ h]

/-- A bay's record once main power is off (R9). -/
def Bay.powerOff (y : Bay) : Bay :=
  { y with alloc := 0, deadline := none, capTimer := none, lastDecided := none, activeUplink := none
           link := y.link.powerOff }

/-- Main power off, less the station entries: RAMPING ends and the bay's record is released. -/
def unplug (b : BayIx) (s : State) : State :=
  (if (s.bay b).state = .powering then endRamping s else s).modBay b Bay.powerOff

/-- The station entries of a forwarding bay go before the rest of the power-off. -/
theorem powerOff_eq (b : BayIx) (s : State) :
    powerOff b s = unplug b (if (s.bay b).state.forwarding then purgeStations b s else s) := by
  unfold powerOff unplug
  by_cases f : (s.bay b).state.forwarding = true
  · have np : (s.bay b).state ≠ .powering := fun e => by rw [e] at f; cases f
    simp only [f, np, if_false, if_true]
    rw [show (purgeStations b s).bay b = s.bay b from rfl, if_neg np]
    rfl
  · simp only [f]
    rfl

theorem endRamping_bay (s : State) : (endRamping s).bay c = s.bay c := by
  unfold endRamping; split <;> rfl

theorem unplug_bay_self (b : BayIx) (s : State) : (unplug b s).bay b = (s.bay b).powerOff := by
  unfold unplug
  rw [State.modBay_bay_self]
  split
  · rw [endRamping_bay]
  · rfl

theorem unplug_bay_ne (h : c ≠ b) (s : State) : (unplug b s).bay c = s.bay c := by
  unfold unplug
  rw [State.modBay_bay_ne _ h]
  split
  · exact endRamping_bay s
  · rfl

/-- What `unplug` leaves: the frame of one bay, with the lists as they were. -/
theorem unplug_frame (b : BayIx) (s : State) : BayFrame b s (unplug b s) where
  frame := by
    unfold unplug endRamping
    split
    · split <;> rfl
    · rfl
  others _ h := unplug_bay_ne h s
  rampSettings := by
    unfold unplug endRamping
    split
    · split <;> rfl
    · rfl

theorem unplug_lists (b : BayIx) (s : State) : (unplug b s).alloc = s.alloc ∧ (unplug b s).ramp.queue = s.ramp.queue := by
  unfold unplug endRamping
  split
  · split <;> exact ⟨rfl, rfl⟩
  · exact ⟨rfl, rfl⟩

theorem unplug_store (b : BayIx) (s : State) : (unplug b s).store = s.store := by
  unfold unplug endRamping
  split
  · split <;> rfl
  · rfl

theorem unplug_now (b : BayIx) (s : State) : (unplug b s).now = s.now := by
  unfold unplug endRamping
  split
  · split <;> rfl
  · rfl

/-- The channel ends its RAMPING for a POWERING bay, and else stands. -/
theorem unplug_ramp (b : BayIx) (s : State) :
    (unplug b s).ramp = if (s.bay b).state = .powering then (endRamping s).ramp else s.ramp := by
  unfold unplug
  split <;> rfl

/-! ### The frame of one bay -/

theorem BayFrame.refl (b : BayIx) (s : State) : BayFrame b s s := ⟨rfl, fun _ _ => rfl, rfl⟩

theorem BayFrame.trans {u : State} (h : BayFrame b s t) (k : BayFrame b t u) : BayFrame b s u where
  frame := by rw [k.frame, h.frame]
  others c hc := (k.others c hc).trans (h.others c hc)
  rampSettings := k.rampSettings.trans h.rampSettings

theorem BayFrame.modBay (b : BayIx) (f : Bay → Bay) (s : State) : BayFrame b s (s.modBay b f) :=
  ⟨rfl, fun _ h => State.modBay_bay_ne s h f, rfl⟩

theorem BayFrame.setState (b : BayIx) (st : BayState) (s : State) : BayFrame b s (setState b st s) :=
  .modBay b _ s

theorem BayFrame.enterWaiting (b : BayIx) (s : State) : BayFrame b s (enterWaiting b s) :=
  ⟨rfl, fun _ h => enterWaiting_bay_ne h s, rfl⟩

theorem BayFrame.leaveWaiting (b : BayIx) (s : State) : BayFrame b s (leaveWaiting b s) :=
  ⟨rfl, fun _ _ => rfl, rfl⟩

theorem BayFrame.leaveRampQueue (b : BayIx) (s : State) : BayFrame b s (leaveRampQueue b s) :=
  ⟨rfl, fun _ _ => rfl, rfl⟩

theorem BayFrame.joinWaiting (b : BayIx) (s : State) : BayFrame b s (joinWaiting b s) :=
  ⟨rfl, fun _ _ => rfl, rfl⟩

theorem BayFrame.now (f : BayFrame b s t) : t.now = s.now := by rw [f.frame]

/-! ### The lists of a bay that stands in none -/

/-- A bay that stands in none of the lists and joins none. -/
theorem ListsOk.aside (h : ListsOk s) (others : ∀ c, c ≠ b → t.bay c = s.bay c)
    (was : (s.bay b).state ≠ .waiting ∧ (s.bay b).state ≠ .admitted)
    (is : (t.bay b).state ≠ .waiting ∧ (t.bay b).state ≠ .admitted)
    (lists : t.alloc = s.alloc ∧ t.ramp.queue = s.ramp.queue) : ListsOk t := by
  refine h.change others ⟨.inl ⟨is.1, ?_⟩, .inl ⟨is.2, ?_⟩, Nat.le_of_eq (by rw [lists.1])⟩
  · rw [h.not_waiting was.1, lists.1]
  · rw [h.not_queued was.2, lists.2]

/-- A bay that stands in none of the lists joins the waiting list with the next stamp. -/
theorem ListsOk.joins (h : ListsOk s) (was : (s.bay b).state ≠ .waiting ∧ (s.bay b).state ≠ .admitted)
    (u : State) (f : BayFrame b s u) (lists : u.alloc = s.alloc ∧ u.ramp.queue = s.ramp.queue) :
    ListsOk (enterWaiting b u) := by
  have self := enterWaiting_bay_self b u
  refine h.change (f.trans (.enterWaiting b u)).others
    ⟨.inr (.inl ⟨by rw [self]; rfl, ?_, s.alloc.nextStamp, ?_, ?_⟩), .inl ⟨by rw [self]; exact nofun, ?_⟩, ?_⟩
  · rw [h.not_waiting was.1, ← lists.1]
    have keys : waitsBefore (enterWaiting b u) = waitsBefore
        ((setState b .waiting u).modBay b fun y =>
          { y with stopRequested := false, waitingStamp := some u.alloc.nextStamp }) := rfl
    rw [keys]
    rfl
  · rw [self, lists.1]
  · show s.alloc.nextStamp < u.alloc.nextStamp + 1
    rw [lists.1]
    exact Nat.lt_succ_self _
  · rw [h.not_queued was.2, ← lists.2]
    rfl
  · show s.alloc.nextStamp ≤ u.alloc.nextStamp + 1
    rw [lists.1]
    exact Nat.le_succ _

/-! ### Purges (R147) -/

theorem keeps_dropStations (sel : Station → Bool) : KeepsBut O P s (dropStations sel s) := by
  refine .stations _ (.inr rfl) fun _ ⟨once, unicast, learned⟩ => ?_
  have get : ∀ i e, (dropStations sel s).stations.entries.get i = some e →
      s.stations.entries.get i = some e := fun i e he => by
    rw [dropStations_get, Option.filter_eq_some_iff] at he
    exact he.1
  exact ⟨fun i j e f he hf => once i j e f (get i e he) (get j f hf), fun i e he => unicast i e (get i e he),
    fun i e he => learned i e (get i e he)⟩

theorem purgeStations_noLearned (b : BayIx) (s : State) : NoLearned b (purgeStations b s) := by
  intro i e he hl hb
  unfold purgeStations at he
  rw [dropStations_get, Option.filter_eq_some_iff] at he
  simp [hl, hb] at he

/-- The station entries of a forwarding bay purged. -/
def purged (b : BayIx) (s : State) : State := if (s.bay b).state.forwarding then purgeStations b s else s

theorem keeps_purged : KeepsBut O P s (purged b s) := .ite (fun _ => keeps_dropStations _) fun _ => .refl s

theorem purged_bay (b c : BayIx) (s : State) : (purged b s).bay c = s.bay c := by
  unfold purged; split <;> rfl

theorem purged_noLearned (h : (s.bay b).state.forwarding = true) : NoLearned b (purged b s) := by
  unfold purged
  rw [if_pos h]
  exact purgeStations_noLearned b s

theorem powerOff_eq_purged (b : BayIx) (s : State) : powerOff b s = unplug b (purged b s) := powerOff_eq b s

/-! ### Bays out of the main-powered states (R9) -/

/-- What main power off keeps, whatever state the bay takes from it: the laws of the bay's own record. -/
theorem keeps_unplugged (f : BayFrame b (unplug b s) t) (main : (s.bay b).state.mainPowered = true)
    (quiet : (s.bay b).state.forwarding = true → NoLearned b s)
    (settings : (t.bay b).settings = (s.bay b).settings) (enables : (t.bay b).EnablesOk)
    (alloc : (t.bay b).alloc = 0) (uplink : (t.bay b).activeUplink = none)
    (led : LedStep P s.now (s.bay b) (t.bay b)) (present : (t.bay b).state.present)
    (store : t.store = s.store) (read : (t.bay b).read = (s.bay b).read) (off : (t.bay b).state ≠ .powering)
    (ramp : (t.ramp.state, t.ramp.rampTimer, t.ramp.settleTimer, t.ramp.iref) =
      ((unplug b s).ramp.state, (unplug b s).ramp.rampTimer, (unplug b s).ramp.settleTimer, (unplug b s).ramp.iref))
    (lists : ListsOk s → ListsOk t) : KeepsBut O P s t := by
  have frame := (unplug_frame b s).trans f
  refine .bay frame (.inr settings) led (fun _ _ => enables) (fun _ ⟨r, l⟩ => ⟨?_, lists l⟩)
    (fun _ h => h.released frame alloc) (fun _ h => .inr (quiet h)) (fun _ _ u h => ?_) (fun _ h => ?_)
  · rw [unplug_ramp] at ramp
    by_cases p : (s.bay b).state = .powering
    · rw [if_pos p] at ramp
      exact r.ended frame.others p off ramp
    · rw [if_neg p] at ramp
      exact r.stand frame.others (by simp [p, off]) ramp
  · rw [uplink] at h
    cases h
  · refine h.moved frame store present read fun ident => ?_
    rw [ident] at main
    cases main

/-- Main power off into a state outside the lists (R9). -/
theorem keeps_powerOffInto (st : BayState) (main : (s.bay b).state.mainPowered = true)
    (aside : st = .off ∨ st = .fault) (permits : ∀ p ∈ (s.bay b).state.needs st, P p) :
    KeepsBut O P s (setState b st (powerOff b s)) := by
  rw [powerOff_eq_purged]
  have quiet : ((purged b s).bay b).state.forwarding = true → NoLearned b (purged b s) := fun k =>
    purged_noLearned (by rwa [purged_bay] at k)
  refine .trans (keeps_purged (b := b)) ?_
  have same : (purged b s).bay b = s.bay b := purged_bay b b s
  generalize purged b s = u at quiet same
  rw [← same] at main permits
  have self : (setState b st (unplug b u)).bay b = (u.bay b).powerOff.enter st u.now := by
    rw [setState_bay_self, unplug_bay_self, unplug_now]
  refine keeps_unplugged (.setState b st _) main quiet ?_ ?_ ?_ ?_ ?_ ?_ (unplug_store b u) ?_ ?_ rfl fun l => ?_
  · rw [self]; rfl
  · rw [self]; exact ⟨rfl, rfl⟩
  · rw [self]; rfl
  · rw [self]; rfl
  · rw [self]; exact .entered permits rfl
  · rw [self]; rcases aside with rfl | rfl <;> exact ⟨nofun, nofun⟩
  · rw [self]; rfl
  · rw [self]; rcases aside with rfl | rfl <;> exact nofun
  · refine l.aside ((unplug_frame b u).trans (.setState b st _)).others ?_ ?_ (unplug_lists b u)
    · constructor <;> intro e <;> rw [e] at main <;> cases main
    · rw [self]; rcases aside with rfl | rfl <;> exact ⟨nofun, nofun⟩

/-- Main power off into WAITING (R79, R102). -/
theorem keeps_powerOffIntoWaiting (main : (s.bay b).state.mainPowered = true)
    (permits : ∀ p ∈ (s.bay b).state.needs .waiting, P p) : KeepsBut O P s (enterWaiting b (powerOff b s)) := by
  rw [powerOff_eq_purged]
  have quiet : ((purged b s).bay b).state.forwarding = true → NoLearned b (purged b s) := fun k =>
    purged_noLearned (by rwa [purged_bay] at k)
  refine .trans (keeps_purged (b := b)) ?_
  have same : (purged b s).bay b = s.bay b := purged_bay b b s
  generalize purged b s = u at quiet same
  rw [← same] at main permits
  have self := enterWaiting_bay_self b (unplug b u)
  rw [unplug_bay_self, unplug_now] at self
  refine keeps_unplugged (.enterWaiting b _) main quiet ?_ ?_ ?_ ?_ ?_ ?_ (unplug_store b u) ?_ ?_ rfl fun l => ?_
  · rw [self]; rfl
  · rw [self]; exact ⟨rfl, rfl⟩
  · rw [self]; rfl
  · rw [self]; rfl
  · rw [self]; exact .entered permits rfl
  · rw [self]; exact ⟨nofun, nofun⟩
  · rw [self]; rfl
  · rw [self]; exact nofun
  · refine l.joins ?_ _ (unplug_frame b u) (unplug_lists b u)
    constructor <;> intro e <;> rw [e] at main <;> cases main

end Sys2Proof.Machine

namespace Sys2Proof.Machine

variable {O : Law → Prop} {P : Permit → Prop} {s t : State} {b c : BayIx}

/-! ### Moves outside the lists and the ramp channel -/

/-- A state that stands in no list and holds no ramp. -/
def BayState.plain (st : BayState) : Prop := st ≠ .waiting ∧ st ≠ .admitted ∧ st ≠ .powering

theorem forwarding_iff {st : BayState} : st.forwarding = true ↔ st = .online ∨ st = .stopping ∨ st = .shedding := by
  cases st <;> decide

/-- No permit is needed. -/
theorem no_permits {x y : BayState} (h : x.needs y = []) : ∀ p ∈ x.needs y, P p := by rw [h]; exact nofun

/-- One permit is needed. -/
theorem one_permit {x y : BayState} {p : Permit} (h : x.needs y = [p]) (hp : P p) : ∀ q ∈ x.needs y, P q := by
  rw [h]
  intro q hq
  rw [List.mem_singleton.mp hq]
  exact hp

/-- A bay outside IDENT has no read in flight. -/
theorem StoreOk.read_none (h : StoreOk s) (read : (s.bay b).state = .ident → (s.bay b).read = none) :
    (s.bay b).read = none := by
  obtain ⟨flight, -⟩ := h.readOk b
  cases hr : (s.bay b).read with
  | none => rfl
  | some r => rw [← hr]; exact read (flight (by rw [hr]; rfl))

theorem Bay.ReadOk.none {y : Bay} (h : y.read = .none) : y.ReadOk b s :=
  ⟨fun k => absurd k (by rw [h]; exact nofun), fun r hr => absurd hr (by rw [h]; exact nofun)⟩

theorem Bay.UplinkOk.none {y : Bay} (h : y.activeUplink = .none) : y.UplinkOk s := by
  intro u hu
  rw [h] at hu
  cases hu

theorem Bay.UplinkOk.kept {x y : Bay} (h : x.UplinkOk s) (uplink : y.activeUplink = x.activeUplink)
    (forward : x.state.forwarding = true → y.state.forwarding = true) (settings : y.settings = x.settings) :
    y.UplinkOk s := by
  intro u hu
  obtain ⟨f, up, named⟩ := h u (uplink ▸ hu)
  exact ⟨forward f, up, settings ▸ named⟩

/-- A bay that keeps its watts. -/
theorem BudgetOk.held (h : BudgetOk s) (f : BayFrame b s t) (alloc : (t.bay b).alloc = (s.bay b).alloc)
    (settings : (t.bay b).settings = (s.bay b).settings)
    (allocated : (s.bay b).state.allocated = true → (t.bay b).state.allocated = true)
    (state : (t.bay b).state = .shedding ∨ (s.bay b).state ≠ .shedding) : BudgetOk t :=
  h.change f (fun k => allocated (h.1 b (alloc ▸ k))) fun _ =>
    .inl (Bay.load_le (congrArg _ settings) (Nat.le_of_eq alloc) state)

/-- A move between states outside the lists and the ramp. -/
theorem keeps_plain (f : BayFrame b s t) (same : t.ramp = s.ramp ∧ t.alloc = s.alloc)
    (was : (s.bay b).state.plain) (is : (t.bay b).state.plain) (settings : (t.bay b).settings = (s.bay b).settings)
    (led : LedStep P s.now (s.bay b) (t.bay b)) (enables : (t.bay b).EnablesOk)
    (budget : ¬ O .budget → BudgetOk s → BudgetOk t)
    (forward : (s.bay b).state.forwarding = true → (t.bay b).state.forwarding = true)
    (uplinks : ¬ O .uplinks → (s.bay b).UplinkOk s → (t.bay b).UplinkOk s)
    (store : ¬ O .store → StoreOk s → StoreOk t) : KeepsBut O P s t := by
  refine .bay f (.inr settings) led (fun _ _ => enables) (fun _ ⟨r, l⟩ => ⟨?_, ?_⟩) budget
    (fun _ h => .inl (forward h)) uplinks store
  · exact r.stand f.others (by simp [was.2.2, is.2.2]) (by rw [same.1])
  · exact l.aside f.others ⟨was.1, was.2.1⟩ ⟨is.1, is.2.1⟩ ⟨same.2, by rw [same.1]⟩

/-- A bay without watts, uplink or ramp enters another such state: IDENT, OFF, FAULT. -/
theorem keeps_setState (st : BayState) (was : (s.bay b).state = .ident ∨ (s.bay b).state = .off ∨
      (s.bay b).state = .fault ∨ (s.bay b).state = .empty ∨ (s.bay b).state = .settling)
    (is : st = .off ∨ st = .fault ∨ st = .settling ∧ (s.bay b).state = .empty)
    (read : (s.bay b).state = .ident → (s.bay b).read = none)
    (permits : ∀ p ∈ (s.bay b).state.needs st, P p) : KeepsBut O P s (setState b st s) := by
  have self := setState_bay_self (s := s) b st
  have plain : (s.bay b).state.plain := by rcases was with h | h | h | h | h <;> rw [h] <;> exact ⟨nofun, nofun, nofun⟩
  have idle : (s.bay b).state.forwarding = false ∧ (s.bay b).state.allocated = false := by
    rcases was with h | h | h | h | h <;> rw [h] <;> exact ⟨rfl, rfl⟩
  have frame := BayFrame.setState b st s
  refine keeps_plain frame ⟨rfl, rfl⟩ plain ?_ ?_ ?_ ?_ (fun _ h => h.held frame ?_ ?_ ?_ ?_) ?_
    (fun _ h => h.kept ?_ ?_ ?_) (fun _ h => ?_)
  all_goals try rw [self]
  · rcases is with rfl | rfl | ⟨rfl, -⟩ <;> exact ⟨nofun, nofun, nofun⟩
  · rfl
  · exact .entering permits
  · exact ⟨rfl, rfl⟩
  · rfl
  · rfl
  · simp [idle]
  · right; intro e; rw [e] at idle; cases idle.1
  · simp [idle]
  · rfl
  · simp [idle]
  · rfl
  · refine h.change frame rfl (fun _ present => ?_) ?_ <;> rw [self]
    · rcases is with rfl | rfl | ⟨rfl, e⟩
      · exact ⟨nofun, nofun⟩
      · exact ⟨nofun, nofun⟩
      · exact absurd e present.1
    · exact .none (h.read_none read)

/-- A running bay goes on to another running state, with the watts it holds (R78, R80, R97). -/
theorem keeps_forward (st : BayState) (g : Bay → Bay) (was : (s.bay b).state.forwarding = true)
    (is : st = .stopping ∨ st = .shedding) (notShed : st = .stopping → (s.bay b).state ≠ .shedding)
    (core : ∀ y : Bay, y.SameCore (g y)) : KeepsBut O P s ((setState b st s).modBay b g) := by
  refine .trans ?_ (.minor b g (core _))
  have self := setState_bay_self (s := s) b st
  have plain : (s.bay b).state.plain := by
    refine ⟨?_, ?_, ?_⟩ <;> intro e <;> rw [e] at was <;> cases was
  have forward : st.forwarding = true := by rcases is with rfl | rfl <;> rfl
  have frame := BayFrame.setState b st s
  refine keeps_plain frame ⟨rfl, rfl⟩ plain ?_ ?_ ?_ ?_ (fun _ h => h.held frame ?_ ?_ ?_ ?_) ?_
    (fun _ h => h.kept ?_ ?_ ?_) (fun _ h => h.moved frame rfl ?_ ?_ ?_)
  all_goals try rw [self]
  · rcases is with rfl | rfl <;> exact ⟨nofun, nofun, nofun⟩
  · rfl
  · refine .entering (no_permits ?_)
    rcases forwarding_iff.mp was with e | e | e <;> rw [e] <;> rcases is with rfl | rfl <;> rfl
  · exact ⟨rfl, rfl⟩
  · rfl
  · rfl
  · intro _; rcases is with rfl | rfl <;> rfl
  · rcases is with rfl | rfl
    · exact .inr (notShed rfl)
    · exact .inl rfl
  · exact fun _ => forward
  · rfl
  · exact fun _ => forward
  · rfl
  · rcases is with rfl | rfl <;> exact ⟨nofun, nofun⟩
  · rfl
  · intro e; rw [e] at was; cases was

/-! ### Into and out of the waiting list and the ramp queue -/

/-- Entry to WAITING from OFF, or from IDENT once its read has ended (R8, R70). -/
theorem keeps_enterWaiting (was : (s.bay b).state = .off ∨ (s.bay b).state = .ident ∧ (s.bay b).read = none)
    (permits : ∀ p ∈ (s.bay b).state.needs .waiting, P p) : KeepsBut O P s (enterWaiting b s) := by
  have self := enterWaiting_bay_self b s
  have frame := BayFrame.enterWaiting b s
  have idle : (s.bay b).state.forwarding = false ∧ (s.bay b).state.allocated = false ∧
      (s.bay b).state.plain ∧ (s.bay b).state ≠ .shedding := by
    rcases was with h | ⟨h, -⟩ <;> rw [h] <;> exact ⟨rfl, rfl, ⟨nofun, nofun, nofun⟩, nofun⟩
  obtain ⟨still, dry, plain, notShed⟩ := idle
  refine .bay frame (.inr ?_) ?_ (fun _ _ => ?_) (fun _ ⟨r, l⟩ => ⟨?_, ?_⟩) (fun _ h => h.held frame ?_ ?_ ?_ ?_)
    (fun _ h => ?_) (fun _ h => h.kept ?_ ?_ ?_) (fun _ h => h.moved frame rfl ?_ ?_ ?_)
  all_goals try rw [self]
  · rfl
  · exact .entered permits rfl
  · exact ⟨rfl, rfl⟩
  · exact r.stand frame.others (by rw [self]; simp [plain.2.2]) rfl
  · exact l.joins ⟨plain.1, plain.2.1⟩ s (.refl b s) ⟨rfl, rfl⟩
  · rfl
  · rfl
  · simp [dry]
  · exact .inr notShed
  · rw [still] at h; cases h
  · rfl
  · simp [still]
  · rfl
  · exact ⟨nofun, nofun⟩
  · rfl
  · rintro e
    rcases was with h | ⟨-, none⟩
    · rw [h] at e; cases e
    · exact .inr none

/-- A bay that leaves the waiting list or the ramp queue with its watts released. -/
theorem keeps_leave (f : BayFrame b s t) (store : t.store = s.store) (was : (s.bay b).state = .waiting ∨ (s.bay b).state = .admitted)
    (is : (t.bay b).state = .off ∨ (t.bay b).state = .waiting ∧ (s.bay b).state = .admitted)
    (settings : (t.bay b).settings = (s.bay b).settings) (led : LedStep P s.now (s.bay b) (t.bay b))
    (enables : (t.bay b).EnablesOk) (ramp : (t.ramp.state, t.ramp.rampTimer, t.ramp.settleTimer, t.ramp.iref) =
      (s.ramp.state, s.ramp.rampTimer, s.ramp.settleTimer, s.ramp.iref))
    (lists : ListsOk s → ListsStep b s t)
    (alloc : (t.bay b).alloc = 0 ∨ (t.bay b).alloc = (s.bay b).alloc ∧ (s.bay b).state = .waiting)
    (uplink : (t.bay b).activeUplink = (s.bay b).activeUplink) (read : (t.bay b).read = (s.bay b).read) :
    KeepsBut O P s t := by
  have notPowering : (s.bay b).state ≠ .powering ∧ (t.bay b).state ≠ .powering := by
    constructor
    · rcases was with h | h <;> rw [h] <;> exact nofun
    · rcases is with h | ⟨h, -⟩ <;> rw [h] <;> exact nofun
  have still : (s.bay b).state.forwarding = false := by rcases was with h | h <;> rw [h] <;> rfl
  refine .bay f (.inr settings) led (fun _ _ => enables) (fun _ ⟨r, l⟩ => ⟨?_, ?_⟩) (fun _ h => ?_) (fun _ h => ?_)
    (fun _ h => h.kept uplink ?_ settings) (fun _ h => h.moved f store ?_ read ?_)
  · exact r.stand f.others (by simp [notPowering]) ramp
  · exact l.change f.others (lists l)
  · refine h.released f ?_
    rcases alloc with none | ⟨kept, waiting⟩
    · exact none
    · rw [kept]
      have dry := h.1 b
      rw [waiting] at dry
      exact Classical.byContradiction fun k => by cases dry k
  · rw [still] at h; cases h
  · rw [still]; exact nofun
  · rcases is with h | ⟨h, -⟩ <;> rw [h] <;> exact ⟨nofun, nofun⟩
  · intro e; rcases was with h | h <;> rw [h] at e <;> cases e

theorem keeps_waitingToOff (was : (s.bay b).state = .waiting) (permit : P .inDark) :
    KeepsBut O P s (waitingToOff b s) := by
  have self : (waitingToOff b s).bay b = (s.bay b).enter .off s.now := setState_bay_self (leaveWaiting b s) b .off
  refine keeps_leave ((BayFrame.leaveWaiting b s).trans (.setState b .off _)) rfl (.inl was) (.inl ?_) ?_ ?_ ?_ rfl
    (fun l => ⟨.inl ⟨?_, rfl⟩, .inl ⟨?_, ?_⟩, Nat.le_refl _⟩) (.inr ⟨?_, was⟩) ?_ ?_
  all_goals try rw [self]
  · rfl
  · rfl
  · exact .entering (one_permit (by rw [was]; rfl) permit)
  · exact ⟨rfl, rfl⟩
  · exact nofun
  · exact nofun
  · exact (l.not_queued (by rw [was]; exact nofun)).symm
  · rfl
  · rfl
  · rfl

/-- Out of ADMITTED: the ramp queue is left and the allocation released. -/
def leaveAdmitted (b : BayIx) (s : State) : State := (leaveRampQueue b s).modBay b fun y => { y with alloc := 0 }

theorem leaveAdmitted_bay (b : BayIx) (s : State) : (leaveAdmitted b s).bay b = { s.bay b with alloc := 0 } :=
  State.modBay_bay_self ..

theorem BayFrame.leaveAdmitted (b : BayIx) (s : State) : BayFrame b s (leaveAdmitted b s) :=
  (BayFrame.leaveRampQueue b s).trans (.modBay b _ _)

theorem keeps_admittedOff (was : (s.bay b).state = .admitted) (permit : P .inDark) :
    KeepsBut O P s (setState b .off (leaveAdmitted b s)) := by
  have self : (setState b .off (leaveAdmitted b s)).bay b = { (s.bay b).enter .off s.now with alloc := 0 } := by
    rw [setState_bay_self, leaveAdmitted_bay]; rfl
  refine keeps_leave ((BayFrame.leaveAdmitted b s).trans (.setState b .off _)) rfl (.inr was) (.inl ?_) ?_ ?_ ?_ rfl
    (fun l => ⟨.inl ⟨?_, ?_⟩, .inl ⟨?_, rfl⟩, Nat.le_refl _⟩) (.inl ?_) ?_ ?_
  all_goals try rw [self]
  · rfl
  · rfl
  · exact .entered (one_permit (by rw [was]; rfl) permit) rfl
  · exact ⟨rfl, rfl⟩
  · exact nofun
  · exact (l.not_waiting (by rw [was]; exact nofun)).symm
  · exact nofun
  · rfl
  · rfl

theorem keeps_admittedBack (was : (s.bay b).state = .admitted) :
    KeepsBut O P s (enterWaiting b (leaveAdmitted b s)) := by
  have self := enterWaiting_bay_self b (leaveAdmitted b s)
  rw [leaveAdmitted_bay] at self
  refine keeps_leave ((BayFrame.leaveAdmitted b s).trans (.enterWaiting b _)) rfl (.inr was) (.inr ⟨?_, was⟩) ?_ ?_ ?_ rfl
    (fun l => ⟨.inr (.inl ⟨?_, ?_, s.alloc.nextStamp, ?_, Nat.lt_succ_self _⟩), .inl ⟨?_, rfl⟩, Nat.le_succ _⟩)
    (.inl ?_) ?_ ?_
  all_goals try rw [self]
  · rfl
  · rfl
  · exact .entered (no_permits (by rw [was]; rfl)) rfl
  · exact ⟨rfl, rfl⟩
  · rfl
  · rw [l.not_waiting (by rw [was]; exact nofun)]
    rfl
  · rfl
  · exact nofun
  · rfl
  · rfl
  · rfl

theorem admitBay_bay_self (b : BayIx) (level : Nat) (s : State) : (admitBay b level s).bay b =
    { (s.bay b).enter .admitted s.now with
      alloc := level, lastDecided := none, applied := none, admissionStamp := some s.alloc.nextStamp } := by
  refine (setState_bay_self _ b .admitted).trans ?_
  refine congrArg (Bay.enter .admitted s.now) (State.modBay_bay_self s b fun y =>
    { y with alloc := level, lastDecided := none, applied := none, admissionStamp := some s.alloc.nextStamp })

theorem BayFrame.admitBay (b : BayIx) (level : Nat) (s : State) : BayFrame b s (admitBay b level s) :=
  ⟨rfl, fun _ h => (admitBay_keeps h level s).1, rfl⟩

/-- Watts that the headroom of the chassis and of the bay's zone hold fit every sum. -/
theorem fits_of_headroom {x y : Bay} {more : Nat} (zone : y.settings.zone = x.settings.zone)
    (alloc : y.alloc = x.alloc + more) (state : x.state ≠ .shedding) (chassis : (more : Int) ≤ headroom none s)
    (own : (more : Int) ≤ headroom (some x.settings.zone) s) (scope : Option ZoneIx) :
    nonShedding scope s + y.load scope ≤ limitOf scope s + x.load scope ∨ y.load scope ≤ x.load scope := by
  have le : ∀ scope, nonShedding scope s ≤ allocated scope s := by
    intro scope
    unfold nonShedding allocated allocSum
    refine sum_map_mono fun c _ => ?_
    by_cases h : scope.all (· = (s.bay c).settings.zone) = true
    · rw [if_pos h]
      split <;> omega
    · exact Nat.le_of_eq (by rw [if_neg h, if_neg fun k => h (Bool.and_eq_true_iff.mp k).1])
  have adds : y.load scope = if scope.all (· = x.settings.zone) && y.state ≠ .shedding then x.alloc + more else 0 := by
    unfold Bay.load
    rw [zone, alloc]
  have held : x.load scope = if scope.all (· = x.settings.zone) then x.alloc else 0 := by
    unfold Bay.load
    simp [state]
  unfold headroom at chassis own
  rw [adds, held]
  match scope with
  | none =>
    have := le none
    left
    simp only [Option.all_none, Bool.true_and, if_true]
    split <;> omega
  | some z =>
    by_cases e : z = x.settings.zone
    · have := le (some z)
      subst e
      left
      simp only [Option.all_some, decide_true, Bool.true_and, if_true]
      split <;> omega
    · right
      simp [e]

/-- An admission within the headrooms (R73). -/
theorem keeps_admitBay (level : Nat) (was : (s.bay b).state = .waiting) (chassis : (level : Int) ≤ headroom none s)
    (own : (level : Int) ≤ headroom (some (s.bay b).settings.zone) s) : KeepsBut O P s (admitBay b level s) := by
  have self := admitBay_bay_self b level s
  have frame := BayFrame.admitBay b level s
  refine .bay frame (.inr ?_) ?_ (fun _ _ => ?_) (fun _ ⟨r, l⟩ => ⟨?_, ?_⟩) (fun _ h => h.change frame ?_ fun scope => ?_)
    (fun _ h => ?_) (fun _ h => h.kept ?_ ?_ ?_) (fun _ h => h.moved frame rfl ?_ ?_ ?_)
  all_goals try rw [self]
  · rfl
  · exact .entered (no_permits (by rw [was]; rfl)) rfl
  · exact ⟨rfl, rfl⟩
  · exact r.stand frame.others (by rw [self, was]; exact ⟨nofun, nofun⟩) rfl
  · refine l.change frame.others ⟨.inl ⟨by rw [self]; exact nofun, rfl⟩, .inr (.inl ⟨by rw [self]; rfl, ?_⟩), Nat.le_succ _⟩
    rw [l.not_queued (by rw [was]; exact nofun)]
    rfl
  · exact fun _ => rfl
  · have dry : (s.bay b).alloc = 0 := Classical.byContradiction fun k => by
      have := h.1 b k
      rw [was] at this
      cases this
    exact (fits_of_headroom (by rfl) (by rw [dry]; exact (Nat.zero_add level).symm) (by rw [was]; exact nofun)
      chassis own scope).symm
  · rw [was] at h; cases h
  · rfl
  · rw [was]; exact nofun
  · rfl
  · exact ⟨nofun, nofun⟩
  · rfl
  · intro e; rw [was] at e; cases e

/-! ### Cap decisions (R82) -/

theorem capDecision_bay_self (b : BayIx) (level : Nat) (s : State) : (capDecision b level s).bay b =
    { s.bay b with alloc := level, lastDecided := some level, capTimer := some (s.now + s.alloc.capTimeout * 1000)
                   link := { (s.bay b).link with slot := some ⟨level, false⟩ } } := State.modBay_bay_self ..

/-- A cap decision of an ONLINE bay that lowers its watts or adds no more than the headrooms hold. -/
theorem keeps_capDecision (level : Nat) (was : (s.bay b).state = .online)
    (fits : level ≤ (s.bay b).alloc ∨ ∃ more : Nat, level = (s.bay b).alloc + more ∧ (more : Int) ≤ headroom none s ∧
      (more : Int) ≤ headroom (some (s.bay b).settings.zone) s) : KeepsBut O P s (capDecision b level s) := by
  have self := capDecision_bay_self b level s
  have frame : BayFrame b s (capDecision b level s) := .modBay b _ s
  have plain : (s.bay b).state.plain := by rw [was]; exact ⟨nofun, nofun, nofun⟩
  have led : LedStep P s.now (s.bay b) ((capDecision b level s).bay b) := by rw [self]; exact .same rfl rfl
  refine .bay frame (.inr ?_) led (fun _ h => ?_) (fun _ ⟨r, l⟩ => ⟨?_, ?_⟩)
    (fun _ h => h.change frame (fun _ => ?_) fun scope => ?_)
    (fun _ h => .inl ?_) (fun _ h => h.kept ?_ ?_ ?_) (fun _ h => h.moved frame rfl ?_ ?_ ?_)
  all_goals try rw [self]
  · exact h
  · exact r.stand frame.others (by rw [self]) rfl
  · exact l.aside frame.others ⟨plain.1, plain.2.1⟩ (by rw [self]; exact ⟨plain.1, plain.2.1⟩) ⟨rfl, rfl⟩
  · show (s.bay b).state.allocated = true
    rw [was]; rfl
  · rcases fits with less | ⟨more, e, chassis, own⟩
    · exact .inl (Bay.load_le rfl less (.inr (by rw [was]; exact nofun)))
    · exact (fits_of_headroom (by rfl) (by exact e) (by rw [was]; exact nofun) chassis own scope).symm
  · exact h
  · exact id
  · show (s.bay b).state.present
    rw [was]; exact ⟨nofun, nofun⟩
  · exact .inl

end Sys2Proof.Machine

namespace Sys2Proof.Machine

variable {O : Law → Prop} {P : Permit → Prop} {s t : State} {b c : BayIx}

/-! ### The active uplink and the read of a bay that stays in its state -/

/-- A bay's record changed in its active uplink, its read and what no law reads. -/
theorem keeps_record (f : BayFrame b s t) (same : t.ramp = s.ramp ∧ t.alloc = s.alloc)
    (core : (s.bay b).SameCore { t.bay b with activeUplink := (s.bay b).activeUplink, read := (s.bay b).read })
    (uplinks : ¬ O .uplinks → (s.bay b).UplinkOk s → (t.bay b).UplinkOk s)
    (store : ¬ O .store → StoreOk s → StoreOk t) : KeepsBut O P s t := by
  obtain ⟨settings, state, standby, main, ledSince, alloc, stamp, -, -⟩ := core
  dsimp only at settings state standby main ledSince alloc stamp
  refine .bay f (.inr settings) (.same state ledSince) (fun _ h => ?_) (fun _ ⟨r, l⟩ => ⟨?_, ?_⟩)
    (fun _ h => h.held f alloc settings (by rw [state]; exact id) ?_) (fun _ h => .inl (state.symm ▸ h)) uplinks store
  · unfold Bay.EnablesOk
    rw [standby, main, state]
    exact h
  · exact r.stand f.others (by rw [state]) (by rw [same.1])
  · exact l.change f.others ⟨.inr (.inr ⟨state, by rw [same.2], congrArg _ settings, stamp⟩),
      .inr (.inr ⟨state, by rw [same.1]⟩), Nat.le_of_eq (by rw [same.2])⟩
  · rw [state]
    exact (Classical.em _).imp id id

theorem Bay.SameCore.of_eq {x y : Bay} (h : y = x) : x.SameCore y := h ▸ .refl x

/-- A bay takes an uplink that the law allows it. -/
theorem keeps_activeUplink (u : Option UplinkIx)
    (ok : ¬ O .uplinks → (s.bay b).UplinkOk s → ({ s.bay b with activeUplink := u } : Bay).UplinkOk s) :
    KeepsBut O P s (s.modBay b fun y => { y with activeUplink := u }) := by
  have self : (s.modBay b fun y => { y with activeUplink := u }).bay b = { s.bay b with activeUplink := u } :=
    State.modBay_bay_self ..
  have frame := BayFrame.modBay b (fun y => { y with activeUplink := u }) s
  refine keeps_record frame ⟨rfl, rfl⟩ (by rw [self]; exact .of_eq rfl) (by rw [self]; exact ok)
    fun _ h => h.change frame rfl ?_ ?_
  · rw [self]; exact fun _ => id
  · rw [self]; exact h.readOk b

theorem freshUplink_ok (b : BayIx) (s : State) :
    ({ s.bay b with activeUplink := freshUplink b s } : Bay).UplinkOk s := by
  intro u hu
  change freshUplink b s = some u at hu
  unfold freshUplink at hu
  dsimp only at hu
  cases forward : (s.bay b).state.forwarding with
  | false => rw [forward] at hu; cases hu
  | true =>
    rw [forward] at hu
    refine ⟨rfl, ?_⟩
    simp only [Bool.not_true, Bool.false_eq_true, if_false] at hu
    split at hu
    case isTrue up =>
      cases hu
      exact ⟨up, .inl rfl⟩
    case isFalse =>
      rw [Option.filter_eq_some_iff] at hu
      exact ⟨hu.2, .inr hu.1⟩

theorem keeps_selectUplink : KeepsBut O P s (selectUplink b s) :=
  keeps_activeUplink _ fun _ _ => freshUplink_ok b s

theorem keeps_takeUplink (u : UplinkIx) (forward : (s.bay b).state.forwarding = true)
    (up : ¬ O .uplinks → (s.uplink u).up = true)
    (named : (s.bay b).settings.primary = u ∨ (s.bay b).settings.alternate = some u) :
    KeepsBut O P s (takeUplink u s b) := by
  refine keeps_activeUplink _ fun o _ w hw => ?_
  cases hw
  exact ⟨forward, up o, named⟩

/-- A bay's read set to one that the law allows, or ended. -/
theorem keeps_bayRead (r : Option IdRead)
    (ok : ¬ O .store → StoreOk s → ({ s.bay b with read := r } : Bay).ReadOk b s) :
    KeepsBut O P s (setRead (.bay b) r s) := by
  have self : (setRead (.bay b) r s).bay b = { s.bay b with read := r } := State.modBay_bay_self ..
  have frame : BayFrame b s (setRead (.bay b) r s) := BayFrame.modBay b (fun y => { y with read := r }) s
  refine keeps_record frame ⟨rfl, rfl⟩ (by rw [self]; exact .of_eq rfl) (fun _ h => h.kept ?_ ?_ ?_)
    fun o h => h.change frame rfl ?_ ?_
  all_goals rw [self]
  · exact id
  · exact fun _ => id
  · exact ok o h

/-! ### Ramping (R91 to R95) -/

/-- Power-good: RAMPING ends and the bay is ONLINE. -/
theorem keeps_enterOnline (was : (s.bay b).state = .powering) : KeepsBut O P s (setState b .online (endRamping s)) := by
  have self : (setState b .online (endRamping s)).bay b = (s.bay b).enter .online s.now := by
    rw [setState_bay_self, endRamping_bay]
    unfold endRamping; split <;> rfl
  have frame : BayFrame b s (setState b .online (endRamping s)) := by
    refine ⟨?_, fun c hc => (setState_bay_ne _ hc _).trans (endRamping_bay s), ?_⟩ <;>
      (unfold endRamping; split <;> rfl)
  have lists : (setState b .online (endRamping s)).alloc = s.alloc ∧
      (setState b .online (endRamping s)).ramp.queue = s.ramp.queue ∧
      (setState b .online (endRamping s)).store = s.store := by
    unfold endRamping; split <;> exact ⟨rfl, rfl, rfl⟩
  refine .bay frame (.inr ?_) ?_ (fun _ _ => ?_) (fun _ ⟨r, l⟩ => ⟨?_, ?_⟩) (fun _ h => h.held frame ?_ ?_ ?_ ?_)
    (fun _ h => .inl ?_) (fun _ h => h.kept ?_ ?_ ?_) (fun _ h => h.moved frame lists.2.2 ?_ ?_ ?_)
  all_goals try rw [self]
  · rfl
  · exact .entering (no_permits (by rw [was]; rfl))
  · exact ⟨rfl, rfl⟩
  · exact r.ended frame.others was (by rw [self]; exact nofun) rfl
  · exact l.aside frame.others (by rw [was]; exact ⟨nofun, nofun⟩) (by rw [self]; exact ⟨nofun, nofun⟩)
      ⟨lists.1, lists.2.1⟩
  · rfl
  · rfl
  · exact fun _ => rfl
  · right; rw [was]; exact nofun
  · rfl
  · rfl
  · exact fun _ => rfl
  · rfl
  · exact ⟨nofun, nofun⟩
  · rfl
  · intro e; rw [was] at e; cases e

theorem keeps_goOnline (was : (s.bay b).state = .powering) : KeepsBut O P s (goOnline b s) := by
  unfold goOnline
  extract_lets t u y v w
  have online : (w.bay b).state = .online := by
    simp only [w, selectUplink, State.modBay_bay_self, v, raise_bay, u, t, setState_bay_self]
    rfl
  have alloc : y.alloc = (w.bay b).alloc := by
    simp only [w, selectUplink, State.modBay_bay_self, v, raise_bay]
    rfl
  have running : KeepsBut O P s w := (keeps_enterOnline was).trans
    (.trans (.minor b _ ⟨rfl, rfl, rfl, rfl, rfl, rfl, rfl, rfl, rfl⟩) (.trans (.raise ..) keeps_selectUplink))
  exact .ite (fun _ => running.trans (keeps_capDecision _ online (.inl (Nat.le_of_eq alloc)))) fun _ => running

theorem grantable_some (h : grantable s = some b) :
    s.ramp.state = .idle ∧ (∃ rest, s.ramp.queue = b :: rest) ∧ (s.bay b).state = .admitted := by
  unfold grantable at h
  split at h
  case h_1 c rest idle queue =>
    split at h
    case isTrue admitted => cases h; exact ⟨idle, ⟨rest, queue⟩, admitted⟩
    case isFalse => cases h
  case h_2 => cases h

theorem grantTo_bay_self (b : BayIx) (s : State) : (grantTo b s).bay b =
    { (s.bay b).enter .powering s.now with
      pgoodHigh := 0, pgoodLow := 0, deadline := some (s.now + s.ramp.rampTimeout) } := by
  refine (State.modBay_bay_self _ b _).trans ?_
  rw [setState_bay_self]
  rfl

theorem BayFrame.grantTo (b : BayIx) (s : State) : BayFrame b s (grantTo b s) :=
  ⟨rfl, fun _ h => (State.modBay_bay_ne _ h _).trans (setState_bay_ne _ h _), rfl⟩

theorem keeps_grantTo (may : grantable s = some b) (permit : P .grant) : KeepsBut O P s (grantTo b s) := by
  obtain ⟨idle, ⟨rest, queue⟩, was⟩ := grantable_some may
  have self := grantTo_bay_self b s
  have frame := BayFrame.grantTo b s
  refine .bay frame (.inr ?_) ?_ (fun _ _ => ?_) (fun _ ⟨r, l⟩ => ⟨?_, ?_⟩) (fun _ h => h.held frame ?_ ?_ ?_ ?_)
    (fun _ h => ?_) (fun _ h => h.kept ?_ ?_ ?_) (fun _ h => h.moved frame rfl ?_ ?_ ?_)
  all_goals try rw [self]
  · rfl
  · exact .entered (one_permit (by rw [was]; rfl) permit) rfl
  · exact ⟨rfl, rfl⟩
  · obtain ⟨bays, -, settle, -⟩ := r
    refine ⟨fun c => ?_, rfl, ?_, nofun⟩
    · by_cases e : c = b
      · subst e
        rw [self]
        exact iff_of_true rfl rfl
      · rw [frame.others c e]
        refine iff_of_false (fun k => ?_) fun k => e (ChannelState.ramping.inj k).symm
        rw [bays, idle] at k
        cases k
    · show s.ramp.settleTimer.isSome = _
      rw [settle, idle]
      rfl
  · refine l.change frame.others ⟨.inl ⟨by rw [self]; exact nofun, ?_⟩, .inl ⟨by rw [self]; exact nofun, ?_⟩, Nat.le_refl _⟩
    · exact (l.not_waiting (by rw [was]; exact nofun)).symm
    · obtain ⟨-, nodup, -⟩ := l
      rw [queue] at nodup
      show s.ramp.queue.tail = _
      rw [queue, List.filter_cons_of_neg (by simp), List.tail_cons, filter_ne_of_not_mem (List.nodup_cons.mp nodup).1]
  · rfl
  · rfl
  · exact fun _ => rfl
  · right; rw [was]; exact nofun
  · rw [was] at h; cases h
  · rfl
  · rw [was]; exact nofun
  · rfl
  · exact ⟨nofun, nofun⟩
  · rfl
  · intro e; rw [was] at e; cases e

/-! ### Identification anew (R6, R19) -/

theorem enterIdent_bay_self (b : BayIx) (s : State) : (enterIdent b s).bay b =
    { (s.bay b).enter .ident s.now with
      header := none, faultCause := none, stopRequested := false, inlet := none, runState := none, linkLost := false
      read := some IdRead.start, link := { (s.bay b).link with identRequest := some 0 } } := by
  unfold enterIdent startRead placeRequest setRead
  simp only [State.modLink, State.modBay_bay_self, setState_bay_self]
  rfl

theorem BayFrame.enterIdent (b : BayIx) (s : State) : BayFrame b s (enterIdent b s) :=
  ⟨rfl, fun c hc => by
    unfold Machine.enterIdent startRead placeRequest setRead
    simp only [State.modLink, State.modBay_bay_ne _ hc, setState_bay_ne _ hc], rfl⟩

/-- Entry to IDENT of a bay whose owner holds no slot. -/
theorem keeps_enterIdent (was : (s.bay b).state = .settling ∨ (s.bay b).state = .off ∨ (s.bay b).state = .fault)
    (slots : ¬ O .store → StoreOk s → ∀ i, (s.store.slots.get i).owner ≠ some (.bay b))
    (permits : ∀ p ∈ (s.bay b).state.needs .ident, P p) : KeepsBut O P s (enterIdent b s) := by
  have self := enterIdent_bay_self b s
  have frame := BayFrame.enterIdent b s
  have idle : (s.bay b).state.forwarding = false ∧ (s.bay b).state.allocated = false ∧ (s.bay b).state.plain ∧
      (s.bay b).state ≠ .shedding := by
    rcases was with h | h | h <;> rw [h] <;> exact ⟨rfl, rfl, ⟨nofun, nofun, nofun⟩, nofun⟩
  obtain ⟨still, dry, plain, notShed⟩ := idle
  refine keeps_plain frame ⟨rfl, rfl⟩ plain ?_ ?_ ?_ ?_ (fun _ h => h.held frame ?_ ?_ ?_ (.inr notShed)) ?_
    (fun _ h => h.kept ?_ ?_ ?_) (fun o h => h.change frame rfl (fun ⟨i, hi⟩ _ => absurd hi (slots o h i)) ?_)
  all_goals try rw [self]
  · exact ⟨nofun, nofun, nofun⟩
  · rfl
  · exact .entered permits rfl
  · exact ⟨rfl, rfl⟩
  · rfl
  · rfl
  · rw [dry]; exact nofun
  · rw [still]; exact nofun
  · rfl
  · rw [still]; exact nofun
  · rfl
  · refine ⟨fun _ => rfl, fun r hr => ?_⟩
    cases hr
    exact ⟨Nat.le_refl 1, nofun, fun _ => slots o h⟩

/-! ### Freeing a record -/

/-- A law of the state before a chain of operations may be used to show that the chain keeps it. -/
theorem keeps_of_law (l : Law) (h : ∀ Q : Law → Prop, (¬ Q l → l.holds s) → KeepsBut Q P s t) : KeepsBut O P s t := by
  by_cases hl : l.holds s
  · exact h O fun _ => hl
  · have k := h (fun x => O x ∨ x = l) fun n => absurd (.inr rfl) n
    refine { k with law := fun x o hx => ?_ }
    by_cases e : x = l
    · exact absurd (e ▸ hx) hl
    · exact k.law x (not_or.mpr ⟨o, e⟩) hx

theorem releaseRecord_frame (o : Owner) (s : State) : releaseRecord o s =
    setRecord o none { s with store := { (freeRecord o s).store with compactions := s.store.compactions } } := by
  unfold releaseRecord
  rw [freeRecord_eq]

theorem releaseRecord_store (o : Owner) (s : State) : (releaseRecord o s).store.slots = (freeRecord o s).store.slots := by
  rw [releaseRecord_frame]
  cases o <;> rfl

/-- After a free the owner holds no slot. -/
theorem StoreOk.released (h : StoreOk s) (o : Owner) (i : Fin 128) :
    ((releaseRecord o s).store.slots.get i).owner ≠ some o := by
  rw [releaseRecord_store, h.freeRecord_slot]
  split
  case isTrue => exact nofun
  case isFalse no => exact no

theorem keeps_freeRecord (o : Owner) : KeepsBut O P s (freeRecord o s) := by
  rw [freeRecord_eq]
  exact .store _ fun _ h => h.freed (h.freeRecord_slot o) (fun p => by cases p <;> exact id)
    (fun p => by cases p <;> exact id) fun p => by cases p <;> rfl

/-- A supply's record as every law reads it stands. -/
structure Supply.SameCore (x y : Supply) : Prop where
  override : y.override = x.override
  state : y.state = x.state
  counted : y.counted = x.counted
  capacity : countedCapacity y = countedCapacity x
  read : y.read = x.read

theorem KeepsBut.minorSupply (i : SupIx) (f : Supply → Supply) (h : (s.supply i).SameCore (f (s.supply i))) :
    KeepsBut O P s (s.modSupply i f) := by
  have same : ∀ j, (s.supply j).SameCore ((s.modSupply i f).supply j) := by
    intro j
    rw [State.modSupply_supply]
    split
    case isTrue e => exact e ▸ h
    case isFalse => exact ⟨rfl, rfl, rfl, rfl, rfl⟩
  refine .supplies _ (.inr (funext fun j => (same j).override)) (fun _ ⟨counted, flight, raw, budget⟩ => ?_) fun _ h => ?_
  · refine ⟨fun j => ?_, fun j k => ?_, raw.trans ?_, budget⟩
    · exact ((same j).counted.trans (counted j)).trans (same j).capacity.symm
    · exact (same j).state.trans (flight j ((same j).read ▸ k))
    · exact congrArg _ (funext fun j => (same j).counted.symm)
  · exact StoreOk.congr (s := s) (t := s.modSupply i f) rfl (fun _ => rfl) (fun _ => rfl) (fun j => (same j).state)
      (fun j => (same j).read) h

theorem keeps_setRecord (o : Owner) (r : Option RecordState) : KeepsBut O P s (setRecord o r s) := by
  cases o with
  | bay b => exact .minor b (fun y => { y with record := r }) ⟨rfl, rfl, rfl, rfl, rfl, rfl, rfl, rfl, rfl⟩
  | supply i => exact .minorSupply i (fun p => { p with record := r }) ⟨rfl, rfl, rfl, rfl, rfl⟩

theorem keeps_releaseRecord (o : Owner) : KeepsBut O P s (releaseRecord o s) :=
  (keeps_freeRecord o).trans (keeps_setRecord o none)

theorem releaseRecord_bay (o : Owner) (c : BayIx) (s : State) :
    ∃ r, (releaseRecord o s).bay c = { s.bay c with record := r } := by
  rw [releaseRecord_frame]
  cases o with
  | bay b =>
    by_cases e : c = b
    · subst e; exact ⟨none, State.modBay_bay_self ..⟩
    · exact ⟨_, State.modBay_bay_ne _ e _⟩
  | supply i => exact ⟨_, rfl⟩

theorem keeps_reidentify (was : (s.bay b).state = .off ∨ (s.bay b).state = .fault)
    (permits : ∀ p ∈ (s.bay b).state.needs .ident, P p) : KeepsBut O P s (reidentify b s) := by
  obtain ⟨r, same⟩ := releaseRecord_bay (.bay b) b s
  have state : ((releaseRecord (.bay b) s).bay b).state = (s.bay b).state := by rw [same]
  refine keeps_of_law .store fun Q law => (keeps_releaseRecord (.bay b)).trans
    (keeps_enterIdent (.inr (by rwa [state])) (fun o _ => StoreOk.released (law o) _) (by rwa [state]))

/-! ### Removal (R12, R51) -/

theorem enterEmpty_bay_self (b : BayIx) (s : State) :
    (enterEmpty b s).bay b = ((s.bay b).enter .empty s.now).clearBlade := by
  unfold enterEmpty
  rw [State.modBay_bay_self, setState_bay_self]

theorem BayFrame.enterEmpty (b : BayIx) (s : State) : BayFrame b s (enterEmpty b s) :=
  (BayFrame.setState b .empty s).trans (.modBay b _ _)

theorem keeps_enterEmpty (was : (s.bay b).state = .settling) (permit : P .inDark) :
    KeepsBut O P s (enterEmpty b s) := by
  have self := enterEmpty_bay_self b s
  have frame := BayFrame.enterEmpty b s
  refine keeps_plain frame ⟨rfl, rfl⟩ (by rw [was]; exact ⟨nofun, nofun, nofun⟩) ?_ ?_ ?_ ?_
    (fun _ h => h.released frame ?_) ?_ (fun _ _ => ?_) (fun _ h => h.change frame rfl (fun _ k => absurd was k.2) ?_)
  all_goals try rw [self]
  · exact ⟨nofun, nofun, nofun⟩
  · rfl
  · exact .entered (one_permit (by rw [was]; rfl) permit) rfl
  · exact ⟨rfl, rfl⟩
  · rfl
  · rw [was]; exact nofun
  · exact .none rfl
  · exact .none rfl

/-- What a removal does to the bay and the lists: main power off if it was on, out of the lists, the record freed, and
EMPTY. -/
def eject (b : BayIx) (s : State) : State :=
  enterEmpty b (releaseRecord (.bay b) (leaveRampQueue b (leaveWaiting b
    (if (s.bay b).state.mainPowered then unplug b s else s))))

theorem BayFrame.releaseRecord (b : BayIx) (s : State) : BayFrame b s (releaseRecord (.bay b) s) := by
  rw [releaseRecord_frame]
  exact ⟨rfl, fun c hc => State.modBay_bay_ne _ hc _, rfl⟩

theorem BayFrame.eject (b : BayIx) (s : State) : BayFrame b s (eject b s) := by
  unfold Machine.eject
  refine .trans ?_ (.trans (.leaveWaiting b _) (.trans (.leaveRampQueue b _)
    (.trans (.releaseRecord b _) (.enterEmpty b _))))
  split
  · exact unplug_frame b s
  · exact .refl b s

theorem eject_bay_self (b : BayIx) (s : State) :
    ∃ y : Bay, y.settings = (s.bay b).settings ∧ y.state = (s.bay b).state ∧ y.ledSince = (s.bay b).ledSince ∧
      (eject b s).bay b = (y.enter .empty s.now).clearBlade := by
  unfold eject
  rw [enterEmpty_bay_self]
  obtain ⟨r, same⟩ := releaseRecord_bay (.bay b) b (leaveRampQueue b (leaveWaiting b
    (if (s.bay b).state.mainPowered then unplug b s else s)))
  rw [same, (BayFrame.releaseRecord b _).now]
  by_cases main : (s.bay b).state.mainPowered = true
  · simp only [main, if_true]
    have e : (leaveRampQueue b (leaveWaiting b (unplug b s))).bay b = (s.bay b).powerOff := unplug_bay_self b s
    have n : (leaveRampQueue b (leaveWaiting b (unplug b s))).now = s.now := unplug_now b s
    rw [e, n]
    refine ⟨_, ?_, ?_, ?_, rfl⟩ <;> rfl
  · rw [if_neg main]
    refine ⟨_, ?_, ?_, ?_, rfl⟩ <;> rfl

theorem freeRecord_congr {u : State} (o : Owner) (h : u.store = s.store) :
    (freeRecord o u).store = (freeRecord o s).store := by
  have start : recordStart o u = recordStart o s := by unfold recordStart; rw [h]
  unfold freeRecord
  rw [start]
  split
  · exact h
  · unfold recordLength
    rw [h]

theorem eject_store (b : BayIx) (s : State) : (eject b s).store = (freeRecord (.bay b) s).store := by
  show (releaseRecord (.bay b) _).store = _
  rw [releaseRecord_frame]
  show ({ (freeRecord _ _).store with compactions := _ } : Store) = _
  rw [freeRecord_congr (s := s)]
  · rw [freeRecord_eq]
    split
    · rw [show (leaveRampQueue b (leaveWaiting b (unplug b s))).store = (unplug b s).store from rfl, unplug_store]
    · rfl
  · split
    · exact unplug_store b s
    · rfl

/-- What a removal leaves of the lists and the channel. -/
theorem eject_lists (b : BayIx) (s : State) : (eject b s).alloc.waiting = s.alloc.waiting.filter (· ≠ b) ∧
      (eject b s).ramp.queue = s.ramp.queue.filter (· ≠ b) ∧ (eject b s).alloc.nextStamp = s.alloc.nextStamp ∧
      (eject b s).ramp = { (if (s.bay b).state = .powering then (endRamping s).ramp else s.ramp) with
        queue := s.ramp.queue.filter (· ≠ b) } := by
  unfold eject
  rw [releaseRecord_frame]
  by_cases p : (s.bay b).state = .powering
  · simp only [p, BayState.mainPowered, if_true, unplug]
    unfold endRamping
    split <;> exact ⟨rfl, rfl, rfl, rfl⟩
  · rw [if_neg p]
    by_cases main : (s.bay b).state.mainPowered = true
    · rw [if_pos main]
      unfold unplug
      rw [if_neg p]
      exact ⟨rfl, rfl, rfl, rfl⟩
    · rw [if_neg main]
      exact ⟨rfl, rfl, rfl, rfl⟩

theorem keeps_eject (quiet : (s.bay b).state.forwarding = true → NoLearned b s)
    (permits : ∀ p ∈ (s.bay b).state.needs .empty, P p) : KeepsBut O P s (eject b s) := by
  obtain ⟨y, settings, state, led, self⟩ := eject_bay_self b s
  have frame := BayFrame.eject b s
  obtain ⟨waiting, queue, stamps, ramp⟩ := eject_lists b s
  refine .bay frame (.inr ?_) ?_ (fun _ _ => ?_) (fun _ ⟨r, l⟩ => ⟨?_, l.change frame.others ?_⟩)
    (fun _ h => h.released frame ?_) (fun _ h => .inr (quiet h)) (fun _ _ => ?_) (fun _ h => ?_)
  · rw [self]; exact settings
  · rw [self]
    exact .entered permits (by
      show (if y.state.led = BayState.empty.led then y.ledSince else s.now) = _
      rw [state, led]; rfl)
  · rw [self]; exact ⟨rfl, rfl⟩
  · by_cases p : (s.bay b).state = .powering
    · rw [if_pos p] at ramp
      exact r.ended frame.others p (by rw [self]; exact nofun) (by rw [ramp])
    · rw [if_neg p] at ramp
      exact r.stand frame.others (by rw [self]; exact iff_of_false nofun p) (by rw [ramp])
  · exact ⟨.inl ⟨by rw [self]; exact nofun, waiting⟩, .inl ⟨by rw [self]; exact nofun, queue⟩, Nat.le_of_eq (by rw [stamps])⟩
  · rw [self]; rfl
  · rw [self]; exact .none rfl
  · have freed : StoreOk (freeRecord (.bay b) s) := (keeps_freeRecord (O := fun _ => False) (P := P) _).law .store id h
    have frame' : BayFrame b (freeRecord (.bay b) s) (eject b s) := by
      rw [freeRecord_eq]
      exact ⟨frame.frame, frame.others, frame.rampSettings⟩
    refine freed.change frame' (eject_store b s) (fun ⟨i, hi⟩ _ => ?_) (by rw [self]; exact .none rfl)
    rw [h.freeRecord_slot] at hi
    split at hi
    case isTrue => cases hi
    case isFalse no => exact absurd hi no

end Sys2Proof.Machine

namespace Sys2Proof.Machine

variable {O : Law → Prop} {P : Permit → Prop} {s t u : State} {b c : BayIx}

/-! ### The admission and uncap passes (R72 to R74) -/

theorem keeps_uncapOne (was : (s.bay b).state = .online) : KeepsBut O P s (uncapOne s b) := by
  unfold uncapOne
  dsimp only
  refine .ite (fun pos => keeps_capDecision _ was (.inr ⟨_, rfl, ?_, ?_⟩)) fun _ => .refl s <;> omega

theorem uncapOne_state (s : State) (b c : BayIx) : ((uncapOne s b).bay c).state = (s.bay c).state := by
  unfold uncapOne
  extract_lets y r
  split
  · by_cases e : c = b
    · subst e; rw [capDecision_bay_self]
    · rw [(capDecision_keeps e _ s).1]
  · rfl

theorem keeps_uncaps (l : List BayIx) : ∀ s, (∀ b ∈ l, (s.bay b).state = .online) →
    KeepsBut O P s (l.foldl uncapOne s) := by
  induction l with
  | nil => exact fun s _ => .refl s
  | cons b l ih =>
    intro s online
    rw [List.foldl_cons]
    refine (keeps_uncapOne (online b List.mem_cons_self)).trans (ih (uncapOne s b) fun c hc => ?_)
    rw [uncapOne_state]
    exact online c (List.mem_cons_of_mem b hc)

theorem mem_uncapCandidates : b ∈ uncapCandidates s ↔ (s.bay b).state = .online ∧ (s.bay b).alloc < (s.bay b).maxWatts ∧
    (s.zone (s.bay b).settings.zone).thermal = .normal := by
  rw [uncapCandidates, mem_sortBays, List.mem_filter]
  simp only [mem_allBays, true_and, Bool.and_eq_true, decide_eq_true_eq, and_assoc]

theorem keeps_uncapPass : KeepsBut O P s (uncapPass s) :=
  keeps_uncaps _ s fun _ hb => (mem_uncapCandidates.mp hb).1

theorem keeps_walkOne (w : Walk) (b : BayIx) : KeepsBut O P w.state (walkOne w b).state := by
  unfold walkOne
  dsimp only
  split
  · exact .refl _
  case isFalse on =>
    have was : (w.state.bay b).state = .waiting := by
      simp only [Bool.or_eq_true, decide_eq_true_eq, not_or, ne_eq, Decidable.not_not] at on
      exact on.2
    split
    case isTrue full =>
      simp only [Bool.and_eq_true, decide_eq_true_eq] at full
      exact keeps_admitBay _ was full.1 full.2
    case isFalse =>
      split
      case isTrue capped =>
        simp only [Bool.and_eq_true, decide_eq_true_eq] at capped
        exact keeps_admitBay _ was (by omega) (by omega)
      case isFalse => split <;> exact .refl _

theorem keeps_walk (l : List BayIx) : ∀ w : Walk, KeepsBut O P w.state (l.foldl walkOne w).state := by
  induction l with
  | nil => exact fun w => .refl _
  | cons b l ih => exact fun w => (keeps_walkOne w b).trans (ih _)

theorem keeps_admissionPass : KeepsBut O P s (admissionPass s) := by
  unfold admissionPass
  exact .ite (fun _ => (keeps_walk _ ⟨s, false, []⟩).trans keeps_uncapPass) fun _ => keeps_walk _ ⟨s, false, []⟩

/-! ### The shed pass (R75 to R81) -/

theorem keeps_shedAdmittedBay (was : (s.bay b).state = .admitted) : KeepsBut O P s (shedAdmittedBay b s) :=
  (keeps_admittedBack was).trans (.raise ..)

theorem keeps_shedCapBay (scope : Option ZoneIx) (was : (s.bay b).state = .online) :
    KeepsBut O P s (shedCapBay scope b s) := by
  unfold shedCapBay
  exact .ite (fun _ => (keeps_capDecision _ was (.inl (Nat.sub_le _ _))).trans (.raise ..)) fun _ => .refl s

theorem keeps_shedStoppingBay (was : (s.bay b).state = .stopping) : KeepsBut O P s (shedStoppingBay b s) := by
  unfold shedStoppingBay
  refine .trans ?_ (.raise ..)
  exact keeps_forward .shedding _ (by rw [was]; rfl) (.inr rfl) nofun
    fun _ => ⟨rfl, rfl, rfl, rfl, rfl, rfl, rfl, rfl, rfl⟩

theorem keeps_shedPoweringBay (was : (s.bay b).state = .powering) : KeepsBut O P s (shedPoweringBay b s) :=
  (keeps_powerOffIntoWaiting (by rw [was]; rfl) (no_permits (by rw [was]; rfl))).trans (.raise ..)

theorem keeps_shedOnlineBay (detail : Nat) (was : (s.bay b).state = .online) :
    KeepsBut O P s (shedOnlineBay detail b s) := by
  unfold shedOnlineBay
  refine .trans ?_ (.raise ..)
  exact keeps_forward .shedding _ (by rw [was]; rfl) (.inr rfl) nofun
    fun _ => ⟨rfl, rfl, rfl, rfl, rfl, rfl, rfl, rfl, rfl⟩

theorem keeps_coverWith (scope : Option ZoneIx) (st : BayState) (treat : BayIx → State → State)
    (h : ∀ b s, (s.bay b).state = st → KeepsBut O P s (treat b s)) (s : State) :
    KeepsBut O P s (coverWith scope st treat s) := by
  refine KeepsBut.foldl _ (fun s b => .ite (fun c => h b s ?_) fun _ => .refl s) _ s
  simp only [Bool.and_eq_true, decide_eq_true_eq] at c
  exact c.2

theorem keeps_coverDeficit (scope : Option ZoneIx) (s : State) : KeepsBut O P s (coverDeficit scope s) := by
  unfold coverDeficit
  exact .trans (keeps_coverWith _ _ _ (fun _ _ => keeps_shedAdmittedBay) s)
    (.trans (keeps_coverWith _ _ _ (fun _ _ => keeps_shedCapBay scope) _)
      (.trans (keeps_coverWith _ _ _ (fun _ _ => keeps_shedStoppingBay) _)
        (.trans (keeps_coverWith _ _ _ (fun _ _ => keeps_shedPoweringBay) _)
          (keeps_coverWith _ _ _ (fun _ _ => keeps_shedOnlineBay _) _))))

/-- Every scope's deficit covered, before the admission pass. -/
def coverAll (s : State) : State := coverDeficit none (allZones.foldl (fun s z => coverDeficit (some z) s) s)

theorem keeps_coverAll (s : State) : KeepsBut O P s (coverAll s) :=
  (KeepsBut.foldl _ (fun s z => keeps_coverDeficit (some z) s) _ s).trans (keeps_coverDeficit none _)

theorem shedPass_eq (s : State) :
    shedPass s = if allocated none (coverAll s) < allocated none s then admissionPass (coverAll s) else coverAll s := rfl

theorem keeps_shedPass : KeepsBut O P s (shedPass s) := by
  rw [shedPass_eq]
  exact .ite (fun _ => (keeps_coverAll s).trans keeps_admissionPass) fun _ => keeps_coverAll s

/-! ### What the shed pass covers -/

/-- What a treatment of the shed pass does to the sums: none rises, no limit moves, a bay goes to WAITING or SHEDDING or
stays in its state, and only allocated states hold watts. -/
structure Sheds (s t : State) : Prop where
  sums : ∀ scope, nonShedding scope t ≤ nonShedding scope s
  limits : ∀ scope, limitOf scope t = limitOf scope s
  states : ∀ b, (t.bay b).state = (s.bay b).state ∨ (t.bay b).state = .waiting ∨ (t.bay b).state = .shedding
  zones : ∀ b, (t.bay b).settings = (s.bay b).settings
  dry : (∀ b, (s.bay b).alloc ≠ 0 → (s.bay b).state.allocated = true) →
    ∀ b, (t.bay b).alloc ≠ 0 → (t.bay b).state.allocated = true

theorem Sheds.refl (s : State) : Sheds s s :=
  ⟨fun _ => Nat.le_refl _, fun _ => rfl, fun _ => .inl rfl, fun _ => rfl, id⟩

theorem Sheds.trans (h : Sheds s t) (k : Sheds t u) : Sheds s u where
  sums scope := Nat.le_trans (k.sums scope) (h.sums scope)
  limits scope := (k.limits scope).trans (h.limits scope)
  states b := (k.states b).elim (fun e => e ▸ h.states b) .inr
  zones b := (k.zones b).trans (h.zones b)
  dry := k.dry ∘ h.dry

theorem Sheds.foldl {α : Type} (f : State → α → State) (h : ∀ s a, Sheds s (f s a)) (l : List α) :
    ∀ s, Sheds s (l.foldl f s) := by
  induction l with
  | nil => exact fun s => .refl s
  | cons a l ih => exact fun s => (h s a).trans (ih _)

/-- A treatment of one bay. -/
theorem Sheds.bay (f : BayFrame b s t) (settings : (t.bay b).settings = (s.bay b).settings)
    (state : (t.bay b).state = (s.bay b).state ∨ (t.bay b).state = .waiting ∧ (t.bay b).alloc = 0 ∨
      (t.bay b).state = .shedding)
    (alloc : (t.bay b).alloc ≤ (s.bay b).alloc) (was : (s.bay b).state ≠ .shedding) : Sheds s t where
  sums scope := by
    have := nonShedding_change scope f.others
    have := Bay.load_le (scope := scope) (congrArg _ settings) alloc (.inr was)
    omega
  limits := f.limitOf
  states c := by
    by_cases e : c = b
    · subst e; exact state.imp_right (.imp_left And.left)
    · rw [f.others c e]; exact .inl rfl
  zones c := by
    by_cases e : c = b
    · subst e; exact settings
    · rw [f.others c e]
  dry h c k := by
    by_cases e : c = b
    · subst e
      rcases state with st | ⟨-, none⟩ | st
      · rw [st]; exact h c (by omega)
      · exact absurd none k
      · rw [st]; rfl
    · rw [f.others c e] at k ⊢; exact h c k

theorem Sheds.raise (k : EventKind) (w : Subject) (d : Nat) (x : Int) : Sheds s (raise k w d x s) where
  sums scope := by unfold nonShedding allocSum; simp only [raise_bay, Nat.le_refl]
  limits scope := by cases scope <;> simp [limitOf]
  states c := .inl (by rw [raise_bay])
  zones c := by rw [raise_bay]
  dry h c := by rw [raise_bay]; exact h c

theorem shedAdmittedBay_sheds (was : (s.bay b).state = .admitted) : Sheds s (shedAdmittedBay b s) := by
  have self := enterWaiting_bay_self b (leaveAdmitted b s)
  rw [leaveAdmitted_bay] at self
  refine .trans (.bay (b := b) ((BayFrame.leaveAdmitted b s).trans (.enterWaiting b _)) ?_ (.inr (.inl ⟨?_, ?_⟩)) ?_ ?_)
    (.raise ..)
  all_goals try rw [self]
  · rfl
  · rfl
  · rfl
  · exact Nat.zero_le _
  · rw [was]; exact nofun

theorem capDecision_sheds (level : Nat) (was : (s.bay b).state = .online) (less : level ≤ (s.bay b).alloc) :
    Sheds s (capDecision b level s) := by
  have self := capDecision_bay_self b level s
  refine .bay (.modBay b _ s) ?_ (.inl ?_) ?_ (by rw [was]; exact nofun)
  all_goals rw [self]
  exact less

theorem shedCapBay_sheds (scope : Option ZoneIx) (was : (s.bay b).state = .online) :
    Sheds s (shedCapBay scope b s) := by
  unfold shedCapBay
  extract_lets y level
  split
  · exact (capDecision_sheds level was (Nat.sub_le _ _)).trans (.raise ..)
  · exact .refl s

/-- A running bay that goes on to SHEDDING. -/
theorem shedding_sheds (g : Bay → Bay) (core : ∀ y : Bay, y.SameCore (g y)) (was : (s.bay b).state ≠ .shedding) :
    Sheds s ((setState b .shedding s).modBay b g) := by
  have self : ((setState b .shedding s).modBay b g).bay b = g ((s.bay b).enter .shedding s.now) := by
    rw [State.modBay_bay_self, setState_bay_self]
  have same := core ((s.bay b).enter .shedding s.now)
  refine .bay ((BayFrame.setState b .shedding s).trans (.modBay b g _)) ?_ (.inr (.inr ?_)) ?_ was
  all_goals rw [self]
  · exact same.settings
  · exact same.state
  · exact Nat.le_of_eq same.alloc

theorem shedStoppingBay_sheds (was : (s.bay b).state = .stopping) : Sheds s (shedStoppingBay b s) := by
  unfold shedStoppingBay
  refine .trans ?_ (.raise ..)
  exact shedding_sheds _ (fun _ => ⟨rfl, rfl, rfl, rfl, rfl, rfl, rfl, rfl, rfl⟩) (by rw [was]; exact nofun)

theorem shedOnlineBay_sheds (detail : Nat) (was : (s.bay b).state = .online) : Sheds s (shedOnlineBay detail b s) := by
  unfold shedOnlineBay
  refine .trans ?_ (.raise ..)
  exact shedding_sheds _ (fun _ => ⟨rfl, rfl, rfl, rfl, rfl, rfl, rfl, rfl, rfl⟩) (by rw [was]; exact nofun)

theorem shedPoweringBay_sheds (was : (s.bay b).state = .powering) : Sheds s (shedPoweringBay b s) := by
  have off : powerOff b s = unplug b s := by rw [powerOff_eq, was]; rfl
  have self := enterWaiting_bay_self b (unplug b s)
  rw [unplug_bay_self] at self
  unfold shedPoweringBay
  rw [off]
  refine .trans (.bay (b := b) ((unplug_frame b s).trans (.enterWaiting b _)) ?_ (.inr (.inl ⟨?_, ?_⟩)) ?_ ?_) (.raise ..)
  all_goals try rw [self]
  · rfl
  · rfl
  · rfl
  · exact Nat.zero_le _
  · rw [was]; exact nofun

theorem deficit_mono (h : Sheds s t) (scope : Option ZoneIx) : deficit scope t ≤ deficit scope s := by
  unfold deficit
  rw [h.limits]
  have := h.sums scope
  omega

/-- One bay of a step of the shed pass. -/
def coverOne (scope : Option ZoneIx) (st : BayState) (treat : BayIx → State → State) (s : State) (b : BayIx) : State :=
  if 0 < deficit scope s && (s.bay b).state = st then treat b s else s

section coverWith

variable {scope : Option ZoneIx} {st : BayState} {treat : BayIx → State → State}
  (sheds : ∀ b s, (s.bay b).state = st → Sheds s (treat b s))

include sheds

theorem coverOne_sheds (s : State) (b : BayIx) : Sheds s (coverOne scope st treat s b) := by
  unfold coverOne
  split
  case isTrue c =>
    simp only [Bool.and_eq_true, decide_eq_true_eq] at c
    exact sheds b s c.2
  case isFalse => exact .refl s

theorem coverWith_sheds (s : State) : Sheds s (coverWith scope st treat s) :=
  Sheds.foldl _ (coverOne_sheds sheds) _ s

/-- A step either covers the deficit or takes every candidate out of its state. -/
theorem covers_or_moves (moves : ∀ b s, (s.bay b).state = st → ((treat b s).bay b).state ≠ st)
    (gone : st ≠ .waiting ∧ st ≠ .shedding) (l : List BayIx) : ∀ s,
    deficit scope (l.foldl (coverOne scope st treat) s) ≤ 0 ∨
      ∀ b ∈ l, ((l.foldl (coverOne scope st treat) s).bay b).state ≠ st := by
  induction l with
  | nil => exact fun s => .inr nofun
  | cons b l ih =>
    intro s
    rw [List.foldl_cons]
    have later := Sheds.foldl _ (coverOne_sheds (scope := scope) sheds) l (coverOne scope st treat s b)
    rcases ih (coverOne scope st treat s b) with covered | moved
    · exact .inl covered
    · by_cases need : 0 < deficit scope s
      · refine .inr fun c hc => ?_
        rcases List.mem_cons.mp hc with rfl | hc
        · have left : ((coverOne scope st treat s c).bay c).state ≠ st := by
            unfold coverOne
            split
            case isTrue k =>
              simp only [Bool.and_eq_true, decide_eq_true_eq] at k
              exact moves c s k.2
            case isFalse k => simpa [need] using k
          rcases later.states c with e | e | e <;> rw [e]
          · exact left
          · exact gone.1.symm
          · exact gone.2.symm
        · exact moved c hc
      · exact .inl (Int.le_trans (deficit_mono ((coverOne_sheds sheds s b).trans later) scope) (Int.not_lt.mp need))

end coverWith

theorem mem_shedCandidates {scope : Option ZoneIx} {st : BayState} :
    b ∈ shedCandidates scope st s ↔ scope.all (· = (s.bay b).settings.zone) = true ∧ (s.bay b).state = st := by
  rw [shedCandidates, mem_sortBays, List.mem_filter]
  simp [mem_allBays]

/-- After a step that leaves a deficit no bay of the scope is in the step's state. -/
theorem coverWith_covers {scope : Option ZoneIx} {st : BayState} {treat : BayIx → State → State}
    (sheds : ∀ b s, (s.bay b).state = st → Sheds s (treat b s))
    (moves : ∀ b s, (s.bay b).state = st → ((treat b s).bay b).state ≠ st)
    (gone : st ≠ .waiting ∧ st ≠ .shedding) (s : State) :
    deficit scope (coverWith scope st treat s) ≤ 0 ∨
      ∀ b, scope.all (· = ((coverWith scope st treat s).bay b).settings.zone) = true →
        ((coverWith scope st treat s).bay b).state ≠ st := by
  refine (covers_or_moves sheds moves gone (shedCandidates scope st s) s).imp_right fun moved b inScope => ?_
  by_cases was : (s.bay b).state = st
  · refine moved b (mem_shedCandidates.mpr ⟨?_, was⟩)
    rwa [(coverWith_sheds sheds s).zones] at inScope
  · rcases (coverWith_sheds (scope := scope) sheds s).states b with e | e | e <;> rw [e]
    · exact was
    · exact gone.1.symm
    · exact gone.2.symm

/-- No bay of a scope is in a state. -/
def NoneIn (scope : Option ZoneIx) (st : BayState) (s : State) : Prop :=
  ∀ b, scope.all (· = (s.bay b).settings.zone) = true → (s.bay b).state ≠ st

theorem NoneIn.shed {scope : Option ZoneIx} {st : BayState} (h : NoneIn scope st s) (k : Sheds s t)
    (gone : st ≠ .waiting ∧ st ≠ .shedding) : NoneIn scope st t := by
  intro b inScope
  rw [k.zones] at inScope
  rcases k.states b with e | e | e <;> rw [e]
  · exact h b inScope
  · exact gone.1.symm
  · exact gone.2.symm

theorem shedStoppingBay_bay_self (b : BayIx) (s : State) : (shedStoppingBay b s).bay b =
    { (s.bay b).enter .shedding s.now with
      deadline := some (min ((s.bay b).deadline.getD (s.now + s.ramp.shedGrace * 1000)) (s.now + s.ramp.shedGrace * 1000))
      stopRequested := true } := by
  unfold shedStoppingBay
  rw [raise_bay, State.modBay_bay_self, setState_bay_self]
  rfl

theorem shedOnlineBay_bay_self (detail : Nat) (b : BayIx) (s : State) : (shedOnlineBay detail b s).bay b =
    { (s.bay b).enter .shedding s.now with
      capTimer := none, lastDecided := none, deadline := some (s.now + s.ramp.shedGrace * 1000)
      link := { (s.bay b).link with slot := none, pendingStop := true } } := by
  unfold shedOnlineBay
  rw [raise_bay, State.modBay_bay_self, setState_bay_self]
  rfl

theorem coverDeficit_sheds (scope : Option ZoneIx) (s : State) : Sheds s (coverDeficit scope s) := by
  unfold coverDeficit
  exact .trans (coverWith_sheds (fun _ _ => shedAdmittedBay_sheds) s)
    (.trans (coverWith_sheds (fun _ _ => shedCapBay_sheds scope) _)
      (.trans (coverWith_sheds (fun _ _ => shedStoppingBay_sheds) _)
        (.trans (coverWith_sheds (fun _ _ => shedPoweringBay_sheds) _)
          (coverWith_sheds (fun _ _ => shedOnlineBay_sheds _) _))))

/-- Where only allocated states hold watts, the five steps leave no deficit: what they leave of the scope is in SHEDDING
or holds nothing. -/
theorem coverDeficit_covers (scope : Option ZoneIx) (s : State)
    (dry : ∀ b, (s.bay b).alloc ≠ 0 → (s.bay b).state.allocated = true) : deficit scope (coverDeficit scope s) ≤ 0 := by
  have dry' := (coverDeficit_sheds scope s).dry dry
  unfold coverDeficit at dry' ⊢
  dsimp only at dry' ⊢
  generalize ha : coverWith scope .admitted shedAdmittedBay s = a at dry' ⊢
  generalize hc : coverWith scope .online (shedCapBay scope) a = c at dry' ⊢
  generalize hd : coverWith scope .stopping shedStoppingBay c = d at dry' ⊢
  generalize he : coverWith scope .powering shedPoweringBay d = e at dry' ⊢
  have sa : Sheds a c := hc ▸ coverWith_sheds (fun _ _ => shedCapBay_sheds scope) _
  have sc : Sheds c d := hd ▸ coverWith_sheds (fun _ _ => shedStoppingBay_sheds) _
  have sd : Sheds d e := he ▸ coverWith_sheds (fun _ _ => shedPoweringBay_sheds) _
  have se : Sheds e (coverWith scope .online (shedOnlineBay shedOnline) e) :=
    coverWith_sheds (fun _ _ => shedOnlineBay_sheds _) _
  have admitted : deficit scope a ≤ 0 ∨ NoneIn scope .admitted a :=
    ha ▸ coverWith_covers (fun _ _ => shedAdmittedBay_sheds) (fun b s _ => by
      unfold shedAdmittedBay; rw [raise_bay, enterWaiting_bay_self]; exact nofun) ⟨nofun, nofun⟩ s
  have stopping : deficit scope d ≤ 0 ∨ NoneIn scope .stopping d :=
    hd ▸ coverWith_covers (fun _ _ => shedStoppingBay_sheds) (fun b s _ => by
      rw [shedStoppingBay_bay_self]; exact nofun)
      ⟨nofun, nofun⟩ c
  have powering : deficit scope e ≤ 0 ∨ NoneIn scope .powering e :=
    he ▸ coverWith_covers (fun _ _ => shedPoweringBay_sheds) (fun b s _ => by
      unfold shedPoweringBay; rw [raise_bay, enterWaiting_bay_self]; exact nofun) ⟨nofun, nofun⟩ d
  have online : deficit scope (coverWith scope .online (shedOnlineBay shedOnline) e) ≤ 0 ∨
      NoneIn scope .online (coverWith scope .online (shedOnlineBay shedOnline) e) :=
    coverWith_covers (fun _ _ => shedOnlineBay_sheds _) (fun b s _ => by
      rw [shedOnlineBay_bay_self]; exact nofun)
      ⟨nofun, nofun⟩ e
  generalize coverWith scope .online (shedOnlineBay shedOnline) e = t at *
  refine Classical.byContradiction fun need => ?_
  have none : ∀ {v st}, (deficit scope v ≤ 0 ∨ NoneIn scope st v) → Sheds v t → st ≠ .waiting ∧ st ≠ .shedding →
      NoneIn scope st t := fun h k gone =>
    (h.resolve_left fun covered => need (Int.le_trans (deficit_mono k scope) covered)).shed k gone
  have noAdmitted := none admitted (.trans sa (.trans sc (.trans sd se))) ⟨nofun, nofun⟩
  have noStopping := none stopping (.trans sd se) ⟨nofun, nofun⟩
  have noPowering := none powering se ⟨nofun, nofun⟩
  have noOnline := none online (.refl t) ⟨nofun, nofun⟩
  have zero : nonShedding scope t = 0 := by
    unfold nonShedding allocSum
    refine List.sum_eq_zero_iff_forall_eq_nat.mpr fun x hx => ?_
    obtain ⟨b, -, rfl⟩ := List.mem_map.mp hx
    split
    case isFalse => rfl
    case isTrue k =>
      simp only [Bool.and_eq_true, decide_eq_true_eq] at k
      refine Classical.byContradiction fun watts => ?_
      have st := dry' b watts
      have := noAdmitted b k.1
      have := noStopping b k.1
      have := noPowering b k.1
      have := noOnline b k.1
      have := k.2
      cases h : (t.bay b).state <;> simp_all [BayState.allocated]
  unfold deficit at need
  omega

theorem deficit_nonpos {scope : Option ZoneIx} : deficit scope s ≤ 0 ↔ nonShedding scope s ≤ limitOf scope s := by
  unfold deficit
  omega

theorem coverAll_eq (s : State) : coverAll s =
    coverDeficit none (coverDeficit (some 2) (coverDeficit (some 1) (coverDeficit (some 0) s))) := by
  simp only [coverAll, allZones, List.foldl_cons, List.foldl_nil]

/-- The shed pass restores the law of the allocations, whatever the deficits. -/
theorem budgetOk_coverAll (dry : ∀ b, (s.bay b).alloc ≠ 0 → (s.bay b).state.allocated = true) :
    BudgetOk (coverAll s) := by
  rw [coverAll_eq]
  have z0 := coverDeficit_sheds (some 0) s
  have z1 := coverDeficit_sheds (some 1) (coverDeficit (some 0) s)
  have z2 := coverDeficit_sheds (some 2) (coverDeficit (some 1) (coverDeficit (some 0) s))
  have chassis := coverDeficit_sheds none (coverDeficit (some 2) (coverDeficit (some 1) (coverDeficit (some 0) s)))
  have c0 := coverDeficit_covers (some 0) s dry
  have c1 := coverDeficit_covers (some 1) _ (z0.dry dry)
  have c2 := coverDeficit_covers (some 2) _ (z1.dry (z0.dry dry))
  have c := coverDeficit_covers none _ (z2.dry (z1.dry (z0.dry dry)))
  refine budgetOk_iff.mpr ⟨chassis.dry (z2.dry (z1.dry (z0.dry dry))), fun scope => deficit_nonpos.mp ?_⟩
  match scope with
  | none => exact c
  | some 0 => exact Int.le_trans (deficit_mono (z1.trans (z2.trans chassis)) _) c0
  | some 1 => exact Int.le_trans (deficit_mono (z2.trans chassis) _) c1
  | some 2 => exact Int.le_trans (deficit_mono chassis _) c2

theorem budgetOk_shedPass (dry : ∀ b, (s.bay b).alloc ≠ 0 → (s.bay b).state.allocated = true) :
    BudgetOk (shedPass s) := by
  rw [shedPass_eq]
  split
  · exact (keeps_admissionPass (O := fun _ => False) (P := fun _ => True)).law .budget id (budgetOk_coverAll dry)
  · exact budgetOk_coverAll dry

/-- A pass after a limit has moved restores the law where only that limit may be passed (R64, R66). -/
theorem budgetOk_afterLimit {scope : Option ZoneIx} {old : Nat}
    (dry : ∀ b, (s.bay b).alloc ≠ 0 → (s.bay b).state.allocated = true)
    (others : ∀ other, other ≠ scope → nonShedding other s ≤ limitOf other s) (own : nonShedding scope s ≤ old) :
    BudgetOk (afterLimit scope old s) := by
  have ok : nonShedding scope s ≤ limitOf scope s → BudgetOk s := fun fits =>
    budgetOk_iff.mpr ⟨dry, fun other => (Classical.em (other = scope)).elim (fun e => e ▸ fits) (others other)⟩
  unfold afterLimit
  split
  case isTrue rise =>
    exact (keeps_admissionPass (O := fun _ => False) (P := fun _ => True)).law .budget id (ok (by omega))
  case isFalse =>
    split
    case isTrue => exact budgetOk_shedPass dry
    case isFalse fits => exact ok (Nat.not_lt.mp fits)

theorem keeps_afterLimit (scope : Option ZoneIx) (old : Nat) : KeepsBut O P s (afterLimit scope old s) := by
  unfold afterLimit
  exact .ite (fun _ => keeps_admissionPass) fun _ => .ite (fun _ => keeps_shedPass) fun _ => .refl s

end Sys2Proof.Machine

namespace Sys2Proof.Machine

variable {O : Law → Prop} {P : Permit → Prop} {s t u : State}

/-! ### Laws open until an operation's end -/

/-- The laws left open, and one more. -/
def Opening (O : Law → Prop) (l : Law) : Law → Prop := fun x => O x ∨ x = l

theorem KeepsBut.close (l : Law) (h : KeepsBut (Opening O l) P s t) (closed : ¬ O l → l.holds s → l.holds t) :
    KeepsBut O P s t :=
  { h with law := fun x o => (Classical.em (x = l)).elim (fun e => e ▸ closed (e ▸ o)) fun e => h.law x (not_or.mpr ⟨o, e⟩) }

theorem Opening.here (O : Law → Prop) (l : Law) : Opening O l l := .inr rfl

/-! ### B (R64) -/

/-- The values B and raw capacity take anew, before what follows from a change of B. -/
def rebudget (s : State) : State :=
  { s with alloc := { s.alloc with
      raw := rawCapacity s.alloc.mode fun i => (s.supply i).counted
      budget := (rawCapacity s.alloc.mode fun i => (s.supply i).counted) - s.alloc.overhead } }

theorem recomputeBudget_eq (s : State) : recomputeBudget s =
    if (rebudget s).alloc.budget = s.alloc.budget then rebudget s
    else afterLimit none s.alloc.budget
      (raise .budgetChange .chassis s.alloc.mode.code (rebudget s).alloc.budget (rebudget s)) := rfl

theorem keeps_rebudget (supplies : O .supplies)
    (budget : ¬ O .budget → (rebudget s).alloc.budget = s.alloc.budget) : KeepsBut O P s (rebudget s) :=
  .policy s.alloc.mode s.alloc.overhead s.alloc.capTimeout _ _ (.inr rfl) (fun o => absurd supplies o) fun o h =>
    BudgetOk.congr (s := s) (t := rebudget s) (fun _ => rfl) (fun _ => rfl) (fun _ => rfl) (budget o) (fun _ => rfl) h

theorem keeps_recomputeBudget (supplies : O .supplies) : KeepsBut O P s (recomputeBudget s) := by
  rw [recomputeBudget_eq]
  refine .ite (fun same => keeps_rebudget supplies fun _ => same) fun _ => .close .budget ?_ fun _ h => ?_
  · exact .trans (keeps_rebudget (.inl supplies) fun o => absurd (.inr rfl) o) (.trans (.raise ..) (keeps_afterLimit none _))
  · obtain ⟨dry, sums⟩ := budgetOk_iff.mp h
    have raised : Sheds (rebudget s) (raise .budgetChange .chassis s.alloc.mode.code (rebudget s).alloc.budget (rebudget s)) :=
      .raise ..
    generalize raise .budgetChange .chassis s.alloc.mode.code (rebudget s).alloc.budget (rebudget s) = t at raised ⊢
    refine budgetOk_afterLimit (raised.dry dry) (fun other ne => ?_) (Nat.le_trans (raised.sums none) (sums none))
    cases other with
    | none => exact absurd rfl ne
    | some z => rw [raised.limits]; exact Nat.le_trans (raised.sums _) (sums (some z))

/-- Every counted capacity is that of its record, and only a supply in IDENT is read. -/
def RecordsCounted (s : State) : Prop := (∀ i, (s.supply i).counted = countedCapacity (s.supply i)) ∧
  ∀ i, (s.supply i).read.isSome = true → (s.supply i).state = .ident

theorem suppliesOk_recomputeBudget (h : RecordsCounted s) : SuppliesOk (recomputeBudget s) := by
  have pass := recomputeBudget_step s
  have supply : ∀ i, (recomputeBudget s).supply i = s.supply i := fun i => congrArg (Tab.get · i) pass.supplies
  obtain ⟨raw, budget⟩ := recomputeBudget_values s
  have mode : (recomputeBudget s).alloc.mode = s.alloc.mode := pass.alloc_mode
  have overhead : (recomputeBudget s).alloc.overhead = s.alloc.overhead := pass.alloc_overhead
  unfold SuppliesOk
  simp only [supply, mode, overhead]
  exact ⟨h.1, h.2, raw, by rw [budget, raw]⟩

/-! ### Supplies (R60 to R63) -/

theorem State.modSupply_modSupply (s : State) (i : SupIx) (f g : Supply → Supply) :
    (s.modSupply i f).modSupply i g = s.modSupply i fun x => g (f x) := by
  simp only [State.modSupply, State.supply, Tab.get_set_self, Tab.set_set]

/-- The law of the store over a change of one supply. -/
theorem StoreOk.supply {i : SupIx} (h : StoreOk s) (f : Supply → Supply)
    (holds : (∃ k, (slotAt s k).owner = some (.supply i)) → (f (s.supply i)).state ≠ .absent)
    (read : ∀ r, (f (s.supply i)).read = some r → (f (s.supply i)).state = .ident ∧ 1 ≤ r.nextBlock ∧ 0 ∉ r.retry ∧
      (r.phase = .header → ∀ k, (slotAt s k).owner ≠ some (.supply i))) : StoreOk (s.modSupply i f) := by
  rw [storeOk_iff] at h ⊢
  intro o
  obtain ⟨record, there, flight⟩ := h o
  refine ⟨record.same rfl, ?_, ?_⟩
  · intro held
    cases o with
    | bay b => exact there held
    | supply j =>
      by_cases e : j = i
      · subst e
        show ((s.modSupply j f).supply j).state ≠ .absent
        rw [State.modSupply_supply_self]
        exact holds held
      · show ((s.modSupply i f).supply j).state ≠ .absent
        rw [State.modSupply_supply_ne _ e]
        exact there held
  · intro r hr
    cases o with
    | bay b => exact flight r hr
    | supply j =>
      by_cases e : j = i
      · subst e
        have self := State.modSupply_supply_self s j f
        change ((s.modSupply j f).supply j).read = some r at hr
        rw [self] at hr
        refine ⟨?_, (read r hr).2⟩
        show ((s.modSupply j f).supply j).state = .ident
        rw [self]
        exact (read r hr).1
      · have other := State.modSupply_supply_ne s e f
        change ((s.modSupply i f).supply j).read = some r at hr
        rw [other] at hr
        refine ⟨?_, (flight r hr).2⟩
        show ((s.modSupply i f).supply j).state = .ident
        rw [other]
        exact (flight r hr).1

/-- A change of one supply with its counted capacity, with events and conditions, and B recomputed at its end. -/
theorem keeps_resupply {i : SupIx} (f : Supply → Supply) (override : P (.sets .supply) ∨ (f (s.supply i)).override = (s.supply i).override)
    (counted : (f (s.supply i)).counted = countedCapacity (f (s.supply i))) (read : (f (s.supply i)).read = (s.supply i).read)
    (idle : (s.supply i).state = .ident → (s.supply i).read = none ∨ (f (s.supply i)).state = .ident)
    (there : ¬ O .store → StoreOk s → (∃ k, (slotAt s k).owner = some (.supply i)) → (f (s.supply i)).state ≠ .absent)
    (told : KeepsBut (Opening O .supplies) P (s.modSupply i f) u) (supplies : u.supplies = (s.modSupply i f).supplies) :
    KeepsBut O P s (recomputeBudget u) := by
  have self := State.modSupply_supply_self s i f
  have ident : ((s.supply i).read.isSome = true → (s.supply i).state = .ident) →
      (f (s.supply i)).read.isSome = true → (f (s.supply i)).state = .ident := by
    intro flight some
    rw [read] at some
    exact (idle (flight some)).resolve_left fun none => by rw [none] at some; cases some
  refine .close .supplies (.trans (.trans (.supplies _ ?_ (fun o => absurd (.inr rfl) o) fun o h => ?_) told)
    (keeps_recomputeBudget (Opening.here _ _))) fun _ ⟨count, flight, _⟩ => suppliesOk_recomputeBudget ?_
  · refine override.imp_right fun same => funext fun j => ?_
    show ((s.modSupply i f).supply j).override = _
    rw [State.modSupply_supply]
    split
    case isTrue e => subst e; exact same
    case isFalse => rfl
  · refine h.supply f (there (fun k => o (.inl k)) h) fun r hr => ⟨ident ?_ (by rw [hr]; rfl), ?_⟩
    · obtain ⟨-, -, -, -, -, ident, -⟩ := h
      exact ident i
    · obtain ⟨-, -, -, -, -, -, flight⟩ := h
      exact flight (.supply i) r (read.symm.trans hr)
  · have same : ∀ j, u.supply j = (s.modSupply i f).supply j := fun j => congrArg (Tab.get · j) supplies
    refine ⟨fun j => ?_, fun j => ?_⟩ <;> rw [same] <;> by_cases e : j = i
    · subst e; rw [self]; exact counted
    · rw [State.modSupply_supply_ne _ e]; exact count j
    · subst e; rw [self]; exact ident (flight j)
    · rw [State.modSupply_supply_ne _ e]; exact flight j

/-- A supply's record in a new state, with its capacity counted anew. -/
def Supply.recounted (p : Supply) : Supply := { p with counted := countedCapacity p }

theorem recounted_counted (p : Supply) : p.recounted.counted = countedCapacity p.recounted := rfl

theorem recount_modSupply (i : SupIx) (f : Supply → Supply) (s : State) :
    recount i (s.modSupply i f) = s.modSupply i fun p => (f p).recounted := State.modSupply_modSupply ..

/-- A change of a supply's record in the state it is in (R63). -/
theorem keeps_recount {i : SupIx} (f : Supply → Supply) (override : P (.sets .supply) ∨ (f (s.supply i)).override = (s.supply i).override)
    (read : (f (s.supply i)).read = (s.supply i).read) (state : (f (s.supply i)).state = (s.supply i).state) :
    KeepsBut O P s (recomputeBudget (recount i (s.modSupply i f))) := by
  rw [recount_modSupply]
  refine keeps_resupply (fun p => (f p).recounted) override (recounted_counted _) read
    (fun h => .inr (state.trans h)) (fun _ h ⟨k, hk⟩ => ?_) (.refl _) rfl
  obtain ⟨-, -, -, supplies, -⟩ := h
  exact fun same => supplies k i hk (state.symm.trans same)

/-- The event and the condition of a change of supply state. -/
def tellSupply (i : SupIx) (old st : SupplyState) (s : State) : State :=
  let s := raise .supplyChange (.supply i) st.code (s.supply i).counted s
  if st = .failed then raiseCondition (.supplyFailed i) s
  else if old = .failed then endCondition (.supplyFailed i) s
  else s

theorem changeSupply_eq (i : SupIx) (st : SupplyState) (f : Supply → Supply) (s : State) :
    changeSupply i st (s.modSupply i f) = recomputeBudget (tellSupply i (f (s.supply i)).state st
      (s.modSupply i fun p => ({ f p with state := st } : Supply).recounted)) := by
  unfold changeSupply tellSupply
  rw [State.modSupply_modSupply, recount_modSupply, State.modSupply_supply_self]

theorem tellSupply_supplies (i : SupIx) (old st : SupplyState) (s : State) :
    (tellSupply i old st s).supplies = s.supplies := by
  unfold tellSupply
  dsimp only
  split
  · exact raise_supplies ..
  · split <;> exact raise_supplies ..

/-- A change of a supply's state, with its record changed before (R60 to R63). -/
theorem keeps_changeSupply {i : SupIx} (st : SupplyState) (f : Supply → Supply)
    (override : (f (s.supply i)).override = (s.supply i).override)
    (read : (f (s.supply i)).read = (s.supply i).read)
    (idle : (s.supply i).state = .ident → (s.supply i).read = none ∨ st = .ident)
    (there : st = .absent → ¬ O .store → StoreOk s → ∀ k, (slotAt s k).owner ≠ some (.supply i)) :
    KeepsBut O P s (changeSupply i st (s.modSupply i f)) := by
  rw [changeSupply_eq]
  refine keeps_resupply (fun p => ({ f p with state := st } : Supply).recounted) (.inr override) (recounted_counted _)
    read idle (fun o h ⟨k, hk⟩ absent => there absent o h k hk) ?_ (tellSupply_supplies ..)
  unfold tellSupply
  exact .trans (.raise ..) (.ite (fun _ => .raiseCondition _) fun _ => .ite (fun _ => .endCondition _) fun _ => .refl _)

theorem State.modSupply_id (s : State) (i : SupIx) : s.modSupply i (fun p => p) = s := by
  unfold State.modSupply
  rw [State.supply, Tab.set_get]

end Sys2Proof.Machine

namespace Sys2Proof.Machine

variable {O : Law → Prop} {P : Permit → Prop} {s t u : State}

/-! ### The law of one zone (R66, R115, R117) -/

/-- The duties and the output of a zone within their range. -/
structure Zone.Bounds (x : Zone) : Prop where
  minDuty : x.settings.minDuty ≤ 1000
  failsafe : x.settings.failsafe ≤ 1000
  top : x.output ≤ 1000

/-- A zone's output as an update leaves it, for the management mode and the number of its healthy fans. -/
structure Zone.Driven (managed : Bool) (healthy : Nat) (x : Zone) : Prop extends x.Bounds where
  floor : x.settings.minDuty ≤ x.output
  failsafeFloor : managed = false → x.settings.failsafe ≤ x.output
  unhealthy : healthy ≠ 2 → x.output = 1000
  compare : x.compare = compareCount x.output x.settings.period

/-- A zone's limit as its healthy fans and its thermal state give it. -/
def Zone.Limited (healthy : Nat) (x : Zone) : Prop :=
  x.limit = if x.thermal = .critical then min (x.settings.cooling healthy) x.settings.critLimit
    else x.settings.cooling healthy

theorem outputsOk_iff : OutputsOk s ↔ ∀ z, (s.zone z).Driven s.agent.managed (healthyCount z s) ∧
    (s.zone z).Limited (healthyCount z s) := by
  have unhealthy : ∀ z, zoneUnhealthy z s = true ↔ healthyCount z s ≠ 2 := fun z => by simp [zoneUnhealthy]
  refine forall_congr' fun z => ⟨fun ⟨a, b, c, d, e, f, g, h⟩ => ?_, fun ⟨⟨⟨a, b, e⟩, c, d, f, g⟩, h⟩ => ?_⟩
  · exact ⟨⟨⟨a, b, e⟩, c, d, fun k => f ((unhealthy z).mpr k), g⟩, h⟩
  · exact ⟨a, b, c, d, e, fun k => f ((unhealthy z).mp k), g, h⟩

theorem OutputsOk.congr (zones : ∀ z, ((t.zone z).settings, (t.zone z).output, (t.zone z).compare, (t.zone z).limit,
      (t.zone z).thermal) = ((s.zone z).settings, (s.zone z).output, (s.zone z).compare, (s.zone z).limit,
      (s.zone z).thermal))
    (health : ∀ f, (t.fan f).health = (s.fan f).health) (managed : t.agent.managed = s.agent.managed)
    (h : OutputsOk s) : OutputsOk t := by
  have count : ∀ z, healthyCount z t = healthyCount z s := fun z => by simp only [healthyCount, health]
  have zone : ∀ z, (t.zone z).settings = (s.zone z).settings ∧ (t.zone z).output = (s.zone z).output ∧
      (t.zone z).compare = (s.zone z).compare ∧ (t.zone z).limit = (s.zone z).limit ∧
      (t.zone z).thermal = (s.zone z).thermal := fun z => by simpa only [Prod.mk.injEq] using zones z
  intro z
  obtain ⟨settings, output, compare, limit, thermal⟩ := zone z
  have own := h z
  simp only [zoneUnhealthy, zoneLimit, count, settings, output, compare, limit, thermal, managed] at own ⊢
  exact own

/-- A change of one zone that leaves its limit. -/
theorem KeepsBut.zone (z : ZoneIx) (f : Zone → Zone)
    (settings : P (.sets .zone) ∨ (f (s.zone z)).settings = (s.zone z).settings)
    (curve : P (.sets .curve) ∨ (f (s.zone z)).curve = (s.zone z).curve)
    (limit : ¬ O .budget → (f (s.zone z)).limit = (s.zone z).limit)
    (ok : ¬ O .outputs → OutputsOk s → (f (s.zone z)).Driven s.agent.managed (healthyCount z s) ∧
      (f (s.zone z)).Limited (healthyCount z s)) : KeepsBut O P s (s.modZone z f) := by
  have same : ∀ {α : Type} (g : Zone → α), g (f (s.zone z)) = g (s.zone z) → ∀ y, g ((s.modZone z f).zone y) = g (s.zone y) := by
    intro α g h y
    rw [State.modZone_zone]
    split
    case isTrue e => subst e; exact h
    case isFalse => rfl
  refine .zones _ (settings.imp_right fun h => funext (same _ h)) (curve.imp_right fun h => funext (same _ h))
    (fun o h => BudgetOk.congr (s := s) (fun _ => rfl) (fun _ => rfl) (fun _ => rfl) rfl (same _ (limit o)) h)
    fun o h => ?_
  have own := ok o h
  refine outputsOk_iff.mpr fun y => ?_
  show ((s.modZone z f).zone y).Driven s.agent.managed (healthyCount y s) ∧
    ((s.modZone z f).zone y).Limited (healthyCount y s)
  rw [State.modZone_zone]
  split
  case isTrue e => subst e; exact own
  case isFalse => exact outputsOk_iff.mp h y

/-- A change of one zone that its law does not read. -/
theorem KeepsBut.minorZone (z : ZoneIx) (f : Zone → Zone)
    (curve : P (.sets .curve) ∨ (f (s.zone z)).curve = (s.zone z).curve)
    (same : ((f (s.zone z)).settings, (f (s.zone z)).output, (f (s.zone z)).compare, (f (s.zone z)).limit,
      (f (s.zone z)).thermal) = ((s.zone z).settings, (s.zone z).output, (s.zone z).compare, (s.zone z).limit,
      (s.zone z).thermal)) : KeepsBut O P s (s.modZone z f) := by
  obtain ⟨settings, output, compare, limit, thermal⟩ : _ ∧ _ ∧ _ ∧ _ ∧ _ := by simpa only [Prod.mk.injEq] using same
  refine .zone z f (.inr settings) curve (fun _ => limit) fun _ h => ?_
  obtain ⟨⟨⟨a, b, c⟩, d, e, g, k⟩, l⟩ := outputsOk_iff.mp h z
  unfold Zone.Limited at l ⊢
  refine ⟨⟨⟨?_, ?_, ?_⟩, ?_, ?_, ?_, ?_⟩, ?_⟩ <;> simp only [settings, output, compare, limit, thermal] <;> assumption

/-! ### Updates (R115) -/

theorem outputFloor_bounds (managed : Bool) (c : ZoneSettings) : c.minDuty ≤ outputFloor managed c ∧
    (managed = false → c.failsafe ≤ outputFloor managed c) ∧ outputFloor managed c ≤ max c.minDuty c.failsafe := by
  unfold outputFloor
  cases managed <;> simp [Nat.le_max_left, Nat.le_max_right]

theorem updatedOutput_bounds (z : ZoneIx) (d : Nat) (demand : d ≤ 1000) (bounds : (s.zone z).Bounds) :
    outputFloor s.agent.managed (s.zone z).settings ≤ updatedOutput z d s ∧ updatedOutput z d s ≤ 1000 := by
  obtain ⟨min, failsafe, top⟩ := bounds
  obtain ⟨-, -, floor⟩ := outputFloor_bounds s.agent.managed (s.zone z).settings
  obtain ⟨up, -⟩ := slewed_bounds (s.zone z).settings (s.zone z).output d
  unfold updatedOutput
  dsimp only
  split <;> omega

/-- An update makes the law of the zone hold. -/
theorem updateZone_driven (z : ZoneIx) (bounds : (s.zone z).Bounds) :
    ((updateZone z s).zone z).Driven s.agent.managed (healthyCount z s) := by
  rw [updateZone_only, State.modZone_zone_self]
  obtain ⟨low, high⟩ := updatedOutput_bounds z _ (contributions_demand_le z s) bounds
  obtain ⟨min, failsafe, -⟩ := outputFloor_bounds s.agent.managed (s.zone z).settings
  refine ⟨⟨bounds.minDuty, bounds.failsafe, high⟩, Nat.le_trans min low, fun k => Nat.le_trans (failsafe k) low, fun k => ?_, rfl⟩
  show updatedOutput _ _ _ = _
  rw [updatedOutput, if_pos (by simpa [zoneUnhealthy] using k)]

theorem updateZone_limited (z y : ZoneIx) (n : Nat) (h : (s.zone y).Limited n) : ((updateZone z s).zone y).Limited n := by
  rw [updateZone_only, State.modZone_zone]
  split
  case isTrue e => subst e; exact h
  case isFalse => exact h

theorem updateZone_zone_ne {z y : ZoneIx} (h : y ≠ z) : (updateZone z s).zone y = s.zone y := State.modZone_zone_ne _ h _

theorem healthyCount_updateZone (z y : ZoneIx) : healthyCount y (updateZone z s) = healthyCount y s := rfl

theorem keeps_updateZone (z : ZoneIx) : KeepsBut O P s (updateZone z s) := by
  have self := State.modZone_zone_self s z fun x =>
    { x.drive (updatedOutput z (contributions z s).demand s) with lastUpdate := some (contributions z s) }
  unfold updateZone
  refine .zone z _ (.inr rfl) (.inr rfl) (fun _ => rfl) fun _ h => ?_
  obtain ⟨driven, limited⟩ := outputsOk_iff.mp h z
  have after := updateZone_driven z driven.toBounds
  exact ⟨self ▸ after, limited⟩

theorem keeps_updateAllZones : KeepsBut O P s (updateAllZones s) := .foldl _ (fun _ z => keeps_updateZone z) _ _

/-! ### L_z (R66) -/

/-- L_z anew, before the pass that a change calls for. -/
def relimit (z : ZoneIx) (s : State) : State := s.modZone z fun x => { x with limit := zoneLimit z s }

theorem recomputeLimit_eq (z : ZoneIx) (s : State) : recomputeLimit z s =
    if zoneLimit z s = (s.zone z).limit then s else afterLimit (some z) (s.zone z).limit (relimit z s) := rfl

theorem recomputeLimit_frame (z : ZoneIx) (s : State) : (recomputeLimit z s).zones = (relimit z s).zones ∧
    (recomputeLimit z s).fans = s.fans ∧ (recomputeLimit z s).agent = s.agent := by
  rw [recomputeLimit_eq]
  split
  case isTrue e =>
    refine ⟨?_, rfl, rfl⟩
    show s.zones = s.zones.set z { s.zone z with limit := zoneLimit z s }
    rw [e]
    exact (Tab.set_get ..).symm
  case isFalse =>
    have pass := afterLimit_step (some z) (s.zone z).limit (relimit z s)
    exact ⟨pass.zones, pass.fans, pass.agent⟩

theorem recomputeLimit_zone (z y : ZoneIx) (s : State) : (recomputeLimit z s).zone y =
    if y = z then { s.zone z with limit := zoneLimit z s } else s.zone y :=
  (congrArg (Tab.get · y) (recomputeLimit_frame z s).1).trans (State.modZone_zone ..)

theorem healthyCount_recomputeLimit (z y : ZoneIx) (s : State) :
    healthyCount y (recomputeLimit z s) = healthyCount y s := healthyCount_congr (recomputeLimit_frame z s).2.1 y

theorem limited_recomputeLimit (z : ZoneIx) (s : State) :
    ((recomputeLimit z s).zone z).Limited (healthyCount z s) := by
  rw [recomputeLimit_zone, if_pos rfl]
  rfl

theorem keeps_recomputeLimit (z : ZoneIx) (outputs : O .outputs) : KeepsBut O P s (recomputeLimit z s) := by
  rw [recomputeLimit_eq]
  refine .ite (fun _ => .refl _) fun _ => .close .budget ?_ fun _ h => ?_
  · exact .trans (.zone z _ (.inr rfl) (.inr rfl) (fun o => absurd (.inr rfl) o) fun o => absurd (.inl outputs) o)
      (keeps_afterLimit _ _)
  · obtain ⟨dry, sums⟩ := budgetOk_iff.mp h
    refine budgetOk_afterLimit dry (fun other ne => ?_) (sums (some z))
    have limit : limitOf other (relimit z s) = limitOf other s := by
      cases other with
      | none => rfl
      | some y => exact congrArg Zone.limit (State.modZone_zone_ne _ (fun e => ne (congrArg some e)) _)
    rw [limit]
    exact sums other

/-- What one zone's law still needs of it, and what the others' keep, at the end of a change of that zone. -/
def OthersOk (z : ZoneIx) (s : State) : Prop := ∀ y, y ≠ z →
  (s.zone y).Driven s.agent.managed (healthyCount y s) ∧ (s.zone y).Limited (healthyCount y s)

theorem OthersOk.recomputed {z : ZoneIx} (h : OthersOk z s) (own : ((recomputeLimit z s).zone z).Driven s.agent.managed
    (healthyCount z s)) : OutputsOk (recomputeLimit z s) := by
  refine outputsOk_iff.mpr fun y => ?_
  rw [healthyCount_recomputeLimit, (recomputeLimit_frame z s).2.2]
  by_cases e : y = z
  · subst e
    exact ⟨own, limited_recomputeLimit ..⟩
  · rw [recomputeLimit_zone, if_neg e]
    exact h y e

/-- A change of a zone's settings or thermal state with L_z recomputed at its end. -/
theorem keeps_relimited {z : ZoneIx} (told : KeepsBut (Opening O .outputs) P s t)
    (after : OutputsOk s → OthersOk z t ∧ (t.zone z).Driven t.agent.managed (healthyCount z t)) :
    KeepsBut O P s (recomputeLimit z t) := by
  refine .close .outputs (told.trans (keeps_recomputeLimit z (Opening.here ..))) fun _ h => ?_
  obtain ⟨others, own⟩ := after h
  refine others.recomputed ?_
  rw [recomputeLimit_zone, if_pos rfl]
  exact ⟨⟨own.minDuty, own.failsafe, own.top⟩, own.floor, own.failsafeFloor, own.unhealthy, own.compare⟩

/-- A change of a fan's health with L_z recomputed and its zone updated at its end. -/
theorem keeps_healthChanged {f : FanIx} (told : KeepsBut (Opening O .outputs) P s t)
    (after : OutputsOk s → OthersOk (fanZone f) t ∧ (t.zone (fanZone f)).Bounds) :
    KeepsBut O P s (healthChanged f t) := by
  refine .close .outputs (told.trans (.trans (keeps_recomputeLimit (fanZone f) (Opening.here ..)) (keeps_updateZone _)))
    fun _ h => ?_
  obtain ⟨others, own⟩ := after h
  have bounds : ((recomputeLimit (fanZone f) t).zone (fanZone f)).Bounds := by
    rw [recomputeLimit_zone, if_pos rfl]
    exact ⟨own.minDuty, own.failsafe, own.top⟩
  refine outputsOk_iff.mpr fun y => ?_
  show ((updateZone (fanZone f) (recomputeLimit (fanZone f) t)).zone y).Driven (recomputeLimit (fanZone f) t).agent.managed
    (healthyCount y (recomputeLimit (fanZone f) t)) ∧ _
  by_cases e : y = fanZone f
  · subst e
    have limited := limited_recomputeLimit (fanZone f) t
    rw [← healthyCount_recomputeLimit] at limited
    exact ⟨updateZone_driven _ bounds, updateZone_limited _ _ _ limited⟩
  · show _ ∧ ((updateZone (fanZone f) (recomputeLimit (fanZone f) t)).zone y).Limited
      (healthyCount y (recomputeLimit (fanZone f) t))
    rw [updateZone_zone_ne e, recomputeLimit_zone, if_neg e, healthyCount_recomputeLimit, (recomputeLimit_frame _ t).2.2]
    exact others y e

end Sys2Proof.Machine

namespace Sys2Proof.Machine

variable {O : Law → Prop} {P : Permit → Prop} {s t u : State}

/-! ### Thermal states (R109, R110) -/

theorem OutputsOk.others {z : ZoneIx} {f : Zone → Zone} (h : OutputsOk s) (zones : t.zones = (s.modZone z f).zones)
    (fans : t.fans = s.fans) (agent : t.agent = s.agent) : OthersOk z t := by
  intro y ne
  have zone : t.zone y = s.zone y := (congrArg (Tab.get · y) zones).trans (State.modZone_zone_ne _ ne _)
  rw [zone, healthyCount_congr fans, agent]
  exact outputsOk_iff.mp h y

/-- The event and the condition of a change of thermal state. -/
def tellThermal (z : ZoneIx) (old st : ThermalState) (s : State) : State :=
  let s := raise st.event (.zone z) old.code (highestReading (validSensors z s)) s
  if st = .critical then raiseCondition (.zoneCritical z) s
  else if old = .critical then endCondition (.zoneCritical z) s
  else s

theorem changeThermal_eq (z : ZoneIx) (st : ThermalState) (s : State) : changeThermal z st s =
    let t := recomputeLimit z (tellThermal z (s.zone z).thermal st (s.modZone z fun x => { x with thermal := st }))
    if st = .critical then updateZone z t else t := rfl

theorem keeps_tellThermal (z : ZoneIx) (old st : ThermalState) : KeepsBut O P s (tellThermal z old st s) :=
  .trans (.raise ..) (.ite (fun _ => .raiseCondition _) fun _ => .ite (fun _ => .endCondition _) fun _ => .refl _)

theorem tellThermal_frame (z : ZoneIx) (old st : ThermalState) (s : State) :
    (tellThermal z old st s).zones = s.zones ∧ (tellThermal z old st s).fans = s.fans ∧
      (tellThermal z old st s).agent = s.agent := by
  unfold tellThermal
  dsimp only
  split
  · exact ⟨raise_zones .., raise_fans .., raise_agent ..⟩
  · split <;> exact ⟨raise_zones .., raise_fans .., raise_agent ..⟩

theorem keeps_changeThermal (z : ZoneIx) (st : ThermalState) : KeepsBut O P s (changeThermal z st s) := by
  rw [changeThermal_eq]
  dsimp only
  have relimited : KeepsBut O P s
      (recomputeLimit z (tellThermal z (s.zone z).thermal st (s.modZone z fun x => { x with thermal := st }))) := by
    refine keeps_relimited (.trans (.zone z _ (.inr rfl) (.inr rfl) (fun _ => rfl) fun o => absurd (.inr rfl) o)
      (keeps_tellThermal ..)) fun h => ?_
    have frame := tellThermal_frame z (s.zone z).thermal st (s.modZone z fun x => { x with thermal := st })
    generalize tellThermal z (s.zone z).thermal st _ = t at frame ⊢
    obtain ⟨zones, fans, agent⟩ := frame
    refine ⟨h.others zones fans agent, ?_⟩
    have zone : t.zone z = { s.zone z with thermal := st } :=
      (congrArg (Tab.get · z) zones).trans (State.modZone_zone_self ..)
    rw [zone, healthyCount_congr fans, agent]
    obtain ⟨own, -⟩ := outputsOk_iff.mp h z
    exact ⟨⟨own.minDuty, own.failsafe, own.top⟩, own.floor, own.failsafeFloor,
      own.unhealthy, own.compare⟩
  exact .ite (fun _ => relimited.trans (keeps_updateZone z)) fun _ => relimited

theorem keeps_evaluateZone (z : ZoneIx) : KeepsBut O P s (evaluateZone z s) := by
  unfold evaluateZone
  exact .ite (fun _ => .refl _) fun _ => keeps_changeThermal ..

/-! ### Sensor channels (R105 to R108) -/

/-- The settings of a channel. -/
def Sensor.settings (x : Sensor) : Nat × Int × ZoneIx × Int × Int × Bool :=
  (x.gain, x.offset, x.zone, x.warn, x.crit, x.enabled)

theorem KeepsBut.sensor (c : ChanIx) (f : Sensor → Sensor)
    (settings : P (.sets .sensor) ∨ (f (s.sensor c)).settings = (s.sensor c).settings) :
    KeepsBut O P s (s.modSensor c f) := by
  refine .sensors _ (settings.imp_right fun h => funext fun d => ?_)
  show ((s.modSensor c f).sensor d).settings = (s.sensor d).settings
  rw [State.modSensor_sensor]
  split
  case isTrue e => subst e; exact h
  case isFalse => rfl

theorem keeps_railCode (c : ChanIx) (code : BitVec 12) : KeepsBut O P s (railCode c code s) := by
  unfold railCode
  exact .trans (.sensor c _ (.inr rfl)) (.ite (fun _ => .trans (.sensor c _ (.inr rfl))
    (.trans (.raise ..) (.raiseCondition _))) fun _ => .refl _)

theorem keeps_inRangeCode (c : ChanIx) (code : BitVec 12) : KeepsBut O P s (inRangeCode c code s) := by
  unfold inRangeCode
  exact .trans (.sensor c _ (.inr rfl)) (.ite (fun _ => .ite (fun _ => .trans (.sensor c _ (.inr rfl))
    (.trans (.raise ..) (.endCondition _))) fun _ => .refl _) fun _ => .sensor c _ (.inr rfl))

theorem keeps_converted (c : ChanIx) (code : BitVec 12) : KeepsBut O P s (converted c code s) := by
  unfold converted
  exact .trans (.ite (fun _ => keeps_railCode ..) fun _ => keeps_inRangeCode ..) (keeps_evaluateZone _)

theorem keeps_disableSensor (c : ChanIx) (permit : P (.sets .sensor)) : KeepsBut O P s (disableSensor c s) := by
  unfold disableSensor
  exact .trans (.sensor c _ (.inl permit)) (.trans (.ite (fun _ => .loose ..) fun _ => .refl _)
    (.ite (fun _ => .endCondition _) fun _ => .refl _))

theorem keeps_setEnabled (c : ChanIx) (on : Bool) (permit : P (.sets .sensor)) : KeepsBut O P s (setEnabled c on s) := by
  unfold setEnabled
  exact .ite (fun _ => .refl _) fun _ => .ite (fun _ => .sensor c _ (.inl permit)) fun _ => keeps_disableSensor c permit

theorem keeps_reevaluate (old new : Sensor) : KeepsBut O P s (reevaluate old new s) := by
  unfold reevaluate
  exact .ite (fun _ => (keeps_evaluateZone _).trans (keeps_evaluateZone _)) fun _ =>
    .ite (fun _ => keeps_evaluateZone _) fun _ => .refl _

theorem keeps_cmdSetSensor (chan sel : Byte) (gain offset : BitVec 16) (zone : Byte) (warn crit : BitVec 16)
    (enabled : Byte) (permit : P (.sets .sensor)) :
    KeepsBut O P s (cmdSetSensor chan sel gain offset zone warn crit enabled s) := by
  unfold cmdSetSensor
  dsimp only
  split
  · exact .answer ..
  · split
    · exact .trans (.sensor _ _ (.inl permit)) (.trans (keeps_setEnabled _ _ permit) (.trans (keeps_reevaluate ..)
        (.answer ..)))
    · exact .answer ..

/-! ### SET_ZONE and LOAD_CURVE (R124 to R126) -/

theorem clampedValue_le (v : ZoneValues) (i : Nat) {hi : Nat} (h : (zoneRanges.getD i (0, 0)).2 = hi)
    (low : (zoneRanges.getD i (0, 0)).1 ≤ hi) : clampedValue v i ≤ hi :=
  h ▸ (clampNat_bounds (h ▸ low) _).2

theorem select_duties (sel : BitVec 16) (v : ZoneValues) (c : ZoneSettings) (min : c.minDuty ≤ 1000)
    (failsafe : c.failsafe ≤ 1000) : (c.select sel v).minDuty ≤ 1000 ∧ (c.select sel v).failsafe ≤ 1000 := by
  have four := clampedValue_le v 4 (hi := 1000) rfl (by decide)
  have five := clampedValue_le v 5 (hi := 1000) rfl (by decide)
  unfold ZoneSettings.select pick
  dsimp only
  constructor <;> split <;> assumption

theorem raisedFloor_bounds (managed : Bool) (old new : ZoneSettings) :
    (new.minDuty ≤ max old.minDuty (raisedFloor managed old new)) ∧
    (managed = false → new.failsafe ≤ max old.failsafe (raisedFloor managed old new)) ∧
    raisedFloor managed old new ≤ max new.minDuty new.failsafe := by
  unfold raisedFloor
  by_cases duty : old.minDuty < new.minDuty <;> by_cases failsafe : old.failsafe < new.failsafe <;>
    cases managed <;> simp [duty, failsafe] <;> omega

theorem keeps_applyZone (z : ZoneIx) (new : ZoneSettings) (permit : P (.sets .zone))
    (duties : ((s.zone z).settings.minDuty ≤ 1000 → (s.zone z).settings.failsafe ≤ 1000 →
      new.minDuty ≤ 1000 ∧ new.failsafe ≤ 1000)) : KeepsBut O P s (applyZone z new s) := by
  refine keeps_relimited (.zone z _ (.inl permit) (.inr rfl) (fun _ => rfl) fun o => absurd (.inr rfl) o) fun h => ?_
  refine ⟨h.others rfl rfl rfl, ?_⟩
  obtain ⟨own, -⟩ := outputsOk_iff.mp h z
  obtain ⟨min, failsafe⟩ := duties own.minDuty own.failsafe
  obtain ⟨floor, failsafeFloor, top⟩ := raisedFloor_bounds s.agent.managed (s.zone z).settings new
  have high := own.top
  have low := own.floor
  rw [State.modZone_zone_self]
  refine ⟨⟨min, failsafe, ?_⟩, ?_, fun k => ?_, fun k => ?_, rfl⟩
  · show max _ _ ≤ _
    omega
  · show new.minDuty ≤ max _ _
    omega
  · have := failsafeFloor k
    have := own.failsafeFloor k
    show new.failsafe ≤ max _ _
    omega
  · have := own.unhealthy k
    show max _ _ = _
    omega

theorem keeps_cmdSetZone (zone : Byte) (sel : BitVec 16) (v : ZoneValues) (permit : P (.sets .zone)) :
    KeepsBut O P s (cmdSetZone zone sel v s) := by
  unfold cmdSetZone
  split
  · exact .answer ..
  · exact .ite (fun _ => .answer ..) fun _ => .trans (keeps_applyZone _ _ permit (select_duties sel v _)) (.answer ..)

theorem keeps_cmdLoadCurve (zone count : Byte) (points : List (BitVec 16 × BitVec 16)) (permit : P (.sets .curve)) :
    KeepsBut O P s (cmdLoadCurve zone count points s) := by
  unfold cmdLoadCurve
  refine .ite (fun _ => .answer ..) fun _ => ?_
  split
  · exact .answer ..
  · exact .ite (fun _ => .answer ..) fun _ => .trans (.minorZone _ _ (.inl permit) rfl) (.answer ..)

/-! ### Fans (R118 to R123) -/

theorem healthyCount_modFan {f : FanIx} {g : Fan → Fan} {y : ZoneIx}
    (h : y = fanZone f → ((g (s.fan f)).health = .healthy ↔ (s.fan f).health = .healthy)) :
    healthyCount y (s.modFan f g) = healthyCount y s := by
  refine congrArg List.length (List.filter_congr fun n _ => ?_)
  rw [State.modFan_fan]
  split
  case isTrue e =>
    subst e
    by_cases k : n.val / 2 = y.val
    · simp only [h (Fin.ext k.symm)]
    · simp [k]
  case isFalse => rfl

theorem KeepsBut.fan (f : FanIx) (g : Fan → Fan)
    (health : ¬ O .outputs → ((g (s.fan f)).health = .healthy ↔ (s.fan f).health = .healthy)) :
    KeepsBut O P s (s.modFan f g) := by
  refine .fans _ fun o h => outputsOk_iff.mpr fun y => ?_
  have count := healthyCount_modFan (y := y) fun _ => health o
  show (s.zone y).Driven s.agent.managed (healthyCount y (s.modFan f g)) ∧
    (s.zone y).Limited (healthyCount y (s.modFan f g))
  rw [count]
  exact outputsOk_iff.mp h y

/-- A change of a fan's health, told by events and conditions, with what follows from it. -/
theorem keeps_fanHealth {f : FanIx} (g : Fan → Fan) (told : KeepsBut (Opening O .outputs) P (s.modFan f g) t)
    (frame : t.zones = s.zones ∧ t.fans = (s.modFan f g).fans ∧ t.agent = s.agent) :
    KeepsBut O P s (healthChanged f t) := by
  obtain ⟨zones, fans, agent⟩ := frame
  refine keeps_healthChanged (.trans (.fan f g fun o => absurd (.inr rfl) o) told) fun h => ⟨fun y ne => ?_, ?_⟩
  · rw [State.zone, zones, healthyCount_congr fans, healthyCount_modFan fun e => absurd e ne, agent]
    exact outputsOk_iff.mp h y
  · rw [State.zone, zones]
    exact (outputsOk_iff.mp h _).1.toBounds

theorem keeps_stallFan (f : FanIx) : KeepsBut O P s (stallFan f s) :=
  keeps_fanHealth _ (.trans (.raise ..) (.raiseCondition _)) ⟨raise_zones .., raise_fans .., raise_agent ..⟩

theorem keeps_restoreFan (f : FanIx) : KeepsBut O P s (restoreFan f s) :=
  keeps_fanHealth _ (.trans (.raise ..) (.endCondition _)) ⟨raise_zones .., raise_fans .., raise_agent ..⟩

theorem keeps_judgeFan (output : Nat) (f : FanIx) : KeepsBut O P s (judgeFan output f s) := by
  unfold judgeFan
  dsimp only
  split
  · exact .trans (.fan f _ fun _ => .rfl) (.ite (fun _ => keeps_stallFan f) fun _ => .refl _)
  · exact .trans (.fan f _ fun _ => .rfl) (.ite (fun _ => keeps_restoreFan f) fun _ => .refl _)
  · exact .trans (.fan f _ fun _ => .rfl) (.ite (fun _ => keeps_restoreFan f) fun _ => .refl _)
  · exact .refl _

/-- The end of a window once the clock has reached it. -/
theorem keeps_windowEnd : KeepsBut O P (s.reach s.tachWindow) (windowEnd s) := by
  refine .trans (t := { s.reach s.tachWindow with fans := s.fans.map Fan.endWindow })
    (.fans _ fun _ h => OutputsOk.congr (s := s.reach s.tachWindow) (fun _ => rfl) (fun f => ?_) rfl h)
    (.trans (t := { s.reach s.tachWindow with
        tachWindow := (s.reach s.tachWindow).now + 1000, fans := s.fans.map Fan.endWindow }) (.loose ..)
      (.foldl _ (fun _ f => keeps_judgeFan _ f) _ _))
  show ((s.fans.map Fan.endWindow).get f).health = _
  rw [Tab.get_map]
  rfl

theorem keeps_fanPulled (f : FanIx) : KeepsBut O P s (fanPulled f s) := by
  unfold fanPulled
  split
  · exact keeps_fanHealth _ (.refl _) ⟨rfl, rfl, rfl⟩
  · next h => exact .fan f _ fun _ => by simp [h]
  · next h => exact .fan f _ fun _ => by simp [h]
  · exact .refl _

theorem keeps_fanSeated (f : FanIx) : KeepsBut O P s (fanSeated f s) := by
  unfold fanSeated
  exact .ite (fun h => .fan f _ fun _ => by simp [h]) fun _ => .refl _

theorem keeps_fanPresence (f : FanIx) (present : Bool) : KeepsBut O P s (fanPresence f present s) := by
  unfold fanPresence
  exact .ite (fun _ => .trans (.fan f _ fun _ => .rfl) (.ite (fun _ => keeps_fanSeated f) fun _ => keeps_fanPulled f))
    fun _ => .fan f _ fun _ => .rfl

/-! ### The management mode (R169, R170) -/

/-- Updates of a list of zones make the law hold of them, and keep it of the others. -/
theorem outputsOk_updateZones (l : List ZoneIx) : ∀ s : State,
    (∀ z, (s.zone z).Bounds ∧ (s.zone z).Limited (healthyCount z s)) →
    (∀ z, z ∉ l → (s.zone z).Driven s.agent.managed (healthyCount z s)) →
    OutputsOk (l.foldl (fun s z => updateZone z s) s) := by
  induction l with
  | nil => exact fun s ready rest => outputsOk_iff.mpr fun z => ⟨rest z List.not_mem_nil, (ready z).2⟩
  | cons y l ih =>
    intro s ready rest
    have after := updateZone_driven y (ready y).1
    refine ih _ (fun z => ⟨?_, updateZone_limited _ _ _ (ready z).2⟩) fun z out => ?_ <;> by_cases e : z = y
    · subst e; exact after.toBounds
    · rw [updateZone_zone_ne e]; exact (ready z).1
    · subst e; exact after
    · rw [updateZone_zone_ne e]
      exact rest z fun h => (List.mem_cons.mp h).elim e out

theorem updateZone_agent (z : ZoneIx) : (updateZone z s).agent = s.agent := rfl

theorem updateAllZones_frame (s : State) : updateAllZones s = { s with zones := (updateAllZones s).zones } := rfl

/-- The end of the management mode, before the update of the zones. -/
def loseManager (s : State) : State :=
  let t : State := { s with agent := { s.agent with
    managed := false, manager := none, silenceTimer := none, unmanagedSince := s.now } }
  match s.agent.manager with
  | some m => raise .managerLost (.uplink m.uplink) 0 s.agent.silenceTimeout t
  | none => t

theorem enterUnmanaged_eq (s : State) : enterUnmanaged s = updateAllZones (loseManager s) := rfl

theorem loseManager_frame (s : State) : (loseManager s).zones = s.zones ∧ (loseManager s).fans = s.fans := by
  unfold loseManager
  dsimp only
  split
  · exact ⟨raise_zones .., raise_fans ..⟩
  · exact ⟨rfl, rfl⟩

theorem keeps_loseManager (outputs : O .outputs) : KeepsBut O P s (loseManager s) := by
  have ended : KeepsBut O P s { s with agent := { s.agent with
      managed := false, manager := none, silenceTimer := none, unmanagedSince := s.now } } :=
    .agent _ (.inr rfl) (.inr rfl) rfl (fun _ ⟨queue, list, unicast, _, _, trusted⟩ =>
      ⟨queue, list, unicast, rfl, fun _ => rfl, trusted⟩) fun o => absurd outputs o
  unfold loseManager
  dsimp only
  split
  · exact ended.trans (.raise ..)
  · exact ended

theorem keeps_enterUnmanaged : KeepsBut O P s (enterUnmanaged s) := by
  rw [enterUnmanaged_eq]
  refine .close .outputs ((keeps_loseManager (Opening.here ..)).trans keeps_updateAllZones) fun _ h =>
    outputsOk_updateZones allZones _ (fun z => ?_) fun z out => absurd (mem_allZones z) out
  obtain ⟨zones, fans⟩ := loseManager_frame s
  obtain ⟨driven, limited⟩ := outputsOk_iff.mp h z
  rw [State.zone, zones, healthyCount_congr fans]
  exact ⟨driven.toBounds, limited⟩

/-- What an accepted frame leaves in the agent, but for the mode. -/
def contact (c : ControlFrame) (s : State) : State :=
  { s with agent := { s.agent with
      queue := s.agent.queue ++ [c]
      manager := some ⟨frameSrc c.frame, c.uplink, frameTag c.frame⟩
      silenceTimer := if s.agent.silenceTimeout = 0 then s.agent.silenceTimer
        else some (s.now + s.agent.silenceTimeout * 1000) } }

theorem acceptFrame_eq (c : ControlFrame) (s : State) : acceptFrame c s =
    let t := contact c (s.countUplink c.uplink fun n => { n with controlAccepted := sat32 n.controlAccepted })
    if t.agent.managed then t else enterManaged c.uplink t := rfl

theorem keeps_contact (c : ControlFrame)
    (ok : ¬ O .agent → s.agent.managed = true ∧ s.agent.queue.length < 4) : KeepsBut O P s (contact c s) := by
  refine .agent _ (.inr rfl) (.inr rfl) rfl (fun o ⟨_, list, unicast, _, _, trusted⟩ => ?_) fun _ h => h
  obtain ⟨managed, room⟩ := ok o
  refine ⟨?_, list, unicast, managed.symm, fun k => absurd managed (by rw [k]; exact nofun), trusted⟩
  show (s.agent.queue ++ [c]).length ≤ 4
  rw [List.length_append, List.length_singleton]
  omega

theorem keeps_enterManaged (u : UplinkIx) (agent : O .agent) : KeepsBut O P s (enterManaged u s) := by
  refine .trans (.agent { s.agent with managed := true } (.inr rfl) (.inr rfl) rfl (fun o => absurd agent o)
    fun _ h => outputsOk_iff.mpr fun z => ?_) (.trans (.raise ..) keeps_updateAllZones)
  obtain ⟨⟨bounds, floor, -, unhealthy, compare⟩, limited⟩ := outputsOk_iff.mp h z
  exact ⟨⟨bounds, floor, nofun, unhealthy, compare⟩, limited⟩

theorem enterManaged_agent (u : UplinkIx) (s : State) : (enterManaged u s).agent = { s.agent with managed := true } :=
  raise_agent ..

theorem enterManaged_uplinks (u : UplinkIx) (s : State) : (enterManaged u s).uplinks = s.uplinks := raise_uplinks ..

theorem keeps_acceptFrame (c : ControlFrame) (room : s.agent.queue.length < 4) : KeepsBut O P s (acceptFrame c s) := by
  rw [acceptFrame_eq]
  dsimp only
  refine .trans (.countUplink c.uplink fun n => { n with controlAccepted := sat32 n.controlAccepted }) ?_
  generalize hv : s.countUplink c.uplink _ = v
  rw [show s.agent = v.agent by rw [← hv]; rfl] at room
  refine .ite (fun managed => keeps_contact c fun _ => ⟨managed, room⟩) fun _ => ?_
  refine .close .agent (.trans (keeps_contact c fun o => absurd (.inr rfl) o) (keeps_enterManaged _ (Opening.here ..)))
    fun _ ⟨_, list, unicast, _, _, trusted⟩ => ?_
  simp only [Law.holds, AgentOk, enterManaged_agent, State.uplink, enterManaged_uplinks]
  refine ⟨?_, list, unicast, rfl, nofun, trusted⟩
  show (v.agent.queue ++ [c]).length ≤ 4
  rw [List.length_append, List.length_singleton]
  omega

theorem acceptable_room {c : ControlFrame} (may : acceptable c s = true) : s.agent.queue.length < 4 := by
  simp only [acceptable, Bool.and_eq_true, decide_eq_true_eq] at may
  exact may.2

theorem keeps_judgeControl (c : ControlFrame) : KeepsBut O P s (judgeControl c s) := by
  unfold judgeControl
  exact .ite (fun may => keeps_acceptFrame c (acceptable_room may)) fun _ => .countUplink ..

end Sys2Proof.Machine

namespace Sys2Proof.Machine

variable {O : Law → Prop} {P : Permit → Prop} {s t u : State} {i : SupIx}

/-! ### Supply samples, polls and settings (R58 to R63, R85, R86) -/

theorem keeps_supplyPolled (i : SupIx) (outputOk lineLow : Bool) : KeepsBut O P s (supplyPolled i outputOk lineLow s) := by
  unfold supplyPolled
  split
  · next h =>
    exact .ite (fun _ => keeps_recount _ (.inr rfl) rfl rfl) fun _ =>
      keeps_changeSupply .failed _ rfl rfl (by rw [h]; exact nofun) nofun
  · next h =>
    exact .ite (fun _ => keeps_changeSupply .active _ rfl rfl (by rw [h]; exact nofun) nofun) fun _ =>
      keeps_recount _ (.inr rfl) rfl rfl
  all_goals exact .refl _

theorem keeps_dcOk (i : SupIx) (high : Bool) : KeepsBut O P s (dcOk i high s) := by
  unfold dcOk
  refine .ite (fun _ => ?_) fun _ => .minorSupply i _ ⟨rfl, rfl, rfl, rfl, rfl⟩
  unfold dcOkChanged
  refine .ite (fun active => ?_) fun _ => keeps_recount _ (.inr rfl) rfl rfl
  simp only [State.modSupply_supply_self, Bool.and_eq_true, decide_eq_true_eq] at active
  exact keeps_changeSupply .failed _ rfl rfl (by rw [active.1]; exact nofun) nofun

theorem keeps_cmdSetSupply (supply : Byte) (override : BitVec 16) (permit : P (.sets .supply)) :
    KeepsBut O P s (cmdSetSupply supply override s) := by
  unfold cmdSetSupply
  split
  · exact .answer ..
  · exact .trans (keeps_recount _ (.inl permit) rfl rfl) (.answer ..)

/-- The power policy set, before B is recomputed. -/
theorem keeps_cmdSetPowerPolicy (sel mode : Byte) (overhead capTimeout : BitVec 16) (permit : P (.sets .policy)) :
    KeepsBut O P s (cmdSetPowerPolicy sel mode overhead capTimeout s) := by
  unfold cmdSetPowerPolicy
  split
  · exact .answer ..
  · next m hm =>
    dsimp only
    refine .trans (.ite (fun _ => ?_) fun same => ?_) (.answer ..)
    · refine .close .supplies (.trans (.policy m _ _ _ _ (.inl permit) (fun o => absurd (.inr rfl) o) fun _ h => h)
        (keeps_recomputeBudget (Opening.here ..))) fun _ ⟨count, flight, _⟩ => suppliesOk_recomputeBudget ⟨count, flight⟩
    · simp only [Bool.or_eq_true, decide_eq_true_eq, not_or, Classical.not_not] at same
      obtain ⟨rfl, overhead⟩ := same
      refine .policy s.alloc.mode _ _ _ _ (.inl permit) (fun _ h => ?_) fun _ h => h
      rw [overhead]
      exact h

theorem keeps_supplyRead (r : Option IdRead)
    (ident : ¬ O .supplies → SuppliesOk s → r.isSome = true → (s.supply i).state = .ident)
    (ok : ¬ O .store → StoreOk s → ∀ x, r = some x → (s.supply i).state = .ident ∧ 1 ≤ x.nextBlock ∧ 0 ∉ x.retry ∧
      (x.phase = .header → ∀ k, (slotAt s k).owner ≠ some (.supply i))) :
    KeepsBut O P s (setRead (.supply i) r s) := by
  have supply : ∀ j, (setRead (.supply i) r s).supply j = if j = i then { s.supply i with read := r } else s.supply j :=
    fun j => State.modSupply_supply ..
  refine .supplies _ (.inr (funext fun j => ?_)) (fun o h => ?_) fun o h => ?_
  · refine (congrArg Supply.override (supply j)).trans ?_
    split
    case isTrue e => subst e; rfl
    case isFalse => rfl
  · have known := ident o h
    obtain ⟨count, flight, raw, budget⟩ := h
    have counted : ∀ j, ((setRead (.supply i) r s).supply j).counted = (s.supply j).counted := by
      intro j
      rw [supply]
      split
      case isTrue e => subst e; rfl
      case isFalse => rfl
    refine ⟨fun j => ?_, fun j => ?_, ?_, budget⟩
    · show ((setRead (.supply i) r s).supply j).counted = countedCapacity ((setRead (.supply i) r s).supply j)
      rw [supply]
      split
      case isTrue e => subst e; exact count j
      case isFalse => exact count j
    · show ((setRead (.supply i) r s).supply j).read.isSome = true → ((setRead (.supply i) r s).supply j).state = .ident
      rw [supply]
      split
      case isTrue e => subst e; exact known
      case isFalse => exact flight j
    · show s.alloc.raw = rawCapacity s.alloc.mode fun j => ((setRead (.supply i) r s).supply j).counted
      simp only [counted]
      exact raw
  · have known := ok o h
    have ⟨_, _, _, present, _⟩ := h
    exact h.supply (fun p => { p with read := r }) (fun ⟨k, hk⟩ => present k i hk) known

/-- An owner's read set to one that the laws allow, or ended. -/
theorem keeps_setRead (o : Owner) (r : Option IdRead)
    (ident : ∀ i, o = .supply i → ¬ O .supplies → SuppliesOk s → r.isSome = true → (s.supply i).state = .ident)
    (ok : ¬ O .store → StoreOk s → ∀ x, r = some x → ownerIdent s o ∧ 1 ≤ x.nextBlock ∧ 0 ∉ x.retry ∧
      (x.phase = .header → ∀ k, (slotAt s k).owner ≠ some o)) : KeepsBut O P s (setRead o r s) := by
  cases o with
  | bay b =>
    refine keeps_bayRead r fun o h => ⟨fun some => ?_, fun x hx => (ok o h x hx).2⟩
    obtain ⟨x, hx⟩ := Option.isSome_iff_exists.mp some
    exact (ok o h x hx).1
  | supply i => exact keeps_supplyRead r (ident i rfl) ok

theorem keeps_endRead (o : Owner) : KeepsBut O P s (setRead o none s) :=
  keeps_setRead o none (fun _ _ _ _ => nofun) fun _ _ => nofun

theorem keeps_placeRequest (o : Owner) (n : Option Nat) : KeepsBut O P s (placeRequest o n s) := by
  cases o with
  | bay b => exact .modLink b fun l => { l with identRequest := n }
  | supply i => exact .loose ..

theorem changeSupply_frame (i : SupIx) (st : SupplyState) (s : State) : (changeSupply i st s).store = s.store ∧
    ((changeSupply i st s).supply i).state = st ∧ ((changeSupply i st s).supply i).read = (s.supply i).read := by
  have told := changeSupply_eq i st (fun p => p) s
  rw [State.modSupply_id] at told
  rw [told]
  have pass := recomputeBudget_step (tellSupply i (s.supply i).state st
    (s.modSupply i fun p => ({ p with state := st } : Supply).recounted))
  have supply : (recomputeBudget (tellSupply i (s.supply i).state st
      (s.modSupply i fun p => ({ p with state := st } : Supply).recounted))).supply i =
        ({ s.supply i with state := st } : Supply).recounted := by
    rw [State.supply, pass.supplies, tellSupply_supplies]
    exact State.modSupply_supply_self ..
  rw [supply]
  refine ⟨pass.store.trans ?_, rfl, rfl⟩
  unfold tellSupply
  dsimp only
  split
  · exact raise_store ..
  · split <;> exact raise_store ..

/-- An ABSENT supply's record holds no slot. -/
theorem StoreOk.absent (h : StoreOk s) (absent : (s.supply i).state = .absent) (k : Fin 128) :
    (slotAt s k).owner ≠ some (.supply i) := by
  obtain ⟨-, -, -, present, -⟩ := h
  exact fun hk => present k i hk absent

theorem keeps_supplyInserted (absent : (s.supply i).state = .absent) : KeepsBut O P s (supplyInserted i s) := by
  unfold supplyInserted
  refine keeps_of_law .store fun Q law => .trans (keeps_changeSupply (i := i) .ident
    (fun p => { p with highLine := none, lowLine := none, lineLow := false }) rfl rfl (fun _ => .inr rfl) nofun) ?_
  obtain ⟨store, state, -⟩ := changeSupply_frame i .ident
    (s.modSupply i fun p => { p with highLine := none, lowLine := none, lineLow := false })
  refine .trans (keeps_setRead (.supply i) _ (fun j e _ _ _ => by cases e; exact state) fun o _ x hx => ?_) (keeps_placeRequest ..)
  cases hx
  refine ⟨state, Nat.le_refl 1, List.not_mem_nil, fun _ k => ?_⟩
  rw [slotAt, store]
  exact StoreOk.absent (law o) absent k

theorem keeps_abandonSupplyTxn : KeepsBut O P s (abandonSupplyTxn i s) := by
  unfold abandonSupplyTxn
  exact .trans (keeps_placeRequest ..) (.ite (fun _ => .loose ..) fun _ => .refl _)

theorem setRecord_supply (r : Option RecordState) : ((setRecord (.supply i) r s).supply i).state = (s.supply i).state ∧
    ((setRecord (.supply i) r s).supply i).read = (s.supply i).read := by
  have self := State.modSupply_supply_self s i fun p => { p with record := r }
  rw [setRecord, self]
  exact ⟨rfl, rfl⟩

theorem abandonSupplyTxn_supplies : (abandonSupplyTxn i s).supplies = s.supplies := by
  unfold abandonSupplyTxn
  dsimp only
  split <;> rfl

theorem freeRecord_supplies (o : Owner) : (freeRecord o s).supplies = s.supplies := by rw [freeRecord_eq]

theorem keeps_supplyAbsence : KeepsBut O P s (supplyAbsence i s) := by
  unfold supplyAbsence
  dsimp only
  refine .trans (keeps_endRead (.supply i)) (.trans (keeps_abandonSupplyTxn (i := i)) ?_)
  have read : ((abandonSupplyTxn i (setRead (.supply i) none s)).supply i).read = none := by
    rw [State.supply, abandonSupplyTxn_supplies]
    exact congrArg Supply.read (State.modSupply_supply_self ..)
  generalize abandonSupplyTxn i (setRead (.supply i) none s) = v at read ⊢
  refine keeps_of_law .store fun Q law => .trans (keeps_releaseRecord (.supply i)) ?_
  refine keeps_changeSupply .absent _ rfl rfl (fun _ => .inl ?_) fun _ o _ k => StoreOk.released (law o) _ k
  show ((releaseRecord (.supply i) v).supply i).read = none
  rw [releaseRecord, (setRecord_supply _).2, State.supply, freeRecord_supplies]
  exact read

/-- The run counts at a presence sample of a supply. -/
def Supply.samplePresence (present : Bool) (p : Supply) : Supply :=
  { p with presentRun := if present then p.presentRun + 1 else 0
           absentRun := if present then 0 else p.absentRun + 1 }

theorem supplyPresence_eq (i : SupIx) (present : Bool) (s : State) : supplyPresence i present s =
    let t := s.modSupply i (Supply.samplePresence present)
    match (t.supply i).state with
    | .absent => if 20 ≤ (t.supply i).presentRun then supplyInserted i t else t
    | .ident | .active | .failed | .unread => if 2 ≤ (t.supply i).absentRun then supplyAbsence i t else t := rfl

theorem keeps_supplyPresence (present : Bool) : KeepsBut O P s (supplyPresence i present s) := by
  rw [supplyPresence_eq]
  refine .trans (.minorSupply i (Supply.samplePresence present) ⟨rfl, rfl, rfl, rfl, rfl⟩) ?_
  generalize s.modSupply i (Supply.samplePresence present) = v
  dsimp only
  split
  · next h => exact .ite (fun _ => keeps_supplyInserted h) fun _ => .refl _
  all_goals exact .ite (fun _ => keeps_supplyAbsence) fun _ => .refl _

end Sys2Proof.Machine

namespace Sys2Proof.Machine

variable {O : Law → Prop} {P : Permit → Prop} {s t u : State} {b : BayIx}

/-! ### The permits of the moves -/

theorem needs_off {st : BayState} (permit : P .inDark) (from_ : st.mainPowered = true ∨ st = .ident) :
    ∀ p ∈ st.needs .off, P p := by
  cases st <;> first
    | exact one_permit rfl permit
    | exact absurd from_ (by decide)

theorem needs_fault {st : BayState} (permit : P .inFault) (from_ : st.mainPowered = true ∨ st = .ident) :
    ∀ p ∈ st.needs .fault, P p := by
  cases st <;> first
    | exact one_permit rfl permit
    | exact absurd from_ (by decide)

theorem needs_empty {st : BayState} (dark : P .inDark) (fault : P .outFault) : ∀ p ∈ st.needs .empty, P p := by
  intro p hp
  cases st <;> simp [BayState.needs, BayState.led] at hp <;> rcases hp with rfl | rfl <;> assumption

/-! ### The ends of main power (R7, R9, R98, R102) -/

theorem keeps_powerOffToOff (detail : Nat) (main : (s.bay b).state.mainPowered = true) (permit : P .inDark) :
    KeepsBut O P s (powerOffToOff b detail s) := by
  unfold powerOffToOff
  exact .trans (keeps_powerOffInto .off main (.inl rfl) (needs_off permit (.inl main)))
    (.trans (.raise ..) keeps_admissionPass)

/-- What entry to FAULT tells, once the bay is in FAULT. -/
theorem keeps_tellFault (cause : FaultCause) (code : Int) (pass : Bool) : KeepsBut O P s
    (let u := raiseCondition (.bayFault b) (raise .bayFault (.bay b) cause.code code
      (s.modBay b fun y => { y with faultCause := some cause }))
     if pass then admissionPass u else u) := by
  refine .trans (t := raiseCondition (.bayFault b) (raise .bayFault (.bay b) cause.code code
      (s.modBay b fun y => { y with faultCause := some cause }))) ?_ (.ite (fun _ => keeps_admissionPass) fun _ => .refl _)
  exact .trans (.minor b _ ⟨rfl, rfl, rfl, rfl, rfl, rfl, rfl, rfl, rfl⟩) (.trans (.raise ..) (.raiseCondition _))

theorem enterFault_eq (b : BayIx) (cause : FaultCause) (s : State) : enterFault b cause s =
    (let u := raiseCondition (.bayFault b) (raise .bayFault (.bay b) cause.code (s.bay b).state.code
      ((setState b .fault (if (s.bay b).state.mainPowered then powerOff b s else s)).modBay b
        fun y => { y with faultCause := some cause }))
     if (s.bay b).state.mainPowered then admissionPass u else u) := rfl

theorem keeps_enterFault (cause : FaultCause)
    (was : (s.bay b).state.mainPowered = true ∨ (s.bay b).state = .ident ∧ (s.bay b).read = none)
    (permit : P .inFault) : KeepsBut O P s (enterFault b cause s) := by
  rw [enterFault_eq]
  refine .trans (t := setState b .fault (if (s.bay b).state.mainPowered then powerOff b s else s)) ?_ (keeps_tellFault ..)
  have permits := needs_fault permit (was.imp_right And.left)
  split
  case isTrue main => exact keeps_powerOffInto .fault main (.inr rfl) permits
  case isFalse dry =>
    obtain ⟨ident, read⟩ := was.resolve_left dry
    exact keeps_setState .fault (.inl ident) (.inr (.inl rfl)) (fun _ => read) permits

theorem keeps_endStop (detail : Nat) (permit : P .inDark) : KeepsBut O P s (endStop b detail s) := by
  unfold endStop
  exact .ite (fun h => keeps_powerOffToOff detail (by rw [h]; rfl) permit) fun _ => .refl _

theorem keeps_endShed (detail : Nat) (permit : P .inDark) : KeepsBut O P s (endShed b detail s) := by
  unfold endShed
  refine .ite (fun h => .ite (fun _ => ?_) fun _ => keeps_powerOffToOff detail (by rw [h]; rfl) permit) fun _ => .refl _
  exact .trans (keeps_powerOffIntoWaiting (by rw [h]; rfl) (by rw [h]; exact no_permits rfl)) keeps_admissionPass

/-! ### Requests and the button (R14, R16 to R19) -/

theorem keeps_admittedToOff (was : (s.bay b).state = .admitted) (permit : P .inDark) :
    KeepsBut O P s (admittedToOff b s) := .trans (keeps_admittedOff was permit) keeps_admissionPass

theorem keeps_enterStopping (was : (s.bay b).state = .online) : KeepsBut O P s (enterStopping b s) := by
  unfold enterStopping
  exact keeps_forward .stopping _ (by rw [was]; rfl) (.inl rfl) (by rw [was]; exact nofun)
    fun _ => ⟨rfl, rfl, rfl, rfl, rfl, rfl, rfl, rfl, rfl⟩

theorem keeps_stopBay (permit : P .inDark) : KeepsBut O P s (stopBay b s) := by
  unfold stopBay
  split
  · next h => exact keeps_waitingToOff h permit
  · next h => exact keeps_admittedToOff h permit
  · next h => exact keeps_powerOffToOff offForced (by rw [h]; rfl) permit
  · next h => exact keeps_enterStopping h
  · exact .minor b _ ⟨rfl, rfl, rfl, rfl, rfl, rfl, rfl, rfl, rfl⟩
  all_goals exact .refl _

theorem keeps_forceOff (permit : P .inDark) : KeepsBut O P s (forceOff b s) := by
  unfold forceOff
  split
  · next h => exact keeps_waitingToOff h permit
  · next h => exact keeps_admittedToOff h permit
  · next h => exact keeps_powerOffToOff offForced (by rw [h]; rfl) permit
  · next h => exact keeps_powerOffToOff offForced (by rw [h]; rfl) permit
  · next h => exact keeps_powerOffToOff offForced (by rw [h]; rfl) permit
  · next h => exact keeps_powerOffToOff offForced (by rw [h]; rfl) permit
  all_goals exact .refl _

theorem keeps_turnOn (permit : (s.bay b).state = .off → P .outDark) : KeepsBut O P s (turnOn b s) := by
  unfold turnOn
  exact .ite (fun h => .trans (keeps_enterWaiting (.inl h) (by rw [h]; exact one_permit rfl (permit h)))
    keeps_admissionPass) fun _ => .refl _

theorem keeps_onBay {act : BayIx → State → State} (bay : Byte) (h : ∀ b, KeepsBut O P s (act b s)) :
    KeepsBut O P s (onBay bay act s) := by
  unfold onBay
  split
  · exact .answer ..
  · exact h _

theorem KeepsBut.answerState (h : KeepsBut O P s t) (st : Status) (b : BayIx) : KeepsBut O P s (answerState st b t) :=
  h.trans (.answer ..)

theorem keeps_answerState (st : Status) (b : BayIx) : KeepsBut O P s (answerState st b s) := .answer ..

theorem keeps_actOn (b : BayIx) (permit : P .outDark) : KeepsBut O P s (actOn b s) := by
  unfold actOn
  split
  case h_4 => exact (keeps_turnOn fun _ => permit).answerState ..
  all_goals exact keeps_answerState ..

theorem keeps_actStop (b : BayIx) (permit : P .inDark) : KeepsBut O P s (actStop b s) := by
  unfold actStop
  split
  case h_6 | h_7 | h_8 | h_9 | h_10 => exact (keeps_stopBay permit).answerState ..
  all_goals exact keeps_answerState ..

theorem keeps_actForceOff (b : BayIx) (permit : P .inDark) : KeepsBut O P s (actForceOff b s) := by
  unfold actForceOff
  split
  case h_5 | h_6 | h_7 | h_8 | h_9 | h_10 => exact (keeps_forceOff permit).answerState ..
  all_goals exact keeps_answerState ..

theorem keeps_actClearFault (b : BayIx) (permit : P .outFault) : KeepsBut O P s (actClearFault b s) := by
  unfold actClearFault
  split
  case h_3 h =>
    have fault : ((removeCondition (.bayFault b) s).bay b).state = .fault := h
    exact .trans (.removeCondition _) ((keeps_reidentify (.inr fault) (by
      rw [fault]; exact one_permit rfl permit)).answerState ..)
  all_goals exact keeps_answerState ..

theorem keeps_actRecheck (b : BayIx) (off : (s.bay b).state = .off → P .outDark) (permit : P .outFault) :
    KeepsBut O P s (actRecheck b s) := by
  unfold actRecheck
  split
  case h_4 h => exact (keeps_reidentify (.inl h) (by rw [h]; exact one_permit rfl (off h))).answerState ..
  case h_5 h =>
    have fault : ((endCondition (.bayFault b) s).bay b).state = .fault := h
    exact .trans (.endCondition _) ((keeps_reidentify (.inr fault) (by
      rw [fault]; exact one_permit rfl permit)).answerState ..)
  all_goals exact keeps_answerState ..

/-! ### Removal (R12) -/

theorem powerOff_or_not (b : BayIx) (s : State) : (if (s.bay b).state.mainPowered then powerOff b s else s) =
    if (s.bay b).state.mainPowered then unplug b (purged b s) else purged b s := by
  split
  case isTrue => exact powerOff_eq_purged b s
  case isFalse dry =>
    rw [purged, if_neg]
    intro f
    apply dry
    cases h : (s.bay b).state <;> rw [h] at f <;> first | rfl | cases f

theorem removeBlade_eq (b : BayIx) (s : State) : removeBlade b s =
    let t := raise .bayRemoved (.bay b) 0 (s.bay b).state.code (removeCondition (.bayFault b) (eject b (purged b s)))
    if 0 < (s.bay b).alloc then admissionPass t else t := by
  unfold removeBlade eject
  dsimp only
  rw [powerOff_or_not, purged_bay]

theorem keeps_removeBlade (dark : P .inDark) (fault : P .outFault) : KeepsBut O P s (removeBlade b s) := by
  rw [removeBlade_eq]
  dsimp only
  refine .trans (t := raise .bayRemoved (.bay b) 0 (s.bay b).state.code
    (removeCondition (.bayFault b) (eject b (purged b s)))) ?_ (.ite (fun _ => keeps_admissionPass) fun _ => .refl _)
  refine .trans keeps_purged (.trans (keeps_eject (fun f => ?_) (needs_empty dark fault))
    (.trans (.removeCondition _) (.raise ..)))
  rw [purged_bay] at f
  exact purged_noLearned f

/-! ### Samples and timers (R10 to R14, R92 to R102) -/

/-- What a presence sample may do. -/
def presencePermits (st : BayState) : Permit → Prop := fun p =>
  if st = .empty then p = .outDark else p = .inDark ∨ p = .outFault

theorem samplePresence_core (present : Bool) (y : Bay) : y.SameCore (y.samplePresence present) :=
  ⟨rfl, rfl, rfl, rfl, rfl, rfl, rfl, rfl, rfl⟩

theorem keeps_presence (present : Bool) : KeepsBut O (presencePermits (s.bay b).state) s (presence b present s) := by
  have state : ((s.modBay b (Bay.samplePresence present)).bay b).state = (s.bay b).state := by
    rw [State.modBay_bay_self]; rfl
  rw [← state]
  unfold presence
  dsimp only
  refine .trans (.minor b (Bay.samplePresence present) (samplePresence_core ..)) ?_
  generalize s.modBay b (Bay.samplePresence present) = v
  have removal : (v.bay b).state ≠ .empty →
      KeepsBut O (presencePermits (v.bay b).state) v (if 2 ≤ (v.bay b).absentRun then removeBlade b v else v) := by
    intro ne
    refine .ite (fun _ => keeps_removeBlade ?_ ?_) fun _ => .refl _ <;> simp [presencePermits, ne]
  split
  · next h =>
    refine .ite (fun _ => ?_) fun _ => .refl _
    refine .trans (.minor b (fun y => { y with presentRun := 1 }) ⟨rfl, rfl, rfl, rfl, rfl, rfl, rfl, rfl, rfl⟩) ?_
    have empty : ((v.modBay b fun y => { y with presentRun := 1 }).bay b).state = .empty := by
      rw [State.modBay_bay_self]; exact h
    exact keeps_setState .settling (.inr (.inr (.inr (.inl empty)))) (.inr (.inr ⟨rfl, empty⟩))
      (by rw [empty]; exact nofun) (by rw [empty]; exact one_permit rfl (by rw [presencePermits, if_pos h]))
  · next h =>
    refine .ite (fun _ => .ite (fun _ => .trans (keeps_enterIdent (.inl h) ?_ ?_) (.raise ..)) fun _ => .refl _) fun _ =>
      keeps_enterEmpty h (by rw [presencePermits, h]; exact .inl rfl)
    · intro _ ⟨_, _, present, _⟩ i hi
      exact (present i b hi).2 h
    · rw [h]; exact no_permits rfl
  all_goals next h => exact removal (by rw [h]; exact nofun)

/-- What a sample of the button may do. -/
def buttonPermits (st : BayState) : Permit → Prop := fun p => if st = .off then p = .outDark else p = .inDark

theorem keeps_attentionRecord (b : BayIx) (f : Attention → Attention) :
    KeepsBut O P s (s.modBay b fun y => { y with attention := f y.attention }) :=
  .minor b _ ⟨rfl, rfl, rfl, rfl, rfl, rfl, rfl, rfl, rfl⟩

theorem keeps_attentionPress (permit : (s.bay b).state = .off → P .outDark) : KeepsBut O P s (attentionPress b s) := by
  unfold attentionPress
  dsimp only
  refine .trans (keeps_attentionRecord b fun a => { a with pressed := true, timeHeld := 0 }) ?_
  have state : ((s.modBay b fun y => { y with attention := { y.attention with pressed := true, timeHeld := 0 } }).bay b).state
      = (s.bay b).state := by rw [State.modBay_bay_self]
  generalize s.modBay b _ = v at state ⊢
  refine .trans (.raise .attnPress (.bay b) 0 (v.bay b).state.code) (.ite (fun _ => keeps_turnOn ?_) fun _ => .refl _)
  rw [raise_bay, state]
  exact permit

theorem keeps_attentionHold (permit : (s.bay b).state ≠ .off → P .inDark) : KeepsBut O P s (attentionHold b s) := by
  unfold attentionHold
  dsimp only
  generalize min ((s.bay b).attention.holdCount + 1) 255 = n
  refine .trans (keeps_attentionRecord b fun a => { a with holdCount := n }) ?_
  have state : ((s.modBay b fun y => { y with attention := { y.attention with holdCount := n } }).bay b).state
      = (s.bay b).state := by rw [State.modBay_bay_self]
  generalize s.modBay b _ = v at state ⊢
  refine .trans (.raise .attnHold (.bay b) 0 n) (.ite (fun h => keeps_stopBay (permit ?_)) fun _ =>
    .ite (fun h => keeps_forceOff (permit ?_)) fun _ => .refl _)
  · simp only [Bool.and_eq_true, decide_eq_true_eq, raise_bay, state] at h
    rw [h.2]
    exact nofun
  · simp only [Bool.and_eq_true, raise_bay, state] at h
    exact fun off => by rw [off] at h; cases h.2

theorem keeps_attention (pressed : Bool) : KeepsBut O (buttonPermits (s.bay b).state) s (attention b pressed s) := by
  unfold attention
  refine .ite (fun _ => .refl _) fun _ => ?_
  dsimp only
  refine .trans (keeps_attentionRecord b (Attention.sample pressed)) ?_
  have state : ((s.modBay b fun y => { y with attention := y.attention.sample pressed }).bay b).state = (s.bay b).state := by
    rw [State.modBay_bay_self]
  rw [← state]
  generalize (s.modBay b fun y => { y with attention := y.attention.sample pressed }) = v
  refine .ite (fun _ => ?_) fun _ => .ite (fun _ => keeps_attentionPress fun off => by rw [buttonPermits, if_pos off])
    fun _ => .refl _
  generalize (v.bay b).attention.timeHeld + 10 = n
  refine .trans (keeps_attentionRecord b fun a => { a with timeHeld := n }) ?_
  have state : ((v.modBay b fun y => { y with attention := { y.attention with timeHeld := n } }).bay b).state
      = (v.bay b).state := by rw [State.modBay_bay_self]
  rw [← state]
  generalize v.modBay b _ = w
  have hold : KeepsBut O (buttonPermits (w.bay b).state) w (if holdDue n then attentionHold b w else w) :=
    .ite (fun _ => keeps_attentionHold fun on => by rw [buttonPermits, if_neg on]) fun _ => .refl _
  exact .ite (fun _ => hold.trans (keeps_attentionRecord b fun a => { a with pressed := false, timeHeld := 0, holdCount := 0 }))
    fun _ => hold

theorem keeps_pgood (high : Bool) (permit : P .inFault) : KeepsBut O P s (pgood b high s) := by
  unfold pgood
  refine .ite (fun _ => .refl _) fun _ => ?_
  dsimp only
  refine .trans (.minor b (fun y => { y with pgoodHigh := if high then y.pgoodHigh + 1 else 0
                                             pgoodLow := if high then 0 else y.pgoodLow + 1 })
    ⟨rfl, rfl, rfl, rfl, rfl, rfl, rfl, rfl, rfl⟩) ?_
  generalize s.modBay b _ = v
  refine .ite (fun h => keeps_goOnline ?_) fun _ => .ite (fun h => keeps_enterFault _ (.inl ?_) permit) fun _ => .refl _
  · simp only [Bool.and_eq_true, decide_eq_true_eq] at h
    exact h.1.1
  · simp only [Bool.and_eq_true] at h
    cases k : (v.bay b).state <;> rw [k] at h <;> first | rfl | cases h.1

theorem keeps_shedForCap : KeepsBut O P s (shedForCap b s) := by
  unfold shedForCap
  exact .ite (fun h => .trans (keeps_shedOnlineBay _ h) keeps_shedPass) fun _ => .refl _

theorem keeps_capFailure (level : Nat) : KeepsBut O P s (capFailure b level s) := by
  unfold capFailure
  exact .ite (fun _ => keeps_shedForCap) fun _ => .refl _

end Sys2Proof.Machine

namespace Sys2Proof.Machine

variable {O : Law → Prop} {P : Permit → Prop} {s t u : State} {o : Owner}

/-- The laws of the state before a chain of operations may be used to show that the chain keeps each of them. -/
theorem keeps_of_laws (h : ∀ Q : Law → Prop, (∀ l, ¬ Q l → l.holds s) → KeepsBut Q P s t) : KeepsBut O P s t := by
  have k := h (fun l => O l ∨ ¬ l.holds s) fun l n => Classical.not_not.mp fun no => n (.inr no)
  exact { k with law := fun l o hl => k.law l (not_or.mpr ⟨o, Classical.not_not.mpr hl⟩) hl }

/-! ### Reads and records of an owner -/

theorem setRead_bay_read (b : BayIx) (r : Option IdRead) (s : State) :
    (setRead (.bay b) r s).bay b = { s.bay b with read := r } := State.modBay_bay_self ..

theorem readOf_setRead (o : Owner) (r : Option IdRead) (s : State) : readOf o (setRead o r s) = r := by
  cases o
  · exact congrArg Bay.read (State.modBay_bay_self ..)
  · exact congrArg Supply.read (State.modSupply_supply_self ..)

theorem setRead_setRead (o : Owner) (r q : Option IdRead) (s : State) : setRead o q (setRead o r s) = setRead o q s := by
  cases o
  · simp only [setRead, State.modBay, State.bay, Tab.get_set_self, Tab.set_set]
  · simp only [setRead, State.modSupply, State.supply, Tab.get_set_self, Tab.set_set]

/-- The state with another inventory store. -/
def State.withStore (s : State) (x : Store) : State := { s with store := x }

theorem setRead_withStore (o : Owner) (r : Option IdRead) (x : Store) :
    setRead o r (s.withStore x) = (setRead o r s).withStore x := by
  cases o <;> rfl

theorem ownerIdent_setRead (r : Option IdRead) : ownerIdent (setRead o r s) o ↔ ownerIdent s o := by
  cases o <;> simp only [ownerIdent, setRead, State.modBay_bay_self, State.modSupply_supply_self]

theorem ownerPresent_of_ident (h : ownerIdent s o) : ownerPresent s o := by
  cases o with
  | bay b =>
    have ident : (s.bay b).state = .ident := h
    simp [ownerPresent, ident]
  | supply i =>
    have ident : (s.supply i).state = .ident := h
    simp [ownerPresent, ident]

theorem StoreOk.flight (h : StoreOk s) (o : Owner) : FlightOk o s := (storeOk_iff.mp h o).2.2

theorem SuppliesOk.ident (h : SuppliesOk s) {i : SupIx} {r : IdRead} (read : readOf (.supply i) s = some r) :
    (s.supply i).state = .ident := by
  obtain ⟨-, flight, -⟩ := h
  exact flight i (Option.isSome_iff_exists.mpr ⟨r, read⟩)

/-! ### Ends of a read (R44 to R46, R50) -/

theorem keeps_supplyState {i : SupIx} (st : SupplyState)
    (idle : (s.supply i).state = .ident → (s.supply i).read = none ∨ st = .ident) (present : st ≠ .absent) :
    KeepsBut O P s (changeSupply i st s) := by
  have moved := keeps_changeSupply (O := O) (P := P) (s := s) (i := i) st (fun p => p) rfl rfl idle
    fun absent => absurd absent present
  rwa [State.modSupply_id] at moved

theorem keeps_readFailed (cause : FaultCause) (data : Int) (permit : P .inFault) :
    KeepsBut O P s (readFailed o cause data s) := by
  unfold readFailed
  dsimp only
  refine .trans (keeps_endRead o) ?_
  cases o with
  | bay b =>
    refine .trans (.raise .bayIdentFailed (.bay b) cause.code data) (.ite (fun h => keeps_enterFault cause (.inr ⟨h, ?_⟩) permit)
      fun _ => .refl _)
    rw [raise_bay, setRead_bay_read]
  | supply i =>
    exact keeps_supplyState .unread (fun _ => .inl (congrArg Supply.read (State.modSupply_supply_self ..))) nofun

theorem keeps_readEnded (st : RecordState) (invalid : Nat) (permit : P .inDark) :
    KeepsBut O P s (readEnded o st invalid s) := by
  unfold readEnded
  dsimp only
  refine .trans (keeps_endRead o) (.trans (keeps_setRecord o (some st)) ?_)
  cases o with
  | bay b =>
    have read : ((setRecord (.bay b) (some st) (setRead (.bay b) none s)).bay b).read = none := by
      rw [setRecord, State.modBay_bay_self, setRead_bay_read]
    generalize setRecord (.bay b) (some st) (setRead (.bay b) none s) = v at read ⊢
    dsimp only
    refine .trans (.raise .bayIdentified (.bay b) st.code invalid) ?_
    rw [← raise_bay .bayIdentified (.bay b) st.code invalid v b] at read
    generalize raise .bayIdentified (.bay b) st.code invalid v = w at read ⊢
    refine .ite (fun h => .ite (fun _ => ?_) fun _ => ?_) fun _ => .refl _
    · exact .trans (keeps_enterWaiting (.inr ⟨h, read⟩) (by rw [h]; exact no_permits rfl)) keeps_admissionPass
    · exact keeps_setState .off (.inl h) (.inl rfl) (fun _ => read) (needs_off permit (.inr h))
  | supply i =>
    refine keeps_supplyState _ (fun _ => .inl ?_) (by split <;> exact nofun)
    rw [(setRecord_supply _).2]
    exact congrArg Supply.read (State.modSupply_supply_self ..)

/-! ### Acceptance of a header (R46, R47) -/

theorem keeps_copyPowerFields (d : List Byte)
    (ident : ∀ i, o = .supply i → ¬ O .supplies → SuppliesOk s → (s.supply i).state = .ident) :
    KeepsBut O P s (copyPowerFields o d s) := by
  cases o with
  | bay b =>
    exact .minor b (fun y => { y with header := some ⟨headerPowerA d, headerPowerB d, headerCappable d, headerClass d⟩ })
      ⟨rfl, rfl, rfl, rfl, rfl, rfl, rfl, rfl, rfl⟩
  | supply i =>
    let f : Supply → Supply := fun p => { p with highLine := some (headerPowerA d), lowLine := some (headerPowerB d) }
    have same : ∀ {α : Type} (g : Supply → α), g (f (s.supply i)) = g (s.supply i) →
        ∀ j, g ((s.modSupply i f).supply j) = g (s.supply j) := by
      intro α g h j
      rw [State.modSupply_supply]
      split
      case isTrue e => subst e; exact h
      case isFalse => rfl
    refine .supplies _ (.inr (funext (same Supply.override rfl))) (fun o h => ?_) fun _ h =>
      StoreOk.congr (s := s) (t := s.modSupply i f) rfl (fun _ => rfl) (fun _ => rfl) (same Supply.state rfl) (same Supply.read rfl) h
    have state : (s.supply i).state = .ident := ident i rfl o h
    have capacity := same countedCapacity (by simp only [countedCapacity, f, state])
    obtain ⟨count, flight, raw, budget⟩ := h
    refine ⟨fun j => ?_, fun j => ?_, ?_, budget⟩
    · exact ((same Supply.counted rfl j).trans (count j)).trans (capacity j).symm
    · intro read
      exact (same Supply.state rfl j).trans (flight j ((congrArg Option.isSome (same Supply.read rfl j)).symm.trans read))
    · show s.alloc.raw = rawCapacity s.alloc.mode fun j => ((s.modSupply i f).supply j).counted
      rw [funext (same Supply.counted rfl)]
      exact raw

theorem copyPowerFields_frame (o : Owner) (d : List Byte) (s : State) : (copyPowerFields o d s).store = s.store ∧
    readOf o (copyPowerFields o d s) = readOf o s ∧ (ownerIdent (copyPowerFields o d s) o ↔ ownerIdent s o) := by
  cases o <;> refine ⟨rfl, ?_, ?_⟩ <;>
    simp only [readOf, ownerIdent, copyPowerFields, State.modBay_bay_self, State.modSupply_supply_self]

/-- A header's record in the store of a state. -/
theorem reserve_store {n : Nat} {d : List Byte} (hn : 1 ≤ n) (h : reserve o n s = some u) :
    writeBlock o 0 (some d) u = s.withStore (writeBlock o 0 (some d) u).store := by
  obtain ⟨start, v, rfl | rfl, -, rfl⟩ := reserve_some hn h <;> rfl

theorem StoreOk.accepted {n : Nat} {d : List Byte} (h : StoreOk s) (hn : 1 ≤ n) (count : n = headerCount d)
    (none : ∀ k, (slotAt s k).owner ≠ some o) (idle : readOf o s = .none) (present : ownerPresent s o)
    (reserved : reserve o n s = some u) : StoreOk (writeBlock o 0 (some d) u) := by
  obtain ⟨start, v, hv, run, rfl⟩ := reserve_some hn reserved
  have free : (∀ k, (slotAt (compact s) k).owner ≠ some o) := by
    have zero : slotsOf o (compact s) = 0 := by
      rw [compact_slotsOf, slotsOf_eq, List.length_eq_zero_iff, List.filter_eq_nil_iff]
      exact fun k _ => by simpa using none k
    rw [slotsOf_eq, List.length_eq_zero_iff, List.filter_eq_nil_iff] at zero
    exact fun k => by simpa using zero k (List.mem_finRange k)
  rcases hv with rfl | rfl
  · exact h.reserved count run none idle present
  · exact h.compacted.reserved count run free idle present

theorem reserve_congr {n : Nat} (store : t.store = s.store) :
    (reserve o n t).map State.store = (reserve o n s).map State.store := by
  have free : freeSlots t = freeSlots s := by rw [freeSlots, freeSlots, store]
  have compacted : (compact t).store = (compact s).store := by rw [compact, compact, store]
  have freed : freeSlots (compact t) = freeSlots (compact s) := by rw [freeSlots, freeSlots, compacted]
  unfold reserve
  rw [store, free]
  split
  · simp only [Option.map_some, reserveAt, store]
  · split
    · simp only [Option.map_some, reserveAt, compacted, freed]
    · rfl

/-- The store with a header's record, once the read is set aside. -/
theorem keeps_headerStored {n : Nat} {d : List Byte} (hn : 1 ≤ n) (count : n = headerCount d)
    (idle : readOf o s = none) (ok : ¬ O .store → ownerIdent s o ∧ ∀ k, (slotAt s k).owner ≠ some o)
    (reserved : reserve o n s = some u) : KeepsBut O P s (writeBlock o 0 (some d) u) := by
  rw [reserve_store hn reserved]
  refine .store _ fun open_ h => ?_
  obtain ⟨ident, free⟩ := ok open_
  have stored := h.accepted hn count free idle (ownerPresent_of_ident ident) reserved
  rw [reserve_store hn reserved] at stored
  exact stored

/-- A reservation reads nothing of the state but its store. -/
theorem reserve_setRead {n : Nat} (r : Option IdRead) {d : List Byte} (hn : 1 ≤ n) (reserved : reserve o n s = some u) :
    ∃ v, reserve o n (setRead o r s) = some v ∧ setRead o r (writeBlock o 0 (some d) u) = writeBlock o 0 (some d) v := by
  have store : (setRead o r s).store = s.store := by cases o <;> rfl
  have same := reserve_congr (o := o) (n := n) store
  rw [reserved] at same
  obtain ⟨v, hv, stores⟩ := Option.map_eq_some_iff.mp same
  refine ⟨v, hv, ?_⟩
  rw [reserve_store hn reserved, reserve_store hn hv, setRead_withStore, writeBlock, writeBlock, stores]

theorem readEnded_setRead (r : Option IdRead) (st : RecordState) (invalid : Nat) :
    readEnded o st invalid (setRead o r s) = readEnded o st invalid s := by
  simp only [readEnded, setRead_setRead]

theorem copyPowerFields_state (o : Owner) (d : List Byte) (i : SupIx) :
    ((copyPowerFields o d s).supply i).state = (s.supply i).state := by
  cases o with
  | bay b => rfl
  | supply j =>
    rw [copyPowerFields, State.modSupply_supply]
    split
    case isTrue e => subst e; rfl
    case isFalse => rfl

/-- The read that follows an accepted header. -/
theorem keeps_nextBlocks {r : IdRead} (ident : ∀ i, o = .supply i → ¬ O .supplies → (s.supply i).state = .ident)
    (ok : ¬ O .store → ownerIdent s o ∧ 1 ≤ r.nextBlock ∧ 0 ∉ r.retry ∧ r.phase ≠ .header) (n : Nat) :
    KeepsBut O P s (placeRequest o (some n) (setRead o (some r) s)) := by
  refine .trans (keeps_setRead o _ (fun i e o' _ _ => ident i e o') fun o' _ x hx => ?_) (keeps_placeRequest ..)
  cases hx
  obtain ⟨state, next, retry, phase⟩ := ok o'
  exact ⟨state, next, retry, fun h => absurd h phase⟩

theorem keeps_acceptHeader {r q : IdRead} {d : List Byte} (read : readOf o s = some q) (phase : q.phase = .header)
    (retry : r.retry = q.retry) (count : 1 ≤ headerCount d) (permit : P .inDark) :
    KeepsBut O P s (acceptHeader o r d s) := by
  unfold acceptHeader
  refine keeps_of_laws fun Q laws => ?_
  have supply : ∀ i, o = .supply i → ¬ Q .supplies → (s.supply i).state = .ident := by
    intro i e o'
    subst e
    exact SuppliesOk.ident (laws .supplies o') read
  dsimp only
  refine .trans (keeps_copyPowerFields (o := o) d fun i e o' _ => supply i e o') ?_
  obtain ⟨stores, reads, idents⟩ := copyPowerFields_frame o d s
  have states : ∀ i, o = .supply i → ¬ Q .supplies → ((copyPowerFields o d s).supply i).state = .ident :=
    fun i e o' => (copyPowerFields_state o d i).trans (supply i e o')
  have known : ¬ Q .store → ownerIdent (copyPowerFields o d s) o ∧ 0 ∉ q.retry ∧
      ∀ k, (slotAt (copyPowerFields o d s) k).owner ≠ some o := by
    intro o'
    obtain ⟨ident, -, clear, free⟩ := StoreOk.flight (laws .store o') o q read
    exact ⟨idents.mpr ident, clear, fun k => by rw [slotAt, stores]; exact free phase k⟩
  generalize copyPowerFields o d s = v at *
  split
  · exact .trans (.raise ..) (keeps_readEnded _ _ permit)
  · next u reserved =>
    obtain ⟨w, hw, stored⟩ := reserve_setRead none count reserved
    have set : ∀ r : IdRead, setRead o (some r) (writeBlock o 0 (some d) u) = setRead o (some r) (writeBlock o 0 (some d) w) := by
      intro r
      rw [← stored, setRead_setRead]
    have ended : readEnded o .complete 0 (writeBlock o 0 (some d) u) = readEnded o .complete 0 (writeBlock o 0 (some d) w) := by
      rw [← stored, readEnded_setRead]
    rw [set, ended]
    have aside : KeepsBut Q P v (writeBlock o 0 (some d) w) := by
      refine .trans (keeps_endRead o) (keeps_headerStored count rfl (readOf_setRead ..) (fun o' => ?_) hw)
      obtain ⟨ident, -, free⟩ := known o'
      exact ⟨(ownerIdent_setRead _).mpr ident, by cases o <;> exact free⟩
    have same : (∀ i, (writeBlock o 0 (some d) w).supply i = (setRead o none v).supply i) ∧
        (ownerIdent (writeBlock o 0 (some d) w) o ↔ ownerIdent v o) := by
      rw [reserve_store count hw]
      exact ⟨fun _ => rfl, .trans (by cases o <;> exact .rfl) (ownerIdent_setRead none)⟩
    refine aside.trans (.ite (fun _ => keeps_readEnded _ _ permit) fun _ => keeps_nextBlocks (fun i e o' => ?_) (fun o' => ?_) 1)
    · have state := states i e o'
      subst e
      rw [same.1, setRead, State.modSupply_supply_self]
      exact state
    · obtain ⟨ident, clear, -⟩ := known o'
      exact ⟨same.2.mpr ident, Nat.le_refl 1, retry ▸ clear, nofun⟩

/-! ### Outcomes of blocks (R43 to R49) -/

theorem headerCheck_count {blade : Bool} {d : List Byte} (h : headerCheck blade d = none) : 1 ≤ headerCount d := by
  refine Classical.byContradiction fun few => ?_
  have outside : (headerCount d = 0 || 12 < headerCount d) = true := Bool.or_eq_true_iff.mpr (.inl (decide_eq_true (by omega)))
  unfold headerCheck at h
  rw [if_pos outside] at h
  by_cases format : byteAt d 0 ≠ 1
  · rw [if_pos format] at h
    cases h
  · rw [if_neg format] at h
    by_cases kind : byteAt d 1 ≠ if blade then 1 else 2
    · rw [if_pos kind] at h
      cases h
    · rw [if_neg kind] at h
      cases h

theorem keeps_judgeHeader {r q : IdRead} {d : List Byte} (read : readOf o s = some q) (phase : q.phase = .header)
    (retry : r.retry = q.retry) (dark : P .inDark) (fault : P .inFault) : KeepsBut O P s (judgeHeader o r d s) := by
  unfold judgeHeader
  split
  · split
    · exact keeps_readFailed _ _ fault
    · next ok => exact .ite (fun _ => keeps_readFailed _ _ fault) fun _ =>
        keeps_acceptHeader read phase retry (headerCheck_count ok) dark
  · split
    · exact keeps_readFailed _ _ fault
    · next ok => exact keeps_acceptHeader read phase retry (headerCheck_count ok) dark

theorem keeps_headerOutcome {q : IdRead} (res : Except FailKind (List Byte)) (read : readOf o s = some q)
    (phase : q.phase = .header) (dark : P .inDark) (fault : P .inFault) :
    KeepsBut O P s (headerOutcome o q res s) := by
  unfold headerOutcome
  dsimp only
  split
  · exact keeps_judgeHeader read phase rfl dark fault
  · refine .ite (fun _ => ?_) fun _ => keeps_readFailed _ _ fault
    refine .trans (keeps_setRead o _ (fun i e _ h _ => ?_) fun _ h x hx => ?_) (keeps_placeRequest ..)
    · subst e; exact h.ident read
    · cases hx; exact h.flight o q read

theorem keeps_writeBlock {k : Nat} (later : ¬ O .store → 1 ≤ k) (data : Option (List Byte)) :
    KeepsBut O P s (writeBlock o k data s) := .store _ fun o' h => h.written (later o') data

/-- The next read of the blocks after a write, or the read set aside. -/
theorem keeps_goOn {q r : IdRead} (read : readOf o s = some q) (ok : 1 ≤ q.nextBlock → 0 ∉ q.retry →
      1 ≤ r.nextBlock ∧ 0 ∉ r.retry) (phase : r.phase ≠ .header) (n : Nat) :
    KeepsBut O P s (placeRequest o (some n) (setRead o (some r) s)) := by
  refine keeps_of_laws fun Q laws => keeps_nextBlocks (fun i e o' => ?_) (fun o' => ?_) n
  · subst e; exact SuppliesOk.ident (laws .supplies o') read
  · obtain ⟨ident, next, retry, -⟩ := StoreOk.flight (laws .store o') o q read
    obtain ⟨next, retry⟩ := ok next retry
    exact ⟨ident, next, retry, phase⟩

theorem readOf_writeBlock (k : Nat) (data : Option (List Byte)) : readOf o (writeBlock o k data s) = readOf o s := by
  cases o <;> rfl

/-- What a block of pass 1 leaves of the read and the store (R48). -/
def pass1Block (o : Owner) (r : IdRead) (res : Except FailKind (List Byte)) (s : State) : IdRead × State :=
  match res with
  | .ok d => (r, writeBlock o r.nextBlock (some d) s)
  | .error _ =>
    if r.retry.length < 8 then ({ r with retry := r.retry ++ [r.nextBlock] }, s)
    else ({ r with invalidCount := r.invalidCount + 1 }, writeBlock o r.nextBlock none s)

theorem pass1Outcome_eq (o : Owner) (r : IdRead) (res : Except FailKind (List Byte)) (s : State) :
    pass1Outcome o r res s =
      let i := r.nextBlock
      let (r, s) := pass1Block o r res s
      let r := { r with nextBlock := i + 1 }
      if i + 1 < r.blockCount.getD 0 then placeRequest o (some (i + 1)) (setRead o (some r) s)
      else match r.retry with
        | [] => readEnded o (storedState r.invalidCount) r.invalidCount s
        | j :: _ => placeRequest o (some j) (setRead o (some { r with phase := .pass2 }) s) := rfl

/-- What a block of pass 2 leaves of the read and the store (R49). -/
def pass2Block (o : Owner) (r : IdRead) (i : Nat) (res : Except FailKind (List Byte)) (s : State) : IdRead × State :=
  match res with
  | .ok d => (r, writeBlock o i (some d) s)
  | .error _ => ({ r with invalidCount := r.invalidCount + 1 }, writeBlock o i none s)

theorem pass2Outcome_eq (o : Owner) (r : IdRead) (res : Except FailKind (List Byte)) (s : State) :
    pass2Outcome o r res s =
      match r.retry with
      | [] => s
      | i :: rest =>
        let (r, s) := pass2Block o r i res s
        match rest with
        | [] => readEnded o (storedState r.invalidCount) r.invalidCount s
        | j :: _ => placeRequest o (some j) (setRead o (some { r with retry := rest }) s) := rfl

theorem keeps_pass1Outcome {q : IdRead} (res : Except FailKind (List Byte)) (read : readOf o s = some q)
    (phase : q.phase = .pass1) (dark : P .inDark) : KeepsBut O P s (pass1Outcome o q res s) := by
  rw [pass1Outcome_eq]
  have block : KeepsBut O P s (pass1Block o q res s).2 ∧ readOf o (pass1Block o q res s).2 = some q ∧
      (pass1Block o q res s).1.phase ≠ .header ∧
      (1 ≤ q.nextBlock → 0 ∉ q.retry → 0 ∉ (pass1Block o q res s).1.retry) := by
    have write : ∀ data, KeepsBut O P s (writeBlock o q.nextBlock data s) := fun data => keeps_of_laws fun Q laws =>
      keeps_writeBlock (fun o' => (StoreOk.flight (laws .store o') o q read).2.1) data
    unfold pass1Block
    split
    · exact ⟨write _, (readOf_writeBlock ..).trans read, by rw [phase]; exact nofun, fun _ h => h⟩
    · split
      · refine ⟨.refl _, read, by rw [phase]; exact nofun, fun next clear => ?_⟩
        simp only [List.mem_append, List.mem_singleton, not_or]
        exact ⟨clear, by omega⟩
      · exact ⟨write _, (readOf_writeBlock ..).trans read, by rw [phase]; exact nofun, fun _ h => h⟩
  obtain ⟨keeps, after, later, clear⟩ := block
  generalize pass1Block o q res s = p at *
  dsimp only
  refine keeps.trans (.ite (fun _ => keeps_goOn (r := { p.1 with nextBlock := q.nextBlock + 1 }) after
    (fun n c => ⟨Nat.le_add_left 1 _, clear n c⟩) later _) fun _ => ?_)
  split
  · exact keeps_readEnded _ _ dark
  · exact keeps_goOn (r := { p.1 with nextBlock := q.nextBlock + 1, phase := .pass2 }) after
      (fun n c => ⟨Nat.le_add_left 1 _, clear n c⟩) nofun _

theorem keeps_pass2Outcome {q : IdRead} (res : Except FailKind (List Byte)) (read : readOf o s = some q)
    (phase : q.phase = .pass2) (dark : P .inDark) : KeepsBut O P s (pass2Outcome o q res s) := by
  rw [pass2Outcome_eq]
  split
  · exact .refl _
  · next i rest retry =>
    have block : KeepsBut O P s (pass2Block o q i res s).2 ∧ readOf o (pass2Block o q i res s).2 = some q ∧
        (pass2Block o q i res s).1.phase ≠ .header ∧ (pass2Block o q i res s).1.nextBlock = q.nextBlock := by
      have write : ∀ data, KeepsBut O P s (writeBlock o i data s) := by
        refine fun data => keeps_of_laws fun Q laws => keeps_writeBlock (fun o' => ?_) data
        obtain ⟨-, -, clear, -⟩ := StoreOk.flight (laws .store o') o q read
        rw [retry, List.mem_cons, not_or] at clear
        omega
      unfold pass2Block
      split <;> exact ⟨write _, (readOf_writeBlock ..).trans read, by rw [phase]; exact nofun, rfl⟩
    obtain ⟨keeps, after, later, next⟩ := block
    generalize pass2Block o q i res s = p at *
    dsimp only
    refine keeps.trans ?_
    split
    · exact keeps_readEnded _ _ dark
    · next j more =>
      refine keeps_goOn (r := { p.1 with retry := j :: more }) after (fun n c => ⟨next ▸ n, fun zero => c ?_⟩) later _
      rw [retry]
      exact List.mem_cons_of_mem _ zero

theorem keeps_blockOutcome (o : Owner) (res : Except FailKind (List Byte × Byte)) (dark : P .inDark) (fault : P .inFault) :
    KeepsBut O P s (blockOutcome o res s) := by
  unfold blockOutcome
  split
  · exact .refl _
  · next r read =>
    split
    · next phase => exact keeps_headerOutcome _ read phase dark fault
    · next phase => exact keeps_pass1Outcome _ read phase dark
    · next phase => exact keeps_pass2Outcome _ read phase dark

end Sys2Proof.Machine

namespace Sys2Proof.Machine

variable {O : Law → Prop} {P : Permit → Prop} {s t u : State} {b : BayIx}

/-! ### SET_BAY (R20, R21) -/

theorem State.modBay_modBay (s : State) (b : BayIx) (f g : Bay → Bay) :
    (s.modBay b f).modBay b g = s.modBay b fun y => g (f y) := by
  simp only [State.modBay, State.bay, Tab.get_set_self, Tab.set_set]

/-- The active uplink of a bay that takes new settings: a fresh one where an uplink setting of a forwarding bay has
changed (R21). -/
def resettled (b : BayIx) (new : BaySettings) (s : State) : Option UplinkIx :=
  if (new.primary ≠ (s.bay b).settings.primary || new.alternate ≠ (s.bay b).settings.alternate) &&
      (s.bay b).state.forwarding then freshUplink b (s.modBay b fun y => { y with settings := new })
  else (s.bay b).activeUplink

/-- New settings of a bay with what they make of its active uplink. -/
def rebay (b : BayIx) (new : BaySettings) (s : State) : State :=
  s.modBay b fun y => { y with settings := new, activeUplink := resettled b new s }

theorem rebay_bay_self (b : BayIx) (new : BaySettings) (s : State) :
    (rebay b new s).bay b = { s.bay b with settings := new, activeUplink := resettled b new s } :=
  State.modBay_bay_self ..

theorem applyBay_eq (b : BayIx) (new : BaySettings) (s : State) : applyBay b new s =
    if new.priority ≠ (s.bay b).settings.priority ∧ (s.bay b).state = .waiting then
      admissionPass (resortWaiting b (rebay b new s))
    else rebay b new s := by
  have settled : (if (new.primary ≠ (s.bay b).settings.primary || new.alternate ≠ (s.bay b).settings.alternate) &&
        ((s.modBay b fun y => { y with settings := new }).bay b).state.forwarding then
        selectUplink b (s.modBay b fun y => { y with settings := new })
      else s.modBay b fun y => { y with settings := new }) = rebay b new s := by
    rw [State.modBay_bay_self]
    unfold rebay resettled selectUplink
    split
    · rw [State.modBay_modBay]
    · rfl
  unfold applyBay
  dsimp only
  rw [settled, rebay_bay_self]
  simp only [Bool.and_eq_true, decide_eq_true_eq]

theorem BayFrame.rebay (b : BayIx) (new : BaySettings) (s : State) : BayFrame b s (rebay b new s) := .modBay b _ s

theorem BayFrame.resortWaiting (b : BayIx) (s : State) : BayFrame b s (resortWaiting b s) :=
  (BayFrame.leaveWaiting b s).trans (.joinWaiting b _)

/-- What new settings of a bay need: its zone changes only where it holds no allocation. -/
theorem keeps_rebayed (new : BaySettings) (permit : P (.sets .bay)) (f : BayFrame b s t)
    (self : t.bay b = { s.bay b with settings := new, activeUplink := resettled b new s })
    (ramp : t.ramp = s.ramp) (store : t.store = s.store) (lists : ListsOk s → ListsStep b s t)
    (zone : new.zone ≠ (s.bay b).settings.zone → (s.bay b).state.zoneChangeable = true) : KeepsBut O P s t := by
  have each : ∀ {α : Type} (g : Bay → α), g { s.bay b with settings := new, activeUplink := resettled b new s } = g (s.bay b) →
      ∀ c, g (t.bay c) = g (s.bay c) := by
    intro α g h c
    by_cases e : c = b
    · subst e; rw [self]; exact h
    · rw [f.others c e]
  refine .bay f (.inl permit) (.same (each _ rfl b) (each _ rfl b)) (fun _ h => ?_)
    (fun _ ⟨r, l⟩ => ⟨r.stand f.others (by rw [each Bay.state rfl]) (by rw [ramp]), l.change f.others (lists l)⟩)
    (fun _ h => h.change f ?_ fun scope => .inl ?_) (fun _ h => .inl ((each Bay.state rfl b).symm ▸ h)) (fun _ h => ?_)
    fun _ h => StoreOk.congr (s := s) (by rw [store]) (each _ rfl) (each _ rfl) (fun i => by rw [f.supply]) (fun i => by rw [f.supply]) h
  · rw [self]; exact h
  · rw [self]; exact h.1 b
  · rw [self]
    by_cases e : new.zone = (s.bay b).settings.zone
    · unfold Bay.load
      simp only [e]
      exact Nat.le_refl _
    · have held : (s.bay b).alloc = 0 := by
        have dry := h.1 b
        have may := zone e
        refine Classical.byContradiction fun some => ?_
        have hold := dry some
        cases k : (s.bay b).state <;> simp [k, BayState.zoneChangeable, BayState.allocated] at may hold
      have none := Bay.load_zero scope (y := { s.bay b with settings := new, activeUplink := resettled b new s }) held
      exact none ▸ Nat.zero_le _
  · rw [self]
    unfold resettled
    split
    case isTrue fresh =>
      have ok := freshUplink_ok b (s.modBay b fun y => { y with settings := new })
      rw [State.modBay_bay_self] at ok
      exact ok
    case isFalse kept =>
      intro w hw
      obtain ⟨forward, up, named⟩ := h w hw
      simp only [Bool.and_eq_true, Bool.or_eq_true, decide_eq_true_eq, not_and, forward, not_true, imp_false, not_or,
        Classical.not_not] at kept
      refine ⟨forward, up, ?_⟩
      show new.primary = w ∨ new.alternate = some w
      rw [kept.1, kept.2]
      exact named

theorem keeps_rebay (new : BaySettings) (permit : P (.sets .bay))
    (place : (s.bay b).state = .waiting → new.priority = (s.bay b).settings.priority)
    (zone : new.zone ≠ (s.bay b).settings.zone → (s.bay b).state.zoneChangeable = true) : KeepsBut O P s (rebay b new s) := by
  have self := rebay_bay_self b new s
  refine keeps_rebayed new permit (.rebay ..) self rfl rfl (fun l => ⟨?_, .inr (.inr ⟨by rw [self], rfl⟩), Nat.le_refl _⟩) zone
  by_cases w : (s.bay b).state = .waiting
  · exact .inr (.inr ⟨by rw [self], rfl, by rw [self]; exact place w, by rw [self]⟩)
  · exact .inl ⟨by rw [self]; exact w, (l.not_waiting w).symm⟩

theorem keeps_rebayResorted (new : BaySettings) (permit : P (.sets .bay)) (waiting : (s.bay b).state = .waiting)
    (zone : new.zone ≠ (s.bay b).settings.zone → (s.bay b).state.zoneChangeable = true) :
    KeepsBut O P s (resortWaiting b (rebay b new s)) := by
  have self : (resortWaiting b (rebay b new s)).bay b =
    { s.bay b with settings := new, activeUplink := resettled b new s } := rebay_bay_self b new s
  refine keeps_rebayed new permit ((BayFrame.rebay ..).trans (.resortWaiting ..)) self rfl rfl (fun l => ?_) zone
  obtain ⟨-, -, mem, -, stamped⟩ := l
  obtain ⟨n, stamp, issued⟩ := stamped b ((mem b).1.mpr waiting)
  refine ⟨.inr (.inl ⟨by rw [self]; exact waiting, rfl, n, by rw [self]; exact stamp, issued⟩),
    .inr (.inr ⟨by rw [self], rfl⟩), Nat.le_refl _⟩

theorem keeps_applyBay (new : BaySettings) (permit : P (.sets .bay))
    (zone : new.zone ≠ (s.bay b).settings.zone → (s.bay b).state.zoneChangeable = true) :
    KeepsBut O P s (applyBay b new s) := by
  rw [applyBay_eq]
  refine .ite (fun h => .trans (keeps_rebayResorted new permit h.2 zone) keeps_admissionPass) fun h =>
    keeps_rebay new permit (fun w => ?_) zone
  refine Classical.byContradiction fun ne => ?_
  exact h ⟨ne, w⟩

theorem keeps_cmdSetBay (bay sel priority autoPower pressToStart zone primary alternate group : Byte)
    (permit : P (.sets .bay)) :
    KeepsBut O P s (cmdSetBay bay sel priority autoPower pressToStart zone primary alternate group s) := by
  unfold cmdSetBay
  split
  · exact .answer ..
  · dsimp only
    split
    · exact .answer ..
    · split
      · exact .answer ..
      · next free =>
        refine .trans (keeps_applyBay _ permit fun moved => ?_) (.answer ..)
        rw [if_pos moved, zoneRefusal] at free
        split at free
        · cases free
        · next may => exact by simpa using may

/-! ### The bay link engines (R28 to R39) -/

theorem keeps_pollFailed (b : BayIx) (k : FailKind) : KeepsBut O P s (pollFailed b k s) := by
  unfold pollFailed
  dsimp only
  exact .trans (.modLink b _) (.ite (fun _ => .minor b _ ⟨rfl, rfl, rfl, rfl, rfl, rfl, rfl, rfl, rfl⟩) fun _ =>
    .ite (fun _ => .trans (.minor b _ ⟨rfl, rfl, rfl, rfl, rfl, rfl, rfl, rfl, rfl⟩) (.raise ..)) fun _ => .refl _)

theorem keeps_capFailed (b : BayIx) (level : Nat) (retried : Bool) : KeepsBut O P s (capFailed b level retried s) := by
  unfold capFailed
  exact .ite (fun _ => .refl _) fun _ => .ite (fun _ => keeps_capFailure level) fun _ => .modLink b _

theorem keeps_bayTxnFailed (b : BayIx) (t : Txn) (stale : Bool) (k : FailKind) (dark : P .inDark) (fault : P .inFault) :
    KeepsBut O P s (bayTxnFailed b t stale k s) := by
  unfold bayTxnFailed
  split
  · exact keeps_blockOutcome _ _ dark fault
  · exact .ite (fun _ => .refl _) fun _ => keeps_pollFailed b k
  · exact .ite (fun _ => .refl _) fun _ => keeps_capFailed ..
  all_goals exact .refl _

theorem keeps_pollSucceeded (b : BayIx) (stale : Bool) (run : RunState) (inlet : Option Int) (cap : Nat)
    (dark : P .inDark) : KeepsBut O P s (pollSucceeded b stale run inlet cap s) := by
  unfold pollSucceeded
  refine .ite (fun _ => .refl _) fun _ => ?_
  dsimp only
  refine .trans (.minor b (fun y => { y with runState := some run, inlet := inlet, applied := some cap })
    ⟨rfl, rfl, rfl, rfl, rfl, rfl, rfl, rfl, rfl⟩) (.ite (fun _ => .refl _) fun _ => ?_)
  refine .trans (.modLink b fun l => { l with failedPolls := 0 }) ?_
  generalize (s.modBay b _).modLink b _ = v
  have restored : KeepsBut O P v (if (v.bay b).linkLost then
      raise .linkRestored (.bay b) 0 0 (v.modBay b fun y => { y with linkLost := false }) else v) :=
    .ite (fun _ => .trans (.minor b _ ⟨rfl, rfl, rfl, rfl, rfl, rfl, rfl, rfl, rfl⟩) (.raise ..)) fun _ => .refl _
  exact .ite (fun _ => restored.trans (.trans (keeps_endStop _ dark) (keeps_endShed _ dark))) fun _ => restored

theorem keeps_capAcknowledged (b : BayIx) (stale : Bool) (level applied : Nat) :
    KeepsBut O P s (capAcknowledged b stale level applied s) := by
  unfold capAcknowledged
  exact .trans (.minor b (fun y => { y with applied := some applied }) ⟨rfl, rfl, rfl, rfl, rfl, rfl, rfl, rfl, rfl⟩)
    (.ite (fun _ => .ite (fun _ => .refl _) fun _ => keeps_capFailure level) fun _ =>
      .ite (fun _ => .minor b _ ⟨rfl, rfl, rfl, rfl, rfl, rfl, rfl, rfl, rfl⟩) fun _ => .refl _)

theorem keeps_bayTxnDone (b : BayIx) (t : Txn) (stale : Bool) (p : List Byte) (dark : P .inDark) (fault : P .inFault) :
    KeepsBut O P s (bayTxnDone b t stale p s) := by
  unfold bayTxnDone
  split
  · exact keeps_blockOutcome _ _ dark fault
  · split
    · exact keeps_pollSucceeded b _ _ _ _ dark
    · exact .refl _
  · exact keeps_capAcknowledged ..
  all_goals exact .refl _

theorem keeps_failBayTxn (b : BayIx) (k : FailKind) (e : Engine) (dark : P .inDark) (fault : P .inFault) :
    KeepsBut O P s (failBayTxn b k e s) := by
  unfold failBayTxn
  refine .trans (.minor b (fun y => { y with sticky := y.sticky.set k, link := { y.link with engine := e } })
    ⟨rfl, rfl, rfl, rfl, rfl, rfl, rfl, rfl, rfl⟩) ?_
  dsimp only
  split
  · exact keeps_bayTxnFailed b _ _ k dark fault
  · exact .refl _

theorem keeps_bayChar (b : BayIx) (c : LinkChar) (dark : P .inDark) (fault : P .inFault) :
    KeepsBut O P s (bayChar b c s) := by
  unfold bayChar
  dsimp only
  split
  · exact .modLink b _
  · exact keeps_failBayTxn b _ _ dark fault
  · refine .trans (.modLink b fun l => { l with engine := .reset }) ?_
    split
    · exact keeps_bayTxnDone b _ _ _ dark fault
    · exact .refl _

/-! ### The supply link engine (R40 to R42) -/

theorem keeps_setSupplyEngine (e : Engine) : KeepsBut O P s (setSupplyEngine e s) := .loose ..

theorem keeps_failSupplyTxn (k : FailKind) (e : Engine) (dark : P .inDark) (fault : P .inFault) :
    KeepsBut O P s (failSupplyTxn k e s) := by
  unfold failSupplyTxn
  dsimp only
  refine .trans (keeps_setSupplyEngine e) ?_
  split
  · exact .refl _
  · next a _ =>
    refine .trans (.minorSupply a (fun p => { p with sticky := p.sticky.set k }) ⟨rfl, rfl, rfl, rfl, rfl⟩) ?_
    split
    · exact keeps_blockOutcome _ _ dark fault
    · exact .refl _

theorem keeps_supplyTxnDone (t : Txn) (p : List Byte) (dark : P .inDark) (fault : P .inFault) :
    KeepsBut O P s (supplyTxnDone t p s) := by
  unfold supplyTxnDone
  split
  · exact keeps_blockOutcome _ _ dark fault
  · exact keeps_supplyPolled ..
  all_goals exact .refl _

theorem keeps_supplyChar (c : LinkChar) (dark : P .inDark) (fault : P .inFault) : KeepsBut O P s (supplyChar c s) := by
  unfold supplyChar
  dsimp only
  split
  · exact keeps_setSupplyEngine _
  · exact keeps_failSupplyTxn _ _ dark fault
  · refine .trans (keeps_setSupplyEngine .reset) ?_
    split
    · exact keeps_supplyTxnDone _ _ dark fault
    · exact .refl _

/-! ### Either link -/

theorem keeps_setEngine (l : Link) (e : Engine) : KeepsBut O P s (setEngine l e s) := by
  cases l with
  | bay b => exact .modLink b fun x => { x with engine := e }
  | supply => exact .loose ..

theorem keeps_failTxn (l : Link) (k : FailKind) (e : Engine) (dark : P .inDark) (fault : P .inFault) :
    KeepsBut O P s (failTxn l k e s) := by
  cases l with
  | bay b => exact keeps_failBayTxn b k e dark fault
  | supply => exact keeps_failSupplyTxn k e dark fault

theorem keeps_character (l : Link) (c : LinkChar) (dark : P .inDark) (fault : P .inFault) :
    KeepsBut O P s (character l c s) := by
  cases l with
  | bay b => exact keeps_bayChar b c dark fault
  | supply => exact keeps_supplyChar c dark fault

/-! ### The work taken at the end of a change (R30, R41, R91) -/

theorem keeps_takeWork (b : BayIx) (w : Work) : KeepsBut O P s (takeWork b w s) := by
  unfold takeWork
  split
  · exact .ite (fun _ => .trans (.modLink b _) (keeps_capFailure _)) fun _ => .modLink b _
  all_goals exact .modLink b _

theorem keeps_settleBays (grant : P .grant) (n : Nat) : ∀ s, KeepsBut O P s (settleBays n s) := by
  induction n with
  | zero => exact fun s => .refl s
  | succ n ih =>
    intro s
    unfold settleBays
    split
    · next may => exact .trans (keeps_grantTo may grant) (ih _)
    · split
      · exact .trans (keeps_takeWork ..) (ih _)
      · exact .refl _

theorem keeps_runRound (n : Nat) : KeepsBut O P s (runRound n s) := by
  unfold runRound
  split <;> exact .loose ..

theorem keeps_startDueRound : KeepsBut O P s (startDueRound s) := by
  unfold startDueRound
  exact .ite (fun _ => .trans (.loose { s.supplyLink with roundDue := false } _ _ _ _ _) (keeps_runRound _)) fun _ => .refl _

theorem keeps_takeSupplyWork : KeepsBut O P s (takeSupplyWork s) := by
  unfold takeSupplyWork
  refine .ite (fun _ => .refl _) fun _ => ?_
  split
  · exact .loose ..
  · split
    · exact .trans (keeps_runRound _) keeps_startDueRound
    · exact keeps_startDueRound

theorem keeps_settle (grant : P .grant) : KeepsBut O P s (settle s) :=
  .trans (keeps_settleBays grant _ s) keeps_takeSupplyWork

end Sys2Proof.Machine

namespace Sys2Proof.Machine

variable {O : Law → Prop} {P : Permit → Prop} {s t : State} {u : UplinkIx} {b : BayIx}

/-! ### Uplinks (R130 to R133) -/

/-- Fresh selections for a list of bays: each by its own record, which the others leave. -/
theorem selects_bay (l : List BayIx) : ∀ (s : State) (c : BayIx),
    (l.foldl (fun s b => selectUplink b s) s).bay c =
      if c ∈ l then { s.bay c with activeUplink := freshUplink c s } else s.bay c := by
  induction l with
  | nil => exact fun s c => rfl
  | cons b l ih =>
    intro s c
    have first : (selectUplink b s).bay c =
        if c = b then { s.bay c with activeUplink := freshUplink c s } else s.bay c := by
      rw [selectUplink, State.modBay_bay]
      split
      case isTrue e => subst e; rfl
      case isFalse => rfl
    have fresh : freshUplink c (selectUplink b s) = freshUplink c s := by
      simp only [freshUplink, first]
      split <;> rfl
    rw [List.foldl_cons, ih, fresh, first]
    by_cases e : c = b <;> by_cases m : c ∈ l <;> simp [e, m]

theorem takes_bay (u : UplinkIx) (l : List BayIx) : ∀ (s : State) (c : BayIx),
    (l.foldl (takeUplink u) s).bay c = if c ∈ l then { s.bay c with activeUplink := some u } else s.bay c := by
  induction l with
  | nil => exact fun s c => rfl
  | cons b l ih =>
    intro s c
    have first : (takeUplink u s b).bay c = if c = b then { s.bay c with activeUplink := some u } else s.bay c := by
      rw [takeUplink, State.modBay_bay]
      split
      case isTrue e => subst e; rfl
      case isFalse => rfl
    rw [List.foldl_cons, ih, first]
    by_cases e : c = b <;> by_cases m : c ∈ l <;> simp [e, m]

theorem keeps_takes (l : List BayIx) : ∀ s : State, (¬ O .uplinks → (s.uplink u).up = true) →
    (∀ b ∈ l, (s.bay b).state.forwarding = true ∧
      ((s.bay b).settings.primary = u ∨ (s.bay b).settings.alternate = some u)) →
    KeepsBut O P s (l.foldl (takeUplink u) s) := by
  induction l with
  | nil => exact fun s _ _ => .refl s
  | cons b l ih =>
    intro s up may
    obtain ⟨forward, named⟩ := may b List.mem_cons_self
    refine .trans (keeps_takeUplink u forward up named) (ih _ up fun c hc => ?_)
    have old := may c (List.mem_cons_of_mem _ hc)
    rw [takeUplink, State.modBay_bay]
    split
    case isTrue e => subst e; exact old
    case isFalse => exact old

theorem keeps_failback (up : ¬ O .uplinks → (s.uplink u).up = true) : KeepsBut O P s (failback u s) := by
  unfold failback
  refine .ite (fun _ => .refl _) fun _ => .trans (keeps_takes _ s up fun b hb => ?_) (.raise ..)
  simp only [List.mem_filter, Bool.and_eq_true, decide_eq_true_eq] at hb
  exact ⟨hb.2.1.1, .inl hb.2.1.2⟩

/-- An uplink's link as reported, with its hold timer. -/
theorem KeepsBut.link (u : UplinkIx) (f : Uplink → Uplink) (trusted : (f (s.uplink u)).trusted = (s.uplink u).trusted)
    (hold : (f (s.uplink u)).hold = (s.uplink u).hold)
    (up : ¬ O .uplinks → (s.uplink u).up = true → (f (s.uplink u)).up = true) : KeepsBut O P s (s.modUplink u f) := by
  have same : ∀ w, ((s.modUplink u f).uplink w).trusted = (s.uplink w).trusted ∧
      ((s.modUplink u f).uplink w).hold = (s.uplink w).hold := by
    intro w
    rw [State.modUplink_uplink]
    split
    case isTrue e => subst e; exact ⟨trusted, hold⟩
    case isFalse => exact ⟨rfl, rfl⟩
  refine .uplinks _ (.inr ?_) (fun o h b w hw => ?_) fun _ ⟨queue, list, unicast, manager, timer, w, hw⟩ =>
      ⟨queue, list, unicast, manager, timer, w, (same w).1.trans hw⟩
  · exact congrArg (_, ·) (funext fun w => by rw [← (same w).1, ← (same w).2]; rfl)
  · obtain ⟨forward, isUp, named⟩ := h b w hw
    refine ⟨forward, ?_, named⟩
    show ((s.modUplink u f).uplink w).up = true
    rw [State.modUplink_uplink]
    split
    case isTrue e => subst e; exact up o isUp
    case isFalse => exact isUp

theorem keeps_uplinkRise (u : UplinkIx) : KeepsBut O P s (uplinkRise u s) := by
  unfold uplinkRise
  dsimp only
  refine .trans (.link u (fun x => { x with up := true }) rfl rfl fun _ _ => rfl) ?_
  have up : ((s.modUplink u fun x => { x with up := true }).uplink u).up = true := by rw [State.modUplink_uplink_self]
  generalize s.modUplink u (fun x => { x with up := true }) = v at up ⊢
  generalize hl : (allBays.filter fun b => (v.bay b).state.forwarding && (v.bay b).activeUplink.isNone &&
    ((v.bay b).settings.primary = u || (v.bay b).settings.alternate = some u)) = l
  have takes : KeepsBut O P v (l.foldl (takeUplink u) v) := by
    refine keeps_takes l v (fun _ => up) fun b hb => ?_
    simp only [← hl, List.mem_filter, Bool.and_eq_true, Bool.or_eq_true, decide_eq_true_eq] at hb
    exact ⟨hb.2.1.1, hb.2.2⟩
  have link : (l.foldl (takeUplink u) v).uplinks = v.uplinks := by
    clear hl takes up
    induction l generalizing v with
    | nil => rfl
    | cons b l ih => exact ih _
  refine .trans takes (.trans (.raise .uplinkUp (.uplink u) 0 l.length) (.ite (fun _ => keeps_failback fun _ => ?_) fun _ =>
    .minorUplink u _ rfl rfl rfl))
  rw [raise_uplink, State.uplink, link]
  exact up

/-- The fall of an uplink and its event. -/
def linkLost (u : UplinkIx) (s : State) : State :=
  raise .uplinkDown (.uplink u) 0 0 (s.modUplink u fun x => { x with up := false, holdTimer := none })

/-- The bays that hold an uplink. -/
def baysOn (u : UplinkIx) (s : State) : List BayIx :=
  allBays.filter fun b => (s.bay b).state.forwarding && (s.bay b).activeUplink = some u

theorem uplinkFall_eq (u : UplinkIx) (s : State) : uplinkFall u s =
    if (baysOn u (linkLost u s)).isEmpty then linkLost u s
    else
      let t := (baysOn u (linkLost u s)).foldl (fun s b => selectUplink b s) (linkLost u s)
      let left := ((baysOn u (linkLost u s)).filter fun b => (t.bay b).activeUplink.isNone).length
      raise .failover (.uplink u) left (((baysOn u (linkLost u s)).length - left : Nat) : Int) t := rfl

theorem mem_baysOn : b ∈ baysOn u s ↔ (s.bay b).state.forwarding = true ∧ (s.bay b).activeUplink = some u := by
  simp [baysOn, mem_allBays]

theorem linkLost_bay (u : UplinkIx) (s : State) (b : BayIx) : (linkLost u s).bay b = s.bay b := raise_bay ..

theorem linkLost_up (u w : UplinkIx) (s : State) :
    ((linkLost u s).uplink w).up = if w = u then false else (s.uplink w).up := by
  rw [linkLost, raise_uplink, State.modUplink_uplink]
  split <;> rfl

theorem selects_frame (l : List BayIx) : ∀ s : State, (l.foldl (fun s b => selectUplink b s) s) =
    { s with bays := (l.foldl (fun s b => selectUplink b s) s).bays } := by
  induction l with
  | nil => exact fun s => rfl
  | cons b l ih => exact fun s => ih (selectUplink b s)

/-- After fresh selections for the bays on a fallen uplink no bay holds it. -/
theorem activeUplinksOk_selects (h : ActiveUplinksOk s) :
    ActiveUplinksOk ((baysOn u (linkLost u s)).foldl (fun s b => selectUplink b s) (linkLost u s)) := by
  intro c w hw
  have up : ∀ w, (((baysOn u (linkLost u s)).foldl (fun s b => selectUplink b s) (linkLost u s)).uplink w) =
      (linkLost u s).uplink w := by
    intro w
    rw [selects_frame]
    rfl
  rw [up]
  rw [selects_bay] at hw ⊢
  split at hw
  case isTrue on =>
    rw [if_pos on]
    exact freshUplink_ok c (linkLost u s) w hw
  case isFalse off =>
    rw [if_neg off]
    rw [linkLost_bay] at hw ⊢
    obtain ⟨forward, isUp, named⟩ := h c w hw
    have ne : w ≠ u := by
      rintro rfl
      exact off (mem_baysOn.mpr ⟨by rw [linkLost_bay]; exact forward, by rw [linkLost_bay]; exact hw⟩)
    exact ⟨forward, by rw [linkLost_up, if_neg ne]; exact isUp, named⟩

theorem keeps_uplinkFall (u : UplinkIx) : KeepsBut O P s (uplinkFall u s) := by
  have fall : KeepsBut (Opening O .uplinks) P s (linkLost u s) :=
    .trans (.link u _ rfl rfl fun o => absurd (.inr rfl) o) (.raise ..)
  rw [uplinkFall_eq]
  refine .ite (fun nobody => .close .uplinks fall fun _ h => ?_) fun _ => .trans
    (.close .uplinks (fall.trans (.foldl _ (fun _ _ => keeps_selectUplink) _ _)) fun _ h => activeUplinksOk_selects h)
    (.raise ..)
  have after := activeUplinksOk_selects (u := u) h
  rw [List.isEmpty_iff.mp nobody] at after
  exact after

theorem keeps_linkReport (u : UplinkIx) (up : Bool) : KeepsBut O P s (linkReport u up s) := by
  unfold linkReport
  exact .ite (fun _ => .refl _) fun _ => .ite (fun _ => keeps_uplinkRise u) fun _ => keeps_uplinkFall u

/-! ### SET_UPLINK and SET_GROUP (R151, R152) -/

theorem keeps_cmdSetUplink (uplink sel trusted : Byte) (hold aging : BitVec 16) (permit : P (.sets .uplink)) :
    KeepsBut O P s (cmdSetUplink uplink sel trusted hold aging s) := by
  unfold cmdSetUplink
  split
  · exact .answer ..
  · next u _ =>
    split
    · exact .answer ..
    · next on trust =>
      refine .ite (fun _ => .answer ..) fun may => ?_
      dsimp only
      generalize clampNat 0 600 hold.toNat = h
      generalize hv : s.modUplink u (fun x => { x with trusted := on, hold := pick (sel.getLsbD 1) h x.hold }) = v
      have uplinks : ∀ w, v.uplink w = if w = u then { s.uplink u with
          trusted := on, hold := pick (sel.getLsbD 1) h (s.uplink u).hold } else s.uplink w := by
        rw [← hv]
        exact fun w => State.modUplink_uplink ..
      have up : ∀ w, (v.uplink w).up = (s.uplink w).up := by
        intro w
        rw [uplinks]
        split
        case isTrue e => subst e; rfl
        case isFalse => rfl
      have first : KeepsBut O P s v := by
        rw [← hv]
        refine .uplinks _ (.inl permit) (fun _ k => ?_) fun _ ⟨queue, list, unicast, manager, timer, w, hw⟩ =>
          ⟨queue, list, unicast, manager, timer, ?_⟩
        · exact ActiveUplinksOk.congr (s := s) (fun _ => rfl) (fun _ => rfl) (fun _ => rfl) (fun w => by
            rw [← up w, ← hv]; rfl) k
        · have goal : ∃ w, (v.uplink w).trusted = true := ?_
          · rw [← hv] at goal
            exact goal
          by_cases e : w = u
          · subst e
            cases on with
            | true => exact ⟨w, by rw [uplinks, if_pos rfl]⟩
            | false =>
              have selected : sel.getLsbD 0 = true := by
                refine Classical.byContradiction fun no => ?_
                rw [if_neg no, hw] at trust
                cases trust
              simp only [selected, Bool.not_false, Bool.true_and, lastTrusted, Bool.not_eq_true, List.all_eq_false,
                Bool.or_eq_true, Bool.not_eq_true', decide_eq_true_eq, not_or, Bool.not_eq_false] at may
              obtain ⟨x, -, ne, hx⟩ := may
              exact ⟨x, by rw [uplinks, if_neg ne]; exact hx⟩
          · exact ⟨w, by rw [uplinks, if_neg e]; exact hw⟩
      exact .trans first (.trans (.stations { v.stations with
        agingInterval := pick (sel.getLsbD 2) (clampNat 10 3600 aging.toNat) v.stations.agingInterval }
        (.inl permit) fun _ k => k) (.answer ..))

theorem keeps_cmdSetGroup (group : Byte) (tag : BitVec 16) (permit : P (.sets .group)) :
    KeepsBut O P s (cmdSetGroup group tag s) := by
  unfold cmdSetGroup
  split
  · exact .answer ..
  · exact .ite (fun _ => .answer ..) fun _ => .trans (.groups _ permit) (.answer ..)

end Sys2Proof.Machine

namespace Sys2Proof.Machine

variable {O : Law → Prop} {P : Permit → Prop} {s t : State} {u : UplinkIx} {b : BayIx}

/-! ### The hold timer (R133) -/

theorem keeps_holdExpiry (u : UplinkIx) {d : Nat} (h : (s.uplink u).holdTimer = some d) :
    KeepsBut O P (s.reach d) (holdExpiry u s) := by
  rw [holdExpiry, h]
  dsimp only
  exact .trans (.minorUplink u _ rfl rfl rfl) (.ite (fun up => keeps_failback fun _ => up) fun _ => .refl _)

/-! ### The station table (R142 to R150) -/

/-- An entry may stand at an index: it names a unicast address that no entry elsewhere holds, and a LEARNED one a bay
that forwards. -/
structure Station.Fits (e : Station) (i : StationIx) (s : State) : Prop where
  unicast : isGroup e.addr = false
  home : (∃ x, s.stations.entries.get i = some x ∧ x.addr = e.addr) ∨
    ∀ j f, s.stations.entries.get j = some f → f.addr ≠ e.addr
  forwards : e.isLearned = true → (s.bay e.bay).state.forwarding = true

theorem StationsOk.put {i : StationIx} {e : Station} {x : StationTable} (h : StationsOk s) (fits : e.Fits i s)
    (entries : x.entries = s.stations.entries.set i (some e)) : StationsOk { s with stations := x } := by
  obtain ⟨unique, unicast, forwards⟩ := h
  have elsewhere : ∀ j f, j ≠ i → s.stations.entries.get j = some f → f.addr ≠ e.addr := by
    intro j f ne hj same
    rcases fits.home with ⟨y, hy, ha⟩ | no
    · exact ne (unique j i f y hj hy (same.trans ha.symm))
    · exact no j f hj same
  refine ⟨fun j k f g hj hk same => ?_, fun j f hj => ?_, fun j f hj learned => ?_⟩
  · rw [entries, Tab.get_set] at hj hk
    split at hj <;> split at hk
    · simp_all
    · injection hj with hj
      subst hj
      exact absurd same.symm (elsewhere k g ‹_› hk)
    · injection hk with hk
      subst hk
      exact absurd same (elsewhere j f ‹_› hj)
    · exact unique j k f g hj hk same
  · rw [entries, Tab.get_set] at hj
    split at hj
    · injection hj with hj
      exact hj ▸ fits.unicast
    · exact unicast j f hj
  · rw [entries, Tab.get_set] at hj
    split at hj
    · injection hj with hj
      subst hj
      exact fits.forwards learned
    · exact forwards j f hj learned

/-- An entry put where it fits, with other fields of the table but the aging interval. -/
theorem KeepsBut.put {i : StationIx} {e : Station} (x : StationTable) (entries : x.entries = s.stations.entries.set i (some e))
    (interval : x.agingInterval = s.stations.agingInterval) (fits : ¬ O .stations → StationsOk s → e.Fits i s) :
    KeepsBut O P s { s with stations := x } :=
  .stations x (.inr interval) fun o h => h.put (fits o h) entries

theorem fits_of_free {e : Station} {i : StationIx} (unicast : isGroup e.addr = false)
    (free : locate e.addr s.stations = none) (forwards : e.isLearned = true → (s.bay e.bay).state.forwarding = true) :
    e.Fits i s := ⟨unicast, .inr (locate_none.mp free), forwards⟩

theorem fits_of_held {e : Station} {i : StationIx} (unicast : isGroup e.addr = false)
    (held : locate e.addr s.stations = some i) (forwards : e.isLearned = true → (s.bay e.bay).state.forwarding = true) :
    e.Fits i s := ⟨unicast, .inl (locate_some.mp held).1, forwards⟩

/-- The entry that `stationOf` finds. -/
theorem stationOf_some {a : Addr} {i : StationIx} {e : Station} (h : stationOf a s = some (i, e)) :
    locate a s.stations = some i ∧ s.stations.entries.get i = some e ∧ e.addr = a := by
  obtain ⟨j, hj, h⟩ := Option.bind_eq_some_iff.mp h
  obtain ⟨f, hf, e'⟩ := Option.map_eq_some_iff.mp h
  injection e' with hi he
  subst hi he
  obtain ⟨⟨g, hg, ha⟩, -⟩ := locate_some.mp hj
  rw [hf] at hg
  injection hg with hg
  exact ⟨hj, hf, hg ▸ ha⟩

theorem stationOf_none {a : Addr} (h : stationOf a s = none) : locate a s.stations = none := by
  cases hl : locate a s.stations with
  | none => rfl
  | some i =>
    obtain ⟨⟨e, he, -⟩, -⟩ := locate_some.mp hl
    rw [stationOf, hl, Option.bind_some, he] at h
    cases h

theorem keeps_learnFailed (b : BayIx) : KeepsBut O P s (learnFailed b s) := by
  unfold learnFailed
  dsimp only
  exact .trans (.stations { s.stations with learnFail := sat32 s.stations.learnFail, fullMark := true } (.inr rfl)
    fun _ h => h) (.ite (fun _ => .refl _) fun _ => .raise ..)

theorem keeps_conflict {i : StationIx} {e : Station} {mark : Option BayIx} (b : BayIx)
    (held : s.stations.entries.get i = some e) : KeepsBut O P s (conflict b i e mark s) := by
  unfold conflict
  refine .ite (fun _ => .refl _) fun _ => .trans (.raise ..) (.put _ rfl rfl fun _ h => ⟨?_, .inl ⟨e, ?_, rfl⟩, nofun⟩)
  · exact h.2.1 i e (by rw [raise_stations]; exact held)
  · rw [raise_stations]
    exact held

/-- Learning, from a bay that forwards. -/
theorem keeps_learn (a : Addr) (forwards : (s.bay b).state.forwarding = true) : KeepsBut O P s (learn b a s).2 := by
  unfold learn
  split
  · exact .refl _
  · next unicast =>
    rw [Bool.not_eq_true] at unicast
    split
    · next free =>
      split
      · exact .put _ rfl rfl fun _ _ => fits_of_free unicast (stationOf_none free) fun _ => forwards
      · exact keeps_learnFailed b
    · next i e found =>
      obtain ⟨at_, held, rfl⟩ := stationOf_some found
      have put : KeepsBut O P s (putStation i ⟨e.addr, b, .learned 0⟩ s) :=
        .put _ rfl rfl fun _ _ => fits_of_held unicast at_ fun _ => forwards
      split
      · split
        · exact put
        · exact put.trans (.stations _ (.inr rfl) fun _ h => h)
      · split
        · exact .refl _
        · exact keeps_conflict b held

theorem Station.older_addr (e : Station) : e.older.addr = e.addr ∧ e.older.bay = e.bay ∧
    e.older.isLearned = e.isLearned := by
  unfold Station.older
  split
  · next h => exact ⟨rfl, rfl, by simp [Station.isLearned, h]⟩
  · exact ⟨rfl, rfl, rfl⟩

theorem Station.unmarked_addr (e : Station) : e.unmarked.addr = e.addr ∧ e.unmarked.bay = e.bay ∧
    e.unmarked.isLearned = e.isLearned := by
  unfold Station.unmarked
  split
  · next h => exact ⟨rfl, rfl, by simp [Station.isLearned, h]⟩
  · exact ⟨rfl, rfl, rfl⟩

/-- Entries changed each by itself, keeping address, bay and class. -/
theorem StationsOk.map {f : Station → Station} {x : StationTable}
    (same : ∀ e, (f e).addr = e.addr ∧ (f e).bay = e.bay ∧ (f e).isLearned = e.isLearned)
    (entries : x.entries = s.stations.entries.map (Option.map f)) (h : StationsOk s) :
    StationsOk { s with stations := x } := by
  obtain ⟨unique, unicast, forwards⟩ := h
  have from_ : ∀ i e, x.entries.get i = some e → ∃ y, s.stations.entries.get i = some y ∧ e.addr = y.addr ∧
      e.bay = y.bay ∧ e.isLearned = y.isLearned := by
    intro i e he
    rw [entries, Tab.get_map, Option.map_eq_some_iff] at he
    obtain ⟨y, hy, rfl⟩ := he
    exact ⟨y, hy, same y⟩
  refine ⟨fun i j e f he hf eq => ?_, fun i e he => ?_, fun i e he learned => ?_⟩
  · obtain ⟨y, hy, ay, -⟩ := from_ i e he
    obtain ⟨z, hz, az, -⟩ := from_ j f hf
    exact unique i j y z hy hz (ay ▸ az ▸ eq)
  · obtain ⟨y, hy, ay, -⟩ := from_ i e he
    exact ay ▸ unicast i y hy
  · obtain ⟨y, hy, -, by_, ly⟩ := from_ i e he
    exact by_ ▸ forwards i y hy (ly ▸ learned)

theorem keeps_agingExpiry : KeepsBut O P (s.reach s.stations.agingTimer) (agingExpiry s) :=
  .trans (keeps_dropStations Station.expires) (.stations _ (.inr rfl) fun _ h => h.map Station.older_addr rfl)

theorem keeps_cmdAddStation (a : Addr) (bay : Byte) : KeepsBut O P s (cmdAddStation a bay s) := by
  unfold cmdAddStation
  split
  · exact .answer ..
  · refine .ite (fun _ => .answer ..) fun unicast => ?_
    rw [Bool.not_eq_true] at unicast
    split
    · exact .answer ..
    · next b _ _ i displaces slot =>
      have fits : Station.Fits ⟨a, b, .fixed none⟩ i s := by
        unfold stationSlot at slot
        split at slot
        · next held =>
          injection slot with slot
          injection slot with at_
          exact fits_of_held unicast (at_ ▸ held) nofun
        · next free => exact fits_of_free unicast free nofun
      refine .trans (t := { s with stations := { s.stations with
        entries := s.stations.entries.set i (some ⟨a, b, .fixed none⟩)
        fullMark := s.stations.fullMark && !displaces } }) (.put _ rfl rfl fun _ _ => fits) (.answer ..)

theorem keeps_cmdRemoveStation (a : Addr) : KeepsBut O P s (cmdRemoveStation a s) := by
  unfold cmdRemoveStation
  split
  · exact .answer ..
  · next i _ =>
    refine .trans (.stations { s.stations with entries := s.stations.entries.set i none, fullMark := false } (.inr rfl)
      fun _ h => ?_) (.answer ..)
    obtain ⟨unique, unicast, forwards⟩ := h
    have kept : ∀ j e, (s.stations.entries.set i none).get j = some e → s.stations.entries.get j = some e := by
      intro j e he
      rw [Tab.get_set] at he
      split at he
      · cases he
      · exact he
    exact ⟨fun j k e f he hf => unique j k e f (kept j e he) (kept k f hf), fun j e he => unicast j e (kept j e he),
      fun j e he => forwards j e (kept j e he)⟩

theorem keeps_cmdReadStations (first count : BitVec 16) (room : Nat) :
    KeepsBut O P s (cmdReadStations first count room s) := by
  unfold cmdReadStations
  have drawn : KeepsBut O P s { s with draws := s.draws + 1 } := .loose ..
  exact .ite (fun _ => drawn.trans (.answer ..)) fun _ => drawn.trans (.answer ..)

/-! ### CLEAR (R181) -/

theorem keeps_clearEvents : KeepsBut O P s (clearEvents s) :=
  .events _ (.inr rfl) fun _ ⟨low, high, _, _⟩ => ⟨low, high, Nat.zero_le _, Nat.zero_le _⟩

/-- Supplies changed in nothing that a law or a setting reads. -/
theorem KeepsBut.minorSupplies (x : Tab Supply 6) (same : ∀ i, (x.get i).read = (s.supply i).read ∧
    (x.get i).state = (s.supply i).state ∧ (x.get i).counted = (s.supply i).counted ∧
    (x.get i).override = (s.supply i).override ∧ countedCapacity (x.get i) = countedCapacity (s.supply i)) :
    KeepsBut O P s { s with supplies := x } := by
  refine .supplies x (.inr (funext fun i => (same i).2.2.2.1)) (fun _ ⟨counted, read, raw, budget⟩ => ?_) fun _ h => ?_
  · have records : (fun i => (State.supply { s with supplies := x } i).counted) = fun i => (s.supply i).counted :=
      funext fun i => (same i).2.2.1
    refine ⟨fun i => ?_, fun i => ?_, by rw [records]; exact raw, budget⟩
    · exact (same i).2.2.1.trans ((counted i).trans (same i).2.2.2.2.symm)
    · intro h
      exact (same i).2.1.trans (read i ((same i).1 ▸ h))
  · exact StoreOk.congr (s := s) (t := { s with supplies := x }) rfl (fun _ => rfl) (fun _ => rfl) (fun i => (same i).2.1) (fun i => (same i).1) h

/-- Uplinks changed in nothing that a law or a setting reads. -/
theorem KeepsBut.minorUplinks (x : Tab Uplink 4) (same : ∀ u, (x.get u).up = (s.uplink u).up ∧
    (x.get u).trusted = (s.uplink u).trusted ∧ (x.get u).hold = (s.uplink u).hold) :
    KeepsBut O P s { s with uplinks := x } := by
  refine .uplinks x (.inr (congrArg (_, ·) (funext fun u => ?_))) (fun _ h => ?_)
    fun _ ⟨queue, list, unicast, manager, timer, w, hw⟩ => ⟨queue, list, unicast, manager, timer, w, ?_⟩
  · exact Prod.ext (same u).2.1 (same u).2.2
  · exact ActiveUplinksOk.congr (s := s) (t := { s with uplinks := x }) (fun _ => rfl) (fun _ => rfl) (fun _ => rfl) (fun u => (same u).1) h
  · exact (same w).2.1.trans hw

theorem keeps_clearCounters : KeepsBut O P s (clearCounters s) := by
  refine .trans (.bays (s.bays.map fun y => { y with counters := ⟨0, 0, 0, 0, 0, 0, 0, 0, 0⟩, sticky := .clear })
    fun c => by rw [Tab.get_map]; exact ⟨rfl, rfl, rfl, rfl, rfl, rfl, rfl, rfl, rfl⟩) ?_
  refine .trans (.minorSupplies (s.supplies.map fun p => { p with sticky := .clear })
    fun i => by rw [Tab.get_map]; exact ⟨rfl, rfl, rfl, rfl, rfl⟩) ?_
  refine .trans (.minorUplinks (s.uplinks.map fun x => { x with counters := ⟨0, 0, 0, 0, 0, 0, 0, 0⟩ })
    fun u => by rw [Tab.get_map]; exact ⟨rfl, rfl, rfl⟩) ?_
  refine .trans (.stations { s.stations with
    entries := s.stations.entries.map (Option.map Station.unmarked), learnFail := 0, moves := 0 } (.inr rfl)
    fun _ h => h.map Station.unmarked_addr rfl) ?_
  refine .composites (s.composites.map fun c => { c with hitCounter := 0, totalHits := 0 }) (.inr (funext fun i => ?_))
    fun _ h i => ?_
  · simp only [Setting.value, Tab.get_map]
  · simp only [Tab.get_map]
    exact ⟨Nat.lt_of_le_of_lt (Nat.zero_le _) (h i).1, Nat.zero_le _⟩

theorem keeps_cmdClear (scopes : Byte) : KeepsBut O P s (cmdClear scopes s) :=
  .trans (.ite (fun _ => keeps_dropStations _) fun _ => .refl _) (.trans
    (.ite (fun _ => keeps_clearCounters) fun _ => .refl _) (.trans
    (.ite (fun _ => keeps_clearEvents) fun _ => .refl _) (.answer ..)))

/-! ### The watch units (R159 to R165) -/

theorem keeps_copyFrame (f : Frame) : KeepsBut O P s (copyFrame f s) := by
  unfold copyFrame
  refine .ite (fun _ => ?_) fun _ => .refl _
  split
  · exact .transmit ..
  · exact .refl _

/-- A composite after the judgement of its threshold. -/
def Composite.crossed (c : Composite) : Composite :=
  if c.threshold ≤ c.hitCounter then { c with hitCounter := 0, latched := true } else c

theorem crossThreshold_composites (i : CompIx) (s : State) :
    (crossThreshold i s).composites = s.composites.set i (s.composites.get i).crossed := by
  unfold crossThreshold Composite.crossed
  dsimp only
  split
  · split
    · next latched => rw [← latched]; rfl
    · apply Tab.ext_get
      intro k
      by_cases e : k = i
      · subst e
        rw [State.modComposite_get_self, Tab.get_set_self, raise_composites, State.modComposite_get_self]
      · rw [State.modComposite_get_ne _ e, Tab.get_set_ne _ e, raise_composites, State.modComposite_get_ne _ e]
  · rw [Tab.set_get]

theorem copyFrame_composites (f : Frame) (s : State) : (copyFrame f s).composites = s.composites := by
  unfold copyFrame
  repeat' split
  all_goals simp

/-- What a hit leaves of a composite. -/
def Composite.hitBy (set : BitVec 8) (c : Composite) : Composite := (c.count set).crossed

theorem applyHit_composites (i : CompIx) (set : BitVec 8) (f : Frame) (s : State) :
    (applyHit i set f s).composites = s.composites.set i ((s.composites.get i).hitBy set) := by
  have copied : ∀ v : State, (if (v.composites.get i).copy then copyFrame f v else v).composites = v.composites := by
    intro v
    split
    · exact copyFrame_composites f v
    · rfl
  rw [applyHit, crossThreshold_composites, copied, State.modComposite, Tab.get_set_self, Tab.set_set]
  rfl

theorem Composite.hitBy_settings (set : BitVec 8) (c : Composite) : (c.hitBy set).mask = c.mask ∧
    (c.hitBy set).mode = c.mode ∧ (c.hitBy set).drop = c.drop ∧ (c.hitBy set).copy = c.copy ∧
    (c.hitBy set).threshold = c.threshold := by
  unfold hitBy crossed
  split <;> exact ⟨rfl, rfl, rfl, rfl, rfl⟩

theorem sat32_le (n : Nat) : sat32 n ≤ 4294967295 := Nat.min_le_right _ _

theorem Composite.hitBy_bounds {c : Composite} (set : BitVec 8) (h : c.hitCounter < c.threshold) :
    (c.hitBy set).hitCounter < (c.hitBy set).threshold ∧ (c.hitBy set).totalHits ≤ 4294967295 := by
  unfold hitBy crossed
  split
  · exact ⟨Nat.lt_of_le_of_lt (Nat.zero_le _) h, sat32_le _⟩
  · next below => exact ⟨Nat.not_le.mp below, sat32_le _⟩

/-- A composite changed in its counts and its latch, within an operation that keeps its law in the end. -/
theorem KeepsBut.modComposite (i : CompIx) (f : Composite → Composite) (o : O .composites)
    (same : ∀ c, (f c).mask = c.mask ∧ (f c).mode = c.mode ∧ (f c).drop = c.drop ∧ (f c).copy = c.copy ∧
      (f c).threshold = c.threshold) : KeepsBut O P s (s.modComposite i f) := by
  refine .composites _ (.inr (funext fun k => ?_)) fun no => absurd o no
  simp only [Setting.value, Tab.get_set]
  split
  case isTrue e =>
    subst e
    obtain ⟨mask, mode, drop, copy, threshold⟩ := same (s.composites.get k)
    rw [mask, mode, drop, copy, threshold]
  case isFalse => rfl

theorem keeps_crossThreshold (i : CompIx) (o : O .composites) : KeepsBut O P s (crossThreshold i s) := by
  unfold crossThreshold
  dsimp only
  have settings : ∀ c : Composite, c.mask = c.mask ∧ c.mode = c.mode ∧ c.drop = c.drop ∧ c.copy = c.copy ∧
      c.threshold = c.threshold := fun _ => ⟨rfl, rfl, rfl, rfl, rfl⟩
  exact .ite (fun _ => .trans (.modComposite i (fun c => { c with hitCounter := 0 }) o settings) (.ite (fun _ => .refl _)
    fun _ => .trans (.raise ..) (.modComposite i _ o settings))) fun _ => .refl _

theorem keeps_applyHit (i : CompIx) (set : BitVec 8) (f : Frame) : KeepsBut O P s (applyHit i set f s) := by
  have counts : KeepsBut (Opening O .composites) P s (applyHit i set f s) :=
    .trans (.modComposite i (Composite.count set) (.here O _) fun _ => ⟨rfl, rfl, rfl, rfl, rfl⟩)
      (.trans (.ite (fun _ => keeps_copyFrame f) fun _ => .refl _) (keeps_crossThreshold i (.here O _)))
  refine .close .composites counts fun _ h k => ?_
  rw [applyHit_composites, Tab.get_set]
  split
  case isTrue => exact Composite.hitBy_bounds set (h i).1
  case isFalse => exact h k

theorem keeps_watch (v : WatchFields) (f : Frame) : KeepsBut O P s (watch v f s).2 := by
  refine .foldl _ (fun s i => ?_) _ _
  unfold judgeComposite
  split
  · exact keeps_applyHit ..
  · exact .refl _

/-- The parts of the state that the watch units can change. -/
def Watched (s t : State) : Prop :=
  t = { s with composites := t.composites, events := t.events, sent := t.sent, uplinks := t.uplinks }

theorem Watched.trans {v : State} (h : Watched s t) (k : Watched t v) : Watched s v := by
  unfold Watched at *
  rw [k, h]

theorem Watched.raise (k : EventKind) (w : Subject) (d : Nat) (x : Int) : Watched s (raise k w d x s) := by
  unfold Machine.raise
  split <;> rfl

theorem Watched.copyFrame (f : Frame) : Watched s (copyFrame f s) := by
  unfold Machine.copyFrame
  split
  · split
    · unfold transmit
      split <;> rfl
    · rfl
  · rfl

theorem Watched.crossThreshold (i : CompIx) : Watched s (crossThreshold i s) := by
  unfold Machine.crossThreshold
  dsimp only
  have reset : Watched s (s.modComposite i fun c => { c with hitCounter := 0 }) := rfl
  split
  · split
    · exact reset
    · exact reset.trans (.trans (.raise ..) rfl)
  · rfl

theorem Watched.applyHit (i : CompIx) (set : BitVec 8) (f : Frame) : Watched s (applyHit i set f s) := by
  have counted : Watched s (s.modComposite i (Composite.count set)) := rfl
  refine counted.trans ?_
  unfold Machine.applyHit
  dsimp only
  split
  · exact .trans (.copyFrame f) (.crossThreshold i)
  · exact .crossThreshold i

theorem Watched.watch (v : WatchFields) (f : Frame) : Watched s (watch v f s).2 := by
  suffices ∀ (l : List CompIx) (m : BitVec 8) (s : State),
      Watched s (l.foldl (fun s i => judgeComposite m f i s) s) from this _ _ s
  intro l m
  induction l with
  | nil => exact fun s => rfl
  | cons i l ih =>
    intro s
    refine .trans (t := judgeComposite m f i s) ?_ (ih _)
    unfold judgeComposite
    split
    · exact .applyHit ..
    · rfl

/-! ### Frames (R136 to R141) -/

theorem keeps_sendUp (f : Frame) (forwards : (s.bay b).state.forwarding = true) : KeepsBut O P s (sendUp b u f s) := by
  have watched := keeps_watch (O := O) (P := P) (s := s) (upstreamFields b u f s) f
  have bays : (watch (upstreamFields b u f s) f s).2.bays = s.bays := by
    rw [Watched.watch (s := s) (upstreamFields b u f s) f]
  unfold sendUp
  generalize watch (upstreamFields b u f s) f s = w at watched bays ⊢
  obtain ⟨drops, v⟩ := w
  have forwards' : (v.bay b).state.forwarding = true := by rw [State.bay, bays]; exact forwards
  have learned := keeps_learn (O := O) (P := P) (frameSrc f) forwards'
  cases drops with
  | true => exact watched.trans (.countBay ..)
  | false =>
    refine watched.trans ?_
    dsimp only
    generalize learn b (frameSrc f) v = x at learned ⊢
    obtain ⟨meets, t⟩ := x
    cases meets with
    | true => exact learned.trans (.countBay ..)
    | false => exact learned.trans (.transmit ..)

theorem keeps_bayFrame (b : BayIx) (f : Frame) : KeepsBut O P s (bayFrame b f s) := by
  unfold bayFrame
  refine .ite (fun _ => .refl _) fun _ => .trans (.countBay b fun c => { c with framesUp := sat32 c.framesUp })
    (.ite (fun _ => .countBay ..) fun forwards => ?_)
  rw [Bool.not_eq_true, Bool.not_eq_false'] at forwards
  split
  · exact .countBay ..
  · exact .ite (fun _ => .countBay ..) fun _ => keeps_sendUp f forwards

theorem keeps_deliver (f : Frame) (b : BayIx) : KeepsBut O P s (deliver f b s) := .trans (.countBay ..) (.loose ..)

theorem keeps_deliverTo (f : Frame) (set : List GroupIx) (b : BayIx) : KeepsBut O P s (deliverTo u f set b s) :=
  .ite (fun _ => .countBay ..) fun _ => .ite (fun _ => .countBay ..) fun _ => .ite (fun _ => .countBay ..)
    fun _ => keeps_deliver f b

theorem keeps_flood (f : Frame) (set : List GroupIx) : KeepsBut O P s (flood u f set s) :=
  .ite (fun _ => .countUplink ..) fun _ => .foldl _ (fun _ b => keeps_deliver f b) _ _

theorem keeps_sendDown (f : Frame) (set : List GroupIx) : KeepsBut O P s (sendDown u f set s) := by
  have watched := keeps_watch (O := O) (P := P) (s := s) (downstreamFields u f set s) f
  unfold sendDown
  generalize watch (downstreamFields u f set s) f s = w at watched ⊢
  obtain ⟨drops, v⟩ := w
  cases drops with
  | true => exact watched.trans (.countUplink ..)
  | false =>
    refine watched.trans ?_
    dsimp only
    split
    · exact keeps_deliverTo ..
    · exact keeps_flood ..

theorem keeps_linkFrame (u : UplinkIx) (f : Frame) : KeepsBut O P s (linkFrame u f s) := by
  unfold linkFrame
  exact .ite (fun _ => .refl _) fun _ => .trans (.countUplink ..) (.ite
    (fun _ => .ite (fun _ => keeps_judgeControl _) fun _ => .countUplink ..)
    fun _ => .ite (fun _ => .countUplink ..) fun _ => keeps_sendDown ..)

end Sys2Proof.Machine

namespace Sys2Proof.Machine

variable {O : Law → Prop} {P : Permit → Prop} {s t : State} {b : BayIx}

theorem KeepsBut.answered {st : Status} {body : List Byte} (h : KeepsBut O P s t) : KeepsBut O P s (Machine.answer st body t) :=
  h.trans (.answer ..)

/-! ### Requests on the ramp channel, the watch units, the managers and the events -/

theorem keeps_cmdSetRamp (sel : Byte) (c0 c1 c2 c3 rampTimeout settle stopTimeout shedGrace : BitVec 16)
    (permit : P (.sets .ramp)) :
    KeepsBut O P s (cmdSetRamp sel c0 c1 c2 c3 rampTimeout settle stopTimeout shedGrace s) :=
  .answered (.ramp _ (.inl permit) fun _ h => h)

theorem keeps_cmdSetWatch (unit selector negate direction enabled : Byte) (lo hi : BitVec 48)
    (permit : P (.sets .watch)) : KeepsBut O P s (cmdSetWatch unit selector negate direction enabled lo hi s) := by
  unfold cmdSetWatch
  split
  · exact .answer ..
  · split
    · exact .trans (.units _ permit) (.answer ..)
    · exact .answer ..

theorem keeps_cmdSetComposite (comp mask mode drop copy : Byte) (threshold : BitVec 16)
    (permit : P (.sets .composite)) : KeepsBut O P s (cmdSetComposite comp mask mode drop copy threshold s) := by
  unfold cmdSetComposite
  split
  · exact .answer ..
  · next i _ =>
    dsimp only
    split
    · next m d k _ _ _ =>
      refine .answered (.composites _ (.inl permit) fun _ h j => ?_)
      simp only [Tab.get_set]
      split
      · exact ⟨Nat.le_max_right _ _, (h i).2⟩
      · exact h j
    · exact .answer ..

theorem keeps_cmdArmComposite (comp : Byte) : KeepsBut O P s (cmdArmComposite comp s) := by
  unfold cmdArmComposite
  split
  · exact .answer ..
  · next i _ =>
    have armed : KeepsBut (Opening O .composites) P s (s.modComposite i fun c => { c with latched := false }) :=
      .modComposite i _ (.here O _) fun _ => ⟨rfl, rfl, rfl, rfl, rfl⟩
    refine .trans (.close .composites armed fun _ h k => ?_) (.answer ..)
    by_cases e : k = i
    · subst e
      rw [State.modComposite_get_self]
      exact h k
    · rw [State.modComposite_get_ne _ e]
      exact h k

theorem silenceAfter_unmanaged (timeout : Nat) (unmanaged : s.agent.managed = false)
    (stopped : s.agent.silenceTimer = none) : silenceAfter timeout s = none := by
  rw [silenceAfter, unmanaged]
  split
  · rfl
  · exact stopped

theorem keeps_cmdSetManagers (sel count : Byte) (timeout : BitVec 16) (addrs : List Addr)
    (permit : P (.sets .managers)) : KeepsBut O P s (cmdSetManagers sel count timeout addrs s) := by
  unfold cmdSetManagers
  refine .ite (fun _ => .answer ..) fun agrees => .ite (fun _ => .answer ..) fun fine => ?_
  dsimp only
  generalize clampSilence timeout.toNat = n
  refine .answered (.agent _ (.inl permit) (.inr rfl) rfl (fun _ h => ?_) fun _ h =>
    OutputsOk.congr (s := s) (fun _ => rfl) (fun _ => rfl) rfl h)
  obtain ⟨queue, list, unicast, manager, timer, trusted⟩ := h
  refine ⟨queue, ?_, ?_, manager, fun unmanaged => ?_, trusted⟩
  · cases hs : sel.getLsbD 0 with
    | false => exact list
    | true =>
      simp only [hs, Bool.true_and, Bool.or_eq_true, decide_eq_true_eq, not_or] at fine
      have few : ¬ 4 < count.toNat := fine.1
      show addrs.length ≤ 4
      omega
  · cases hs : sel.getLsbD 0 with
    | false => exact unicast
    | true =>
      simp only [hs, Bool.true_and, Bool.or_eq_true, not_or, Bool.not_eq_true, List.any_eq_false] at fine
      exact fun a ha => fine.2 a ha
  · have stopped := timer unmanaged
    cases hs : sel.getLsbD 1 with
    | false => exact stopped
    | true => exact silenceAfter_unmanaged n unmanaged stopped

theorem keeps_cmdReadEvents (count : Byte) (room : Nat) : KeepsBut O P s (cmdReadEvents count room s) := by
  unfold cmdReadEvents
  refine .answered (.events _ (.inr rfl) fun _ ⟨low, high, within, _⟩ => ⟨low, high, ?_, Nat.zero_le _⟩)
  exact Nat.le_trans (by rw [List.length_drop]; exact Nat.sub_le _ _) within

theorem keeps_cmdSetEventLimit (limit : Byte) (permit : P (.sets .limit)) :
    KeepsBut O P s (cmdSetEventLimit limit s) := by
  have bounds := clampNat_bounds (lo := 8) (hi := 64) (by decide) limit.toNat
  unfold cmdSetEventLimit
  dsimp only
  generalize clampNat 8 64 limit.toNat = n at bounds ⊢
  exact .answered
    (.events _ (.inl permit) fun _ _ => ⟨bounds.1, bounds.2, List.length_take_le n _, Nat.min_le_right _ _⟩)

theorem ackEntry_some {k : CondKey} {c d : Condition} (h : ackEntry k c = some d) :
    d = c ∨ c.active = true ∧ d = { c with acked := true } := by
  unfold ackEntry at h
  split at h
  · split at h
    · next active => exact .inr ⟨active, (Option.some.inj h).symm⟩
    · cases h
  · exact .inl (Option.some.inj h).symm

theorem keeps_cmdAckCondition (kind index : Byte) : KeepsBut O P s (cmdAckCondition kind index s) := by
  unfold cmdAckCondition
  split
  · exact .answer ..
  · exact .answer ..
  · next k _ =>
    refine .ite (fun _ => .answered (.setConditions _ (nodup_keys_filterMap fun c d h => ?_) fun h c hc => ?_))
      fun _ => .answer ..
    · rcases ackEntry_some h with rfl | ⟨-, rfl⟩ <;> rfl
    · obtain ⟨d, old, made⟩ := List.mem_filterMap.mp hc
      rcases ackEntry_some made with rfl | ⟨active, rfl⟩
      · exact h c old
      · exact fun _ => active

theorem keeps_cmdReadIdentity (cls index first count : Byte) (room : Nat) :
    KeepsBut O P s (cmdReadIdentity cls index first count room s) := by
  have record : ∀ o st, KeepsBut O P s (readRecord o st first.toNat count.toNat room s) := by
    intro o st
    unfold readRecord
    split <;> exact .answer ..
  unfold cmdReadIdentity
  split
  · exact .answer ..
  · exact .answer ..
  · refine .ite (fun _ => .answer ..) fun _ => .ite (fun _ => .answer ..) fun _ => ?_
    split
    · exact .answer ..
    · exact record ..

theorem keeps_cmdQueryBay (bay : Byte) : KeepsBut O P s (cmdQueryBay bay s) := keeps_onBay bay fun _ => .answer ..

end Sys2Proof.Machine

namespace Sys2Proof.Machine

variable {O : Law → Prop} {P Q : Permit → Prop} {s t u : State} {b : BayIx}

/-! ### More permits, and the clock -/

theorem LedStep.mono {n : Nat} {x y : Bay} (more : ∀ p, P p → Q p) (h : LedStep P n x y) : LedStep Q n x y where
  since := h.since
  anew := h.anew
  kept compatible := h.kept ⟨fun k => compatible.1 (k.imp (more _) (more _)),
    fun k => compatible.2.1 (k.imp (more _) (more _)), fun k => compatible.2.2 (more _ k)⟩
  inDark e := (h.inDark e).imp_right (more _)
  outDark e := (h.outDark e).imp_right (more _)
  inFault e := (h.inFault e).imp_right (more _)
  outFault e := (h.outFault e).imp_right (more _)
  inFast e := (h.inFast e).imp_right (Or.imp_right (more _))
  powering e := (h.powering e).imp_right (more _)
  online e := (h.online e).imp_right (Or.imp_right (more _))

theorem KeepsBut.mono (more : ∀ p, P p → Q p) (h : KeepsBut O P s t) : KeepsBut O Q s t :=
  { h with setting := fun x p => h.setting x fun q => p (more _ q), led := fun b => (h.led b).mono more }

/-- No law reads the clock. -/
theorem Law.holds_now (l : Law) (n : Nat) : l.holds { s with now := n } ↔ l.holds s := by cases l <;> exact Iff.rfl

theorem Setting.value_now (x : Setting) (n : Nat) : x.value { s with now := n } = x.value s := by cases x <;> rfl

/-- What a command does before the work it leaves is taken: the clock may move on, and all is kept from there. -/
def Acts (P : Permit → Prop) (s t : State) : Prop := ∃ n, s.now ≤ n ∧ Keeps P { s with now := n } t

theorem Acts.at_once (h : Keeps P s t) : Acts P s t := ⟨s.now, Nat.le_refl _, h⟩

/-- From the deadline on. -/
theorem Acts.from_deadline {d : Nat} (h : Keeps P (s.reach d) t) : Acts P s t := ⟨max s.now d, Nat.le_max_left .., h⟩

theorem Acts.refl (s : State) : Acts P s s := .at_once (.refl s)

theorem Acts.trans (h : Acts P s t) (k : Keeps P t u) : Acts P s u := by
  obtain ⟨n, later, h⟩ := h
  exact ⟨n, later, h.trans k⟩

/-! ### Timers -/

theorem acts_rampExpiry (permit : P .inFault) : Acts P s (rampExpiry s) := by
  unfold rampExpiry
  split
  · refine .from_deadline (.ite (fun powering => ?_) fun _ => .refl _)
    exact keeps_enterFault _ (.inl (by rw [powering]; rfl)) permit
  · exact .refl s

theorem acts_settleExpiry : Acts P s (settleExpiry s) := by
  unfold settleExpiry
  split
  · next d timer =>
    refine .from_deadline (.ramp _ (.inr rfl) fun _ ⟨⟨powering, ramps, settles, iref⟩, lists⟩ => ⟨⟨?_, ?_, rfl, ?_⟩, lists⟩)
    all_goals
      have settling : s.ramp.state = .settling := by
        have := settles
        simp only [State.reach_ramp, timer, Option.isSome_some] at this
        exact of_decide_eq_true this.symm
    · exact fun b => (powering b).trans (by rw [State.reach_ramp, settling]; simp)
    · rw [State.reach_ramp, settling] at ramps
      exact ramps
    · exact fun _ => iref (by rw [State.reach_ramp, settling]; rfl)
  · exact .refl s

theorem acts_stopExpiry (permit : P .inDark) : Acts P s (stopExpiry b s) := by
  unfold stopExpiry
  split
  · exact .from_deadline (keeps_endStop _ permit)
  · exact .refl s

theorem acts_shedExpiry (permit : P .inDark) : Acts P s (shedExpiry b s) := by
  unfold shedExpiry
  split
  · exact .from_deadline (keeps_endShed _ permit)
  · exact .refl s

theorem acts_capExpiry : Acts P s (capExpiry b s) := by
  unfold capExpiry
  split
  · exact .from_deadline (.trans (.minor b _ ⟨rfl, rfl, rfl, rfl, rfl, rfl, rfl, rfl, rfl⟩) keeps_shedForCap)
  · exact .refl s

theorem acts_pollExpiry : Acts P s (pollExpiry b s) := by
  unfold pollExpiry
  split
  · split
    · exact .from_deadline (.modLink b _)
    · exact .refl s
  · exact .refl s

theorem acts_roundExpiry : Acts P s (roundExpiry s) := .from_deadline (d := s.supplyLink.roundTimer) (.loose ..)

theorem acts_responseExpiry (l : Link) (dark : P .inDark) (fault : P .inFault) : Acts P s (responseExpiry l s) := by
  unfold responseExpiry
  split
  · exact .from_deadline (keeps_failTxn l _ _ dark fault)
  · exact .refl s

theorem acts_windowExpiry (l : Link) (dark : P .inDark) (fault : P .inFault) : Acts P s (windowExpiry l s) := by
  unfold windowExpiry
  split
  · exact .from_deadline (keeps_failTxn l _ _ dark fault)
  · exact .refl s

theorem acts_quietOver (l : Link) : Acts P s (quietOver l s) := by
  unfold quietOver
  dsimp only
  split
  · exact .from_deadline (keeps_setEngine l _)
  · exact .refl s

theorem keeps_beginSlot : KeepsBut O P s (beginSlot s) := .loose ..

theorem acts_slotEnd (code : BitVec 12) : Acts P s (slotEnd code s) := by
  refine .from_deadline (d := s.converter.slotEnd) ?_
  unfold slotEnd
  dsimp only
  split
  · exact .trans (.ite (fun _ => .refl _) fun _ => keeps_converted ..) keeps_beginSlot
  · exact keeps_beginSlot

theorem acts_controlExpiry (z : ZoneIx) : Acts P s (controlExpiry z s) :=
  .from_deadline (d := (s.zone z).controlTimer) (.trans
    (.minorZone z (fun x => { x with controlTimer := (s.reach (s.zone z).controlTimer).now + x.settings.controlPeriod })
      (.inr rfl) rfl) (keeps_updateZone z))

theorem acts_windowEnd : Acts P s (windowEnd s) := .from_deadline keeps_windowEnd

theorem acts_holdExpiry (u : UplinkIx) : Acts P s (holdExpiry u s) := by
  cases h : (s.uplink u).holdTimer with
  | none => rw [holdExpiry, h]; exact .refl s
  | some d => exact .from_deadline (keeps_holdExpiry u h)

theorem acts_agingExpiry : Acts P s (agingExpiry s) := .from_deadline keeps_agingExpiry

theorem acts_silenceExpiry : Acts P s (silenceExpiry s) := by
  unfold silenceExpiry
  split
  · exact .from_deadline keeps_enterUnmanaged
  · exact .refl s

/-! ### The agent's turn (R172) -/

/-- The permits of a record: every setting, and what else its kind may do. -/
def recording (D : Permit → Prop) : Permit → Prop := fun p => (∃ x, p = .sets x) ∨ D p

theorem recording_sets (D : Permit → Prop) (x : Setting) : recording D (.sets x) := .inl ⟨x, rfl⟩

/-- A record's permits name no pattern both left and entered. -/
structure RecordPermits (P : Permit → Prop) : Prop where
  compatible : Compatible P
  sets : ∀ x, P (.sets x)

theorem recordPermits_one (q : Permit) (h : q ≠ .grant) : RecordPermits (recording (· = q)) := by
  refine ⟨?_, recording_sets _⟩
  cases q <;> simp_all [Compatible, recording]

theorem recordPermits_recheck : RecordPermits (recording fun p => p = .outDark ∨ p = .outFault) :=
  ⟨by simp [Compatible, recording], recording_sets _⟩

theorem recordPermits_none : RecordPermits (recording fun _ => False) :=
  ⟨by simp [Compatible, recording], recording_sets _⟩

theorem keeps_cmdBayAction (bay action : Byte) (s : State) :
    ∃ P, RecordPermits P ∧ Keeps P s (cmdBayAction bay action s) := by
  unfold cmdBayAction
  split
  · exact ⟨_, recordPermits_one .outDark nofun, keeps_onBay bay fun b => keeps_actOn b (.inr rfl)⟩
  · split
    · exact ⟨_, recordPermits_one .inDark nofun, keeps_onBay bay fun b => keeps_actStop b (.inr rfl)⟩
    · split
      · exact ⟨_, recordPermits_one .inDark nofun, keeps_onBay bay fun b => keeps_actForceOff b (.inr rfl)⟩
      · split
        · exact ⟨_, recordPermits_one .outFault nofun, keeps_onBay bay fun b => keeps_actClearFault b (.inr rfl)⟩
        · split
          · exact ⟨_, recordPermits_recheck,
              keeps_onBay bay fun b => keeps_actRecheck b (fun _ => .inr (.inl rfl)) (.inr (.inr rfl))⟩
          · exact ⟨_, recordPermits_none, keeps_onBay bay fun b => keeps_answerState ..⟩

theorem keeps_run (k : Kind) (l : List Byte) (room : Nat) (s : State) :
    ∃ P, RecordPermits P ∧ Keeps P s (k.run l room s) := by
  have sets := recording_sets fun _ => False
  cases k
  case bayAction => exact keeps_cmdBayAction ..
  all_goals refine ⟨_, recordPermits_none, ?_⟩
  case setManagers => exact keeps_cmdSetManagers (permit := sets _) ..
  case clear => exact keeps_cmdClear ..
  case queryBay => exact keeps_cmdQueryBay ..
  case setBay => exact keeps_cmdSetBay (permit := sets _) ..
  case readIdentity => exact keeps_cmdReadIdentity ..
  case setSupply => exact keeps_cmdSetSupply (permit := sets _) ..
  case setPowerPolicy => exact keeps_cmdSetPowerPolicy (permit := sets _) ..
  case setRamp => exact keeps_cmdSetRamp (permit := sets _) ..
  case setZone => exact keeps_cmdSetZone (permit := sets _) ..
  case loadCurve => exact keeps_cmdLoadCurve (permit := sets _) ..
  case setSensor => exact keeps_cmdSetSensor (permit := sets _) ..
  case setUplink => exact keeps_cmdSetUplink (permit := sets _) ..
  case setGroup => exact keeps_cmdSetGroup (permit := sets _) ..
  case addStation => exact keeps_cmdAddStation ..
  case removeStation => exact keeps_cmdRemoveStation ..
  case readStations => exact keeps_cmdReadStations ..
  case setWatch => exact keeps_cmdSetWatch (permit := sets _) ..
  case setComposite => exact keeps_cmdSetComposite (permit := sets _) ..
  case armComposite => exact keeps_cmdArmComposite ..
  case readEvents => exact keeps_cmdReadEvents ..
  case ackCondition => exact keeps_cmdAckCondition ..
  case setEventLimit => exact keeps_cmdSetEventLimit (permit := sets _) ..
  all_goals exact .answer ..

theorem keeps_execute (r : Record) (room : Nat) (s : State) : ∃ P, RecordPermits P ∧ Keeps P s (r.execute room s) := by
  unfold Record.execute
  split
  · exact ⟨_, recordPermits_none, .answer ..⟩
  · split
    · exact keeps_run ..
    · exact ⟨_, recordPermits_none, .answer ..⟩

/-! ### What a command does -/

/-- A command's outcome: what it does, the work taken after it if it makes its change whole, and an end that leaves the
bays. -/
structure Did (P : Permit → Prop) (s t : State) : Prop where
  steps : ∃ u w, Acts P s u ∧ (w = u ∨ w = settle u) ∧ Keeps P w t ∧ t.bays = w.bays

theorem Acts.did (h : Acts P s t) : Did P s t := ⟨t, t, h, .inl rfl, .refl t, rfl⟩

theorem promptAttention_bays' (before : State) : (promptAttention before s).bays = s.bays := by simp

theorem Acts.changed (h : Acts P s u) (before : State) : Did P s (promptAttention before (settle u)) :=
  ⟨u, settle u, h, .inr rfl, .promptAttention before, promptAttention_bays' before⟩

theorem Did.trans (h : Did P s t) (k : Keeps P t u) (bays : u.bays = t.bays) : Did P s u := by
  obtain ⟨v, w, acts, taken, tail, same⟩ := h
  exact ⟨v, w, acts, taken, tail.trans k, bays.trans same⟩

theorem Did.after (h : Keeps P s t) (bays : t.bays = s.bays) (k : Did P t u) : Did P s u := by
  obtain ⟨v, w, ⟨n, later, acts⟩, rest⟩ := k
  refine ⟨v, w, ⟨n, h.now ▸ later, .trans ?_ acts⟩, rest⟩
  exact { law := fun l o x => (l.holds_now n).mpr (h.law l o ((l.holds_now n).mp x))
          setting := fun x p => ((x.value_now n).trans (h.setting x p)).trans (x.value_now n).symm
          led := fun b => .same (congrArg (fun y => (Tab.get y b).state) bays) (congrArg (fun y => (Tab.get y b).ledSince) bays)
          now := rfl, pending := h.pending, porstLow := h.porstLow, straps := h.straps }

theorem KeepsBut.execution (x : Option Execution) (permit : P (.sets .execution)) :
    KeepsBut O P s { s with agent := { s.agent with execution := x } } :=
  .agent _ (.inr rfl) (.inl permit) rfl (fun _ h => h) fun _ h =>
    OutputsOk.congr (s := s) (fun _ => rfl) (fun _ => rfl) rfl h

theorem keeps_respond (c : ControlFrame) (bad : Bool) (sequence : BitVec 16) (answered : Nat) (records : List Byte)
    (permit : P (.sets .execution)) : KeepsBut O P s (respond c bad sequence answered records s) :=
  .trans (.execution none permit) (.transmit ..)

theorem respond_bays (c : ControlFrame) (bad : Bool) (sequence : BitVec 16) (answered : Nat) (records : List Byte)
    (s : State) : (respond c bad sequence answered records s).bays = s.bays := transmit_bays ..

theorem keeps_finish (x : Execution) (permit : P (.sets .execution)) : KeepsBut O P s (finish x s) :=
  keeps_respond (permit := permit) ..

theorem finish_bays (x : Execution) (s : State) : (finish x s).bays = s.bays := respond_bays ..

theorem keeps_afterRecord (x : Execution) (st : Status) (permit : P (.sets .execution)) :
    KeepsBut O P s (afterRecord x st s) := .ite (fun _ => keeps_finish x permit) fun _ => .execution _ permit

theorem afterRecord_bays (x : Execution) (st : Status) (s : State) : (afterRecord x st s).bays = s.bays := by
  unfold afterRecord
  split
  · exact finish_bays ..
  · rfl

theorem did_runRecord (x : Execution) (s : State) : ∃ P, RecordPermits P ∧ Did P s (runRecord x s) := by
  have ends : ∀ P, RecordPermits P → Did P s (finish x s) := fun P permits =>
    Acts.did (.at_once (keeps_finish x (permits.sets _)))
  unfold runRecord
  dsimp only
  split
  · exact ⟨_, recordPermits_none, ends _ recordPermits_none⟩
  · split
    · exact ⟨_, recordPermits_none, ends _ recordPermits_none⟩
    · next r _ _ =>
      obtain ⟨P, permits, acts⟩ := keeps_execute r (1500 - 8 - x.records.length - 6) s
      refine ⟨P, permits, ?_⟩
      split
      · exact ends P permits
      · split
        · exact ends P permits
        · have did : Did P s (change (r.execute (1500 - 8 - x.records.length - 6)) s) := (Acts.at_once acts).changed s
          exact did.trans (keeps_afterRecord _ _ (permits.sets _)) (afterRecord_bays ..)

theorem did_beginFrame (c : ControlFrame) (s : State) : ∃ P, RecordPermits P ∧ Did P s (beginFrame c s) := by
  have refused : ∀ sequence, ∃ P, RecordPermits P ∧ Did P s (respond c true sequence 0 [] s) := fun _ =>
    ⟨_, recordPermits_none, Acts.did (.at_once (keeps_respond (permit := recordPermits_none.sets _) ..))⟩
  unfold beginFrame
  dsimp only
  split
  · exact refused 0
  · split
    · exact refused _
    · obtain ⟨P, permits, did⟩ := did_runRecord ⟨c, 8, 0, []⟩ { s with agent := { s.agent with execution := some ⟨c, 8, 0, []⟩ } }
      exact ⟨P, permits, .after (t := { s with agent := { s.agent with execution := some ⟨c, 8, 0, []⟩ } })
        (.execution _ (permits.sets _)) rfl did⟩

theorem did_agentTurn (s : State) : ∃ P, RecordPermits P ∧ Did P s (agentTurn s) := by
  unfold agentTurn
  split
  · exact did_runRecord ..
  · next c rest _ queue =>
    obtain ⟨P, permits, did⟩ := did_beginFrame c { s with agent := { s.agent with queue := rest } }
    refine ⟨P, permits, .after (t := { s with agent := { s.agent with queue := rest } }) (.agent _ (.inr rfl) (.inr rfl) rfl (fun _ ⟨few, others⟩ => ⟨?_, others⟩) fun _ h =>
      OutputsOk.congr (s := s) (fun _ => rfl) (fun _ => rfl) rfl h) rfl did⟩
    rw [show State.agent _ = s.agent from rfl, queue] at few
    exact Nat.le_of_succ_le few
  · exact ⟨_, recordPermits_none, Acts.did (.refl s)⟩

/-! ### Every command but POWER_ON_RESET -/

/-- The settings a command may change: those its request names, and any by a control frame. -/
def MaySet (c : Instr) (x : Setting) : Prop :=
  match c with
  | .controlFrameExecution => True
  | .setBay .. => x = .bay
  | .setSupply .. => x = .supply
  | .setPowerPolicy .. => x = .policy
  | .setRamp .. => x = .ramp
  | .setZone .. => x = .zone
  | .loadCurve .. => x = .curve
  | .setSensor .. => x = .sensor
  | .setUplink .. => x = .uplink
  | .setGroup .. => x = .group
  | .setWatch .. => x = .watch
  | .setComposite .. => x = .composite
  | .setManagers .. => x = .managers
  | .setEventLimit .. => x = .limit
  | _ => False

/-- The permits of a command. -/
structure CommandPermits (c : Instr) (P : Permit → Prop) : Prop where
  compatible : Compatible P
  sets : ∀ x, P (.sets x) → MaySet c x

/-- What a command does, with permits of its own. -/
def Does (c : Instr) (s t : State) : Prop := ∃ P, CommandPermits c P ∧ Did P s t

variable {c : Instr}

/-- A command that changes nothing but what every operation may. -/
theorem Did.plain (h : Did (fun _ => False) s t) : Does c s t :=
  ⟨_, ⟨by simp [Compatible], fun _ => False.elim⟩, h⟩

theorem Did.one (q : Permit) (h : Did (· = q) s t) (fine : q ≠ .grant) (sets : ∀ x, q = .sets x → MaySet c x) :
    Does c s t := ⟨_, ⟨by cases q <;> simp_all [Compatible], fun x e => sets x e.symm⟩, h⟩

/-- The permits of a link's outcome: a bay goes OFF or into FAULT. -/
theorem Did.link (h : Did (fun p => p = .inDark ∨ p = .inFault) s t) : Does c s t :=
  ⟨_, ⟨by simp [Compatible], by simp⟩, h⟩

theorem presencePermits_compatible (st : BayState) : Compatible (presencePermits st) := by
  unfold presencePermits Compatible
  split <;> simp

theorem buttonPermits_compatible (st : BayState) : Compatible (buttonPermits st) := by
  unfold buttonPermits Compatible
  split <;> simp

theorem does_of_gated {f : State → State} (high : s.porstLow = false) (h : gated s f = .next t) (k : Does c s (f s)) :
    Does c s t := by
  rw [gated_high high] at h
  injection h with h
  exact h ▸ k

/-- What a command that is carried out does. -/
theorem exec_does (high : s.porstLow = false) (notReset : ∀ p straps fans, c ≠ .powerOnReset p straps fans)
    (h : exec c s = .next t) : Does c s t := by
  have plain : ∀ {f : State → State}, gated s f = .next t → Acts (fun _ => False) s (f s) → Does c s t :=
    fun h k => does_of_gated high h (Did.plain k.did)
  have whole : ∀ {f : State → State}, gated s (change f) = .next t → Acts (fun _ => False) s (f s) → Does c s t :=
    fun h k => does_of_gated high h (Did.plain (k.changed s))
  have sets : ∀ {f : State → State} (x : Setting), gated s f = .next t → Keeps (· = .sets x) s (f s) → MaySet c x →
      Does c s t :=
    fun x h k own => does_of_gated high h (Did.one _ (Acts.at_once k).did nofun fun y e => Permit.sets.inj e ▸ own)
  have setWhole : ∀ {f : State → State} (x : Setting), gated s (change f) = .next t → Keeps (· = .sets x) s (f s) →
      MaySet c x → Does c s t :=
    fun x h k own => does_of_gated high h
      (Did.one _ ((Acts.at_once k).changed s) nofun fun y e => Permit.sets.inj e ▸ own)
  have oneWhole : ∀ {f : State → State} (q : Permit), gated s (change f) = .next t → Acts (· = q) s (f s) → q ≠ .grant →
      (∀ x, q = .sets x → MaySet c x) → Does c s t :=
    fun q h k fine sets => does_of_gated high h (Did.one q (k.changed s) fine sets)
  have link : ∀ {f : State → State}, gated s (change f) = .next t →
      Acts (fun p => p = .inDark ∨ p = .inFault) s (f s) → Does c s t :=
    fun h k => does_of_gated high h (Did.link (k.changed s))
  cases c
  case powerOnReset => exact absurd rfl (notReset _ _ _)
  case presenceSample b present =>
    exact does_of_gated high h ⟨_, ⟨presencePermits_compatible _, by unfold presencePermits; intro x; split <;> simp⟩,
      (Acts.at_once (keeps_presence present)).changed s⟩
  case attentionSample b pressed =>
    exact does_of_gated high h ⟨_, ⟨buttonPermits_compatible _, by unfold buttonPermits; intro x; split <;> simp⟩,
      (Acts.at_once (keeps_attention pressed)).changed s⟩
  case pgoodSample => exact oneWhole .inFault h (.at_once (keeps_pgood _ rfl)) nofun nofun
  case rampTimerExpiry => exact oneWhole .inFault h (acts_rampExpiry rfl) nofun nofun
  case settleTimerExpiry => exact whole h acts_settleExpiry
  case stopTimerExpiry => exact oneWhole .inDark h (acts_stopExpiry rfl) nofun nofun
  case shedTimerExpiry => exact oneWhole .inDark h (acts_shedExpiry rfl) nofun nofun
  case capTimerExpiry => exact whole h acts_capExpiry
  case pollTimerExpiry => exact whole h acts_pollExpiry
  case roundTimerExpiry => exact whole h acts_roundExpiry
  case requestSent => exact plain h (.at_once (keeps_setEngine ..))
  case responseTimerExpiry => exact link h (acts_responseExpiry _ (.inl rfl) (.inr rfl))
  case completionWindowExpiry => exact link h (acts_windowExpiry _ (.inl rfl) (.inr rfl))
  case linkCharacter => exact link h (.at_once (keeps_character _ _ (.inl rfl) (.inr rfl)))
  case quietEnd => exact whole h (acts_quietOver _)
  case supplyPresenceSample => exact whole h (.at_once (keeps_supplyPresence _))
  case dcOkSample => exact whole h (.at_once (keeps_dcOk ..))
  case conversionSlotEnd => exact whole h (acts_slotEnd _)
  case controlPeriodExpiry => exact plain h (acts_controlExpiry _)
  case tachWindowEnd => exact whole h acts_windowEnd
  case fanPresenceSample => exact whole h (.at_once (keeps_fanPresence ..))
  case uplinkLinkReport => exact whole h (.at_once (keeps_linkReport ..))
  case holdTimerExpiry => exact whole h (acts_holdExpiry _)
  case agingTimerExpiry => exact plain h acts_agingExpiry
  case bayPortFrame => exact whole h (.at_once (keeps_bayFrame ..))
  case uplinkFrame => exact whole h (.at_once (keeps_linkFrame ..))
  case silenceTimerExpiry => exact whole h acts_silenceExpiry
  case controlFrameExecution =>
    obtain ⟨P, permits, did⟩ := did_agentTurn s
    exact does_of_gated high h ⟨P, ⟨permits.compatible, fun _ _ => trivial⟩, did⟩
  case setManagers => exact sets .managers h (keeps_cmdSetManagers (permit := rfl) ..) rfl
  case clearStations => exact plain h (.at_once (keeps_cmdClear _))
  case clearCounters => exact plain h (.at_once (keeps_cmdClear _))
  case clearEvents => exact plain h (.at_once (keeps_cmdClear _))
  case queryBay => exact plain h (.at_once (keeps_cmdQueryBay _))
  case setBay => exact setWhole .bay h (keeps_cmdSetBay (permit := rfl) ..) rfl
  case bayActionOn => exact oneWhole .outDark h (.at_once (keeps_onBay _ fun b => keeps_actOn b rfl)) nofun nofun
  case bayActionStop => exact oneWhole .inDark h (.at_once (keeps_onBay _ fun b => keeps_actStop b rfl)) nofun nofun
  case bayActionForceOff => exact oneWhole .inDark h (.at_once (keeps_onBay _ fun b => keeps_actForceOff b rfl)) nofun nofun
  case bayActionClearFault =>
    exact oneWhole .outFault h (.at_once (keeps_onBay _ fun b => keeps_actClearFault b rfl)) nofun nofun
  case bayActionRecheck =>
    exact does_of_gated high h ⟨fun p => p = .outDark ∨ p = .outFault, ⟨by simp [Compatible], by simp⟩,
      (Acts.at_once (keeps_onBay _ fun b => keeps_actRecheck b (fun _ => .inl rfl) (.inr rfl))).changed s⟩
  case readIdentity => exact plain h (.at_once (keeps_cmdReadIdentity ..))
  case setSupply => exact setWhole .supply h (keeps_cmdSetSupply (permit := rfl) ..) rfl
  case setPowerPolicy => exact setWhole .policy h (keeps_cmdSetPowerPolicy (permit := rfl) ..) rfl
  case setRamp => exact sets .ramp h (keeps_cmdSetRamp (permit := rfl) ..) rfl
  case setZone => exact setWhole .zone h (keeps_cmdSetZone (permit := rfl) ..) rfl
  case loadCurve => exact sets .curve h (keeps_cmdLoadCurve (permit := rfl) ..) rfl
  case setSensor => exact setWhole .sensor h (keeps_cmdSetSensor (permit := rfl) ..) rfl
  case setUplink => exact sets .uplink h (keeps_cmdSetUplink (permit := rfl) ..) rfl
  case setGroup => exact sets .group h (keeps_cmdSetGroup (permit := rfl) ..) rfl
  case addStation => exact plain h (.at_once (keeps_cmdAddStation ..))
  case removeStation => exact plain h (.at_once (keeps_cmdRemoveStation _))
  case readStations => exact plain h (.at_once (keeps_cmdReadStations ..))
  case setWatch => exact sets .watch h (keeps_cmdSetWatch (permit := rfl) ..) rfl
  case setComposite => exact sets .composite h (keeps_cmdSetComposite (permit := rfl) ..) rfl
  case armComposite => exact plain h (.at_once (keeps_cmdArmComposite _))
  case readEvents => exact plain h (.at_once (keeps_cmdReadEvents ..))
  case ackCondition => exact plain h (.at_once (keeps_cmdAckCondition ..))
  case setEventLimit => exact sets .limit h (keeps_cmdSetEventLimit (permit := rfl) ..) rfl
  case tachPulse f =>
    exact plain (f := fun s => s.modFan f fun x => { x with pulses := min (x.pulses + 1) 1023 }) h
      (.at_once (.fan f _ fun _ => .rfl))
  all_goals exact plain h (.at_once (.answer ..))

end Sys2Proof.Machine

namespace Sys2Proof.Machine

variable {P : Permit → Prop} {s t u : State} {b : BayIx} {c : Instr}

/-! ### The power-on values (O4) -/

/-- The state at the rising edge, with zones, fans, straps and waiting commands of any kind. -/
def State.blank (straps : BitVec 4) (fans : Tab Fan 6) (zones : Tab Zone 3) (pending : List Instr) : State :=
  { State.reset with
    agent := { State.reset.agent with straps := straps }, fans := fans, zones := zones, pending := pending }

theorem allUplinks_getElem (u : UplinkIx) : allUplinks[u.val]'u.isLt = u := by revert u; decide

section Blank
variable (straps : BitVec 4) (fans : Tab Fan 6) (zones : Tab Zone 3) (pending : List Instr)

theorem State.blank_bay (b : BayIx) : (State.blank straps fans zones pending).bay b = .reset b :=
  (List.getElem_map ..).trans (congrArg _ (allBays_getElem b))

theorem State.blank_supply (i : SupIx) : (State.blank straps fans zones pending).supply i = .reset := Tab.get_fill ..

theorem State.blank_uplink (u : UplinkIx) : (State.blank straps fans zones pending).uplink u = .reset u :=
  (List.getElem_map ..).trans (congrArg _ (allUplinks_getElem u))

theorem State.blank_slot (i : Fin 128) : (State.blank straps fans zones pending).store.slots.get i = .free :=
  Tab.get_fill ..

theorem State.blank_station (i : StationIx) : (State.blank straps fans zones pending).stations.entries.get i = none :=
  Tab.get_fill ..

theorem State.blank_composite (i : CompIx) : (State.blank straps fans zones pending).composites.get i = .reset :=
  Tab.get_fill ..

/-- Every law that does not read the zones holds of the power-on values. -/
theorem blank_holds (l : Law) (outputs : OutputsOk (State.blank straps fans zones pending)) :
    l.holds (State.blank straps fans zones pending) := by
  have bay := State.blank_bay straps fans zones pending
  have supply := State.blank_supply straps fans zones pending
  have slot := State.blank_slot straps fans zones pending
  have noRead : ∀ o, readOf o (State.blank straps fans zones pending) = none := by
    intro o
    cases o with
    | bay b => exact congrArg Bay.read (bay b)
    | supply i => exact congrArg Supply.read (supply i)
  cases l with
  | events => exact ⟨(by decide : 8 ≤ 64), Nat.le_refl 64, Nat.zero_le 64, Nat.zero_le 65535⟩
  | conditions => exact ⟨List.nodup_nil, nofun, rfl⟩
  | enables => exact fun b => by rw [bay]; exact ⟨rfl, rfl⟩
  | power =>
    refine ⟨⟨fun b => ?_, rfl, rfl, fun _ => rfl⟩, List.nodup_nil, List.nodup_nil, fun b => ?_, .nil, nofun⟩
    · rw [bay]
      exact ⟨nofun, nofun⟩
    · rw [bay]
      exact ⟨⟨nofun, nofun⟩, ⟨nofun, nofun⟩⟩
  | budget =>
    have none : ∀ scope, nonShedding scope (State.blank straps fans zones pending) = 0 := by
      intro scope
      refine List.sum_eq_zero_iff_forall_eq_nat.mpr fun x hx => ?_
      obtain ⟨b, -, rfl⟩ := List.mem_map.mp hx
      simp [bay, Bay.reset]
    refine ⟨fun b h => ?_, ?_, fun z => ?_⟩
    · rw [bay] at h
      exact absurd rfl h
    · rw [none]
      exact Nat.zero_le _
    · rw [none]
      exact Nat.zero_le _
  | supplies =>
    refine ⟨fun i => ?_, fun i h => ?_, ?_, ?_⟩
    · rw [supply]
      decide
    · rw [supply] at h
      cases h
    · simp only [supply]
      rfl
    · exact (Nat.zero_sub 600).symm
  | outputs => exact outputs
  | stations =>
    have station := State.blank_station straps fans zones pending
    refine ⟨fun i j e f h => ?_, fun i e h => ?_, fun i e h => ?_⟩ <;> rw [station] at h <;> cases h
  | uplinks => exact fun b u h => by rw [bay] at h; cases h
  | composites => exact fun i => by rw [State.blank_composite]; decide
  | agent =>
    exact ⟨Nat.zero_le 4, Nat.zero_le 4, nofun, rfl, fun _ => rfl, 0, by rw [State.blank_uplink]; rfl⟩
  | store =>
    refine ⟨fun i o h => ?_, fun i j o h => ?_, fun i b h => ?_, fun i j h => ?_, fun b h => ?_, fun i h => ?_,
      fun o r h => ?_⟩
    case refine_1 | refine_2 | refine_3 | refine_4 => rw [slot] at h; cases h
    · rw [bay] at h
      cases h
    · rw [supply] at h
      cases h
    · rw [noRead] at h
      cases h

end Blank

theorem powerOn_eq_blank (straps : BitVec 4) (fans : BitVec 6) (pending : List Instr) :
    { powerOn straps fans with pending := pending } =
      State.blank straps (State.sampled straps fans).fans (powerOn straps fans).zones pending := by
  conv => lhs; rw [powerOn_only]
  rfl

theorem reset_eq_blank : State.reset = State.blank 0 State.reset.fans State.reset.zones [] := rfl

theorem zoneLimit_sampled (straps : BitVec 4) (fans : BitVec 6) (z : ZoneIx) :
    zoneLimit z (State.sampled straps fans) =
      ZoneSettings.default.cooling ((fans.getLsbD (2 * z.val)).toNat + (fans.getLsbD (2 * z.val + 1)).toNat) := by
  simp only [zoneLimit, State.sampled_zone, healthyCount_sampled]
  rfl

/-- A zone's law at reset, whatever the number of its healthy fans. -/
theorem zone_atReset_driven {n : Nat} (h : n ≤ 2) :
    (Zone.reset.atReset n (ZoneSettings.default.cooling n)).Driven false n ∧
    (Zone.reset.atReset n (ZoneSettings.default.cooling n)).Limited n := by
  rcases h with _ | ⟨_ | ⟨_ | _⟩⟩
  all_goals exact ⟨⟨⟨by decide, by decide, by decide⟩, by decide, by decide, by decide, by decide⟩, rfl⟩

theorem powerOn_outputs (straps : BitVec 4) (fans : BitVec 6) (pending : List Instr) :
    OutputsOk { powerOn straps fans with pending := pending } := by
  rw [outputsOk_iff]
  intro z
  have zone : State.zone { powerOn straps fans with pending := pending } z = _ := powerOn_zone straps fans z
  have count : healthyCount z { powerOn straps fans with pending := pending } = _ :=
    (healthyCount_congr (by rw [powerOn_only]) z).trans (healthyCount_sampled straps fans z)
  have unmanaged : (powerOn straps fans).agent.managed = false := by rw [powerOn_only]; rfl
  rw [zone, count, zoneLimit_sampled, show State.agent _ = (powerOn straps fans).agent from rfl, unmanaged]
  exact zone_atReset_driven (Nat.add_le_add (Bool.toNat_le _) (Bool.toNat_le _))

theorem reset_outputs : OutputsOk State.reset := by
  rw [outputsOk_iff]
  intro z
  have zone : State.reset.zone z = Zone.reset.atReset 2 (ZoneSettings.default.cooling 2) := Tab.get_fill ..
  have count : healthyCount z State.reset = 2 := by revert z; decide
  rw [zone, count]
  exact zone_atReset_driven (Nat.le_refl 2)

/-- Every law holds at the rising edge of PORST_N. -/
theorem powerOn_holds (l : Law) (straps : BitVec 4) (fans : BitVec 6) (pending : List Instr) :
    l.holds { powerOn straps fans with pending := pending } := by
  have outputs := powerOn_outputs straps fans pending
  rw [powerOn_eq_blank] at outputs ⊢
  exact blank_holds _ _ _ _ l outputs

theorem reset_holds (l : Law) : l.holds State.reset := blank_holds _ _ _ _ l reset_outputs

/-! ### What every step keeps -/

theorem exec_completes (c : Instr) (s : State) : ∃ t, exec c s = .next t := by cases c <;> exact ⟨_, rfl⟩

/-- With PORST_N low a command changes nothing (log 3). -/
theorem exec_low (low : s.porstLow = true) (notReset : ∀ p straps fans, c ≠ .powerOnReset p straps fans) :
    exec c s = .next s := by
  cases c
  case powerOnReset => exact absurd rfl (notReset _ _ _)
  case tachPulse f => exact gated_low low fun s => s.modFan f _
  all_goals exact gated_low low _

/-- POWER_ON_RESET or not. -/
theorem reset_or_not (c : Instr) : (∃ p straps fans, c = .powerOnReset p straps fans) ∨
    ∀ p straps fans, c ≠ .powerOnReset p straps fans := by
  cases c
  case powerOnReset => exact .inl ⟨_, _, _, rfl⟩
  all_goals exact .inr fun _ _ _ => nofun

theorem exec_low_eq (low : s.porstLow = true) (notReset : ∀ p straps fans, c ≠ .powerOnReset p straps fans)
    (h : exec c s = .next t) : t = s := by
  rw [exec_low low notReset] at h
  injection h with h
  exact h.symm

/-- What a command keeps apart from the clock, with any grant. -/
structure Kept (P : Permit → Prop) (s t : State) : Prop where
  law : ∀ l : Law, l.holds s → l.holds t
  setting : ∀ x : Setting, ¬ P (.sets x) → x.value t = x.value s
  pending : t.pending = s.pending
  straps : t.agent.straps = s.agent.straps
  led : ∃ n, s.now ≤ n ∧ t.now = n ∧ ∀ b, LedStep (fun p => P p ∨ p = .grant) n (s.bay b) (t.bay b)

theorem Did.kept (h : Did P s t) : Kept P s t := by
  obtain ⟨u, w, ⟨n, later, acts⟩, taken, tail, bays⟩ := h
  have more : ∀ p, P p → P p ∨ p = .grant := fun _ => .inl
  have settled : Keeps (fun p => P p ∨ p = .grant) u w := by
    rcases taken with rfl | rfl
    · exact .refl _
    · exact keeps_settle (.inr rfl)
  have all := ((acts.mono more).trans settled).trans (tail.mono more)
  refine ⟨fun l k => all.law l id ((l.holds_now n).mpr k), fun x no => ?_, all.pending, all.straps,
    n, later, all.now, all.led⟩
  exact (all.setting x fun p => p.elim no nofun).trans (x.value_now n)

/-- Each law is kept by itself over every command. -/
theorem exec_holds (l : Law) (h : exec c s = .next t) (k : l.holds s) : l.holds t := by
  rcases reset_or_not c with ⟨p, straps, fans, rfl⟩ | notReset
  · cases p with
    | false =>
      rw [exec_powerOnReset_low] at h
      injection h with h
      subst h
      cases l <;> exact k
    | true =>
      rw [exec_powerOnReset_high] at h
      injection h with h
      subst h
      exact powerOn_holds l ..
  · cases low : s.porstLow with
    | true => rw [exec_low_eq low notReset h]; exact k
    | false =>
      obtain ⟨P, -, did⟩ := exec_does low notReset h
      exact did.kept.law l k

/-- The queue of commands and the idle step reach no law. -/
theorem keptByEveryStep (l : Law) : KeptByEveryStep l.holds := by
  intro s t k h
  unfold step at h
  split at h
  · injection h with h
    subst h
    unfold tick
    split
    · exact k
    · exact (l.holds_now _).mpr k
  · refine exec_holds l h ?_
    cases l <;> exact k

/-! ### The statements -/

/-- Settles O7: neither law is touched by more than its own operations. -/
theorem eventsAndConditionsKeepTheirLaws : Obligations.EventsAndConditionsKeepTheirLaws :=
  ⟨keptByEveryStep .events, keptByEveryStep .conditions⟩

/-- Settles O9: the channel and the lists are kept together, as each move of a bay changes both. -/
theorem powerListsHoldTheirBays : Obligations.PowerListsHoldTheirBays := keptByEveryStep .power

/-- Settles O10. -/
theorem allocationsStayWithinBudget : Obligations.AllocationsStayWithinBudget := keptByEveryStep .budget

/-- Settles O11. -/
theorem budgetFollowsSupplies : Obligations.BudgetFollowsSupplies := keptByEveryStep .supplies

/-- Settles O12. -/
theorem fanOutputHoldsItsFloors : Obligations.FanOutputHoldsItsFloors := keptByEveryStep .outputs

/-- Settles O13. -/
theorem stationTableKeepsItsLaws : Obligations.StationTableKeepsItsLaws := keptByEveryStep .stations

/-- Settles O14. -/
theorem activeUplinkIsUpAndNamed : Obligations.ActiveUplinkIsUpAndNamed := keptByEveryStep .uplinks

/-- Settles O15. -/
theorem storeKeepsItsRecords : Obligations.StoreKeepsItsRecords := keptByEveryStep .store

/-- Settles O16. -/
theorem agentAndCompositesKeepTheirLaws : Obligations.AgentAndCompositesKeepTheirLaws :=
  ⟨keptByEveryStep .agent, keptByEveryStep .composites⟩

/-- Settles O2: every operation leaves the queue of commands, and the gate lets none act with PORST_N low. -/
theorem commandsCompleteKeepingQueue : Obligations.CommandsCompleteKeepingQueue := by
  refine fun c s => ⟨?_, exec_low⟩
  obtain ⟨t, h⟩ := exec_completes c s
  refine ⟨t, h, ?_⟩
  rcases reset_or_not c with ⟨p, straps, fans, rfl⟩ | notReset
  · cases p <;> cases h <;> rfl
  · cases low : s.porstLow with
    | true => rw [exec_low_eq low notReset h]
    | false =>
      obtain ⟨P, -, did⟩ := exec_does low notReset h
      exact did.kept.pending

/-- Settles O5: the permits of a command name the settings it may change. -/
theorem settingsChangeOnlyByRequests : Obligations.SettingsChangeOnlyByRequests := by
  intro c s t h notReset notFrame
  have same : (∀ x, ¬ MaySet c x → x.value t = x.value s) ∧ t.agent.straps = s.agent.straps := by
    cases low : s.porstLow with
    | true =>
      rw [exec_low_eq low notReset h]
      exact ⟨fun _ _ => rfl, rfl⟩
    | false =>
      obtain ⟨P, permits, did⟩ := exec_does low notReset h
      exact ⟨fun x no => did.kept.setting x fun p => no (permits.sets x p), did.kept.straps⟩
  obtain ⟨setting, straps⟩ := same
  refine ⟨?_, ?_, ?_, ?_, ?_, ?_, ?_, ?_, ?_, ?_, ?_, ?_, ?_, straps, setting .execution ?_⟩
  · split
    · trivial
    · have same := setting .bay (by unfold MaySet; split <;> grind)
      exact congrFun same
  · split
    · trivial
    · have same := setting .supply (by unfold MaySet; split <;> grind)
      exact congrFun same
  · split
    · trivial
    · have same := setting .policy (by unfold MaySet; split <;> grind)
      simpa only [Setting.value, Prod.mk.injEq] using same
  · split
    · trivial
    · have same := setting .ramp (by unfold MaySet; split <;> grind)
      simpa only [Setting.value, Prod.mk.injEq] using same
  · split
    · trivial
    · have same := setting .zone (by unfold MaySet; split <;> grind)
      exact congrFun same
  · split
    · trivial
    · have same := setting .curve (by unfold MaySet; split <;> grind)
      exact congrFun same
  · split
    · trivial
    · have same := setting .sensor (by unfold MaySet; split <;> grind)
      exact fun k => by simpa only [Setting.value, Prod.mk.injEq] using congrFun same k
  · split
    · trivial
    · have same := setting .uplink (by unfold MaySet; split <;> grind)
      obtain ⟨aging, uplinks⟩ := Prod.mk.inj same
      exact ⟨aging, fun u => Prod.mk.inj (congrFun uplinks u)⟩
  · split
    · trivial
    · have same := setting .group (by unfold MaySet; split <;> grind)
      exact same
  · split
    · trivial
    · have same := setting .watch (by unfold MaySet; split <;> grind)
      exact same
  · split
    · trivial
    · have same := setting .composite (by unfold MaySet; split <;> grind)
      exact fun i => by simpa only [Setting.value, Prod.mk.injEq] using congrFun same i
  · split
    · trivial
    · have same := setting .managers (by unfold MaySet; split <;> grind)
      exact Prod.mk.inj same
  · split
    · trivial
    · have same := setting .limit (by unfold MaySet; split <;> grind)
      exact same
  · unfold MaySet
    split <;> grind

end Sys2Proof.Machine

namespace Sys2Proof.Machine

variable {P : Permit → Prop} {s t u : State} {b : BayIx} {c : Instr}

/-! ### Within the limits the shed pass does nothing (R75) -/

theorem BudgetOk.deficit_le (h : BudgetOk s) (scope : Option ZoneIx) : deficit scope s ≤ 0 := by
  have within : nonShedding scope s ≤ limitOf scope s := by
    cases scope with
    | none => exact h.2.1
    | some z => exact h.2.2 z
  unfold deficit
  omega

theorem coverWith_covered {scope : Option ZoneIx} (covered : deficit scope s ≤ 0) (st : BayState)
    (treat : BayIx → State → State) : coverWith scope st treat s = s := by
  unfold coverWith
  generalize shedCandidates scope st s = l
  induction l with
  | nil => rfl
  | cons b l ih =>
    rw [List.foldl_cons, if_neg, ih]
    simp only [Bool.and_eq_true, decide_eq_true_eq, not_and]
    omega

theorem coverDeficit_covered {scope : Option ZoneIx} (covered : deficit scope s ≤ 0) : coverDeficit scope s = s := by
  simp only [coverDeficit, coverWith_covered covered]

theorem coverAll_covered (covered : ∀ scope, deficit scope s ≤ 0) : coverAll s = s := by
  have zones : ∀ l : List ZoneIx, l.foldl (fun s z => coverDeficit (some z) s) s = s := by
    intro l
    induction l with
    | nil => rfl
    | cons z l ih => rw [List.foldl_cons, coverDeficit_covered (covered (some z)), ih]
  rw [coverAll, zones, coverDeficit_covered (covered none)]

theorem shedPass_covered (covered : ∀ scope, deficit scope s ≤ 0) : shedPass s = s := by
  rw [shedPass_eq, coverAll_covered covered, if_neg (Nat.lt_irrefl _)]

/-! ### What the work taken at the end of a change does to an LED -/

/-- A bay's pattern runs on, or the bay shows the fast blink. -/
def RunsOnOrFast (x y : Bay) : Prop :=
  (y.state.led = x.state.led ∧ y.ledSince = x.ledSince) ∨ y.state.led = .fastBlink

theorem RunsOnOrFast.same {x y : Bay} (state : y.state = x.state) (since : y.ledSince = x.ledSince) :
    RunsOnOrFast x y := .inl ⟨by rw [state], since⟩

theorem RunsOnOrFast.trans {x y z : Bay} (h : RunsOnOrFast x y) (k : RunsOnOrFast y z) : RunsOnOrFast x z := by
  rcases k with ⟨led, since⟩ | fast
  · rcases h with ⟨led', since'⟩ | fast
    · exact .inl ⟨led.trans led', since.trans since'⟩
    · exact .inr (led.trans fast)
  · exact .inr fast

theorem BayFrame.runsOn (f : BayFrame b s t) (fast : (t.bay b).state.led = .fastBlink) (c : BayIx) :
    RunsOnOrFast (s.bay c) (t.bay c) := by
  by_cases e : c = b
  · subst e
    exact .inr fast
  · rw [f.others c e]
    exact .same rfl rfl

theorem grantTo_runsOn (b c : BayIx) (s : State) : RunsOnOrFast (s.bay c) ((grantTo b s).bay c) :=
  (BayFrame.grantTo b s).runsOn (by rw [grantTo_bay_self]; rfl) c

theorem modLink_runsOn (b c : BayIx) (f : BayLink → BayLink) (s : State) :
    RunsOnOrFast (s.bay c) ((s.modLink b f).bay c) := by
  rw [State.modLink, State.modBay_bay]
  split
  case isTrue e => subst e; exact .same rfl rfl
  case isFalse => exact .same rfl rfl

/-- A cap failure sheds its bay, and no other where the allocations are within their limits. -/
theorem capFailure_runsOn (budget : BudgetOk s) (b c : BayIx) (level : Nat) :
    RunsOnOrFast (s.bay c) ((capFailure b level s).bay c) := by
  unfold capFailure
  split
  · unfold shedForCap
    split
    · next online =>
      have kept : BudgetOk (shedOnlineBay shedCapFailure b s) :=
        (keeps_shedOnlineBay (O := fun _ => False) (P := fun _ => False) shedCapFailure online).law .budget id budget
      rw [shedPass_covered kept.deficit_le]
      unfold shedOnlineBay
      dsimp only
      rw [raise_bay, State.modBay_bay]
      split
      case isTrue e => subst e; exact .inr (by rw [setState_bay_self]; rfl)
      case isFalse e => rw [setState_bay_ne _ e]; exact .same rfl rfl
    · exact .same rfl rfl
  · exact .same rfl rfl

theorem takeWork_runsOn (budget : BudgetOk s) (b c : BayIx) (w : Work) :
    RunsOnOrFast (s.bay c) ((takeWork b w s).bay c) := by
  unfold takeWork
  split
  · split
    · next lost =>
      have kept := (KeepsBut.modLink (O := fun _ => False) (P := fun _ => False) (s := s) b
        fun l => { l with slot := none }).law .budget id budget
      exact (modLink_runsOn b c _ s).trans (capFailure_runsOn kept b c _)
    · exact modLink_runsOn ..
  all_goals exact modLink_runsOn ..

theorem settleBays_runsOn (c : BayIx) (n : Nat) : ∀ s, BudgetOk s → RunsOnOrFast (s.bay c) ((settleBays n s).bay c) := by
  induction n with
  | zero => exact fun s _ => .same rfl rfl
  | succ n ih =>
    intro s budget
    unfold settleBays
    split
    · next b may =>
      have kept := (keeps_grantTo (O := fun _ => False) (P := fun _ => True) may trivial).law .budget id budget
      exact (grantTo_runsOn b c s).trans (ih _ kept)
    · split
      · next b w _ =>
        have kept := (keeps_takeWork (O := fun _ => False) (P := fun _ => True) (s := s) b w).law .budget id budget
        exact (takeWork_runsOn budget b c w).trans (ih _ kept)
      · exact .same rfl rfl

theorem takeSupplyWork_bays (s : State) : (takeSupplyWork s).bays = s.bays := by
  have run : ∀ n v, (runRound n v).bays = v.bays := by
    intro n v
    unfold runRound
    split <;> rfl
  have due : ∀ v, (startDueRound v).bays = v.bays := by
    intro v
    unfold startDueRound
    split
    · exact run ..
    · rfl
  unfold takeSupplyWork
  split
  · rfl
  · split
    · rfl
    · split
      · rw [due, run]
      · exact due s

theorem settle_runsOn (budget : BudgetOk s) (c : BayIx) : RunsOnOrFast (s.bay c) ((settle s).bay c) := by
  have same : (settle s).bay c = (settleBays settleFuel s).bay c := congrArg (Tab.get · c) (takeSupplyWork_bays _)
  rw [same]
  exact settleBays_runsOn c _ s budget

/-! ### The LED over a command (R23) -/

/-- A pattern that a command leaves as it was runs on, the fast blink apart. -/
theorem Did.led_runs_on (h : Did P s t) (compatible : Compatible P) (budget : BudgetOk s) (b : BayIx)
    (same : (s.bay b).state.led = (t.bay b).state.led) (notFast : (t.bay b).state.led ≠ .fastBlink) :
    (t.bay b).ledSince = (s.bay b).ledSince := by
  obtain ⟨u, w, ⟨n, later, acts⟩, taken, tail, bays⟩ := h
  have end_ : t.bay b = w.bay b := congrArg (Tab.get · b) bays
  have kept : BudgetOk u := acts.law .budget id ((Law.holds_now .budget n).mpr budget)
  have runs : RunsOnOrFast (u.bay b) (t.bay b) := by
    rw [end_]
    rcases taken with rfl | rfl
    · exact .same rfl rfl
    · exact settle_runsOn kept b
  obtain ⟨led, since⟩ := runs.resolve_right notFast
  rw [since]
  exact (acts.led b).kept compatible (same.trans led) (led ▸ notFast)

/-- What a command leaves of a bay's LED, POWER_ON_RESET too. -/
theorem exec_led (b : BayIx) (h : exec c s = .next t) :
    ((t.bay b).ledSince = (s.bay b).ledSince ∨ (t.bay b).ledSince = t.now) ∧
    ((s.bay b).state.led ≠ (t.bay b).state.led → (t.bay b).ledSince = t.now) := by
  rcases reset_or_not c with ⟨p, straps, fans, rfl⟩ | notReset
  · cases p with
    | false =>
      rw [exec_powerOnReset_low] at h
      injection h with h
      subst h
      exact ⟨.inl rfl, fun ne => absurd rfl ne⟩
    | true =>
      rw [exec_powerOnReset_high, powerOn_eq_blank] at h
      injection h with h
      subst h
      rw [State.blank_bay]
      exact ⟨.inr rfl, fun _ => rfl⟩
  · cases low : s.porstLow with
    | true =>
      rw [exec_low_eq low notReset h]
      exact ⟨.inl rfl, fun ne => absurd rfl ne⟩
    | false =>
      obtain ⟨P, -, did⟩ := exec_does low notReset h
      obtain ⟨n, -, now, led⟩ := did.kept.led
      exact ⟨now ▸ (led b).since, now ▸ (led b).anew⟩

theorem exec_led_runs_on (b : BayIx) (h : exec c s = .next t) (budget : BudgetOk s)
    (notReset : ∀ p straps fans, c ≠ .powerOnReset p straps fans)
    (same : (s.bay b).state.led = (t.bay b).state.led) (notFast : (t.bay b).state.led ≠ .fastBlink) :
    (t.bay b).ledSince = (s.bay b).ledSince := by
  cases low : s.porstLow with
  | true => rw [exec_low_eq low notReset h]
  | false =>
    obtain ⟨P, permits, did⟩ := exec_does low notReset h
    exact did.led_runs_on permits.compatible budget b same notFast

/-- The number of a state's pattern in the statement, which is its pattern. -/
def BayState.pattern (st : BayState) : Nat :=
  match st with
  | .empty | .off => 0
  | .settling | .ident | .waiting | .admitted => 1
  | .powering | .stopping | .shedding => 2
  | .online => 3
  | .fault => 4

theorem pattern_eq_iff (x y : BayState) : x.pattern = y.pattern ↔ x.led = y.led := by
  cases x <;> cases y <;> decide

theorem pattern_fast_iff (x : BayState) : x.pattern = 2 ↔ x.led = .fastBlink := by cases x <;> decide

/-- Settles O8: the enables by their law, the LED by its pattern, and its beginning by what each operation may do to a
bay's pattern: none is left and entered again in one command, the fast blink apart. -/
theorem enablesFollowState : Obligations.EnablesFollowState := by
  refine ⟨keptByEveryStep .enables, fun b s high => ?_, fun b st s => ?_, fun b c s t h => ?_⟩
  · dsimp only
    unfold pinLed
    rw [high]
    cases (s.bay b).state <;> simp [BayState.led, LedPattern.lit]
  · show _ = if (s.bay b).state.pattern = st.pattern then _ else _
    rw [setState_bay_self]
    simp only [pattern_eq_iff]
    rfl
  · obtain ⟨since, anew⟩ := exec_led b h
    show _ ∧ ((s.bay b).state.pattern ≠ (t.bay b).state.pattern → _) ∧ (_ → _ → _ → _ →
      (s.bay b).state.pattern = (t.bay b).state.pattern → (t.bay b).state.pattern ≠ 2 → _)
    simp only [ne_eq, pattern_eq_iff, pattern_fast_iff]
    exact ⟨since, anew, fun _ _ budget notReset => exec_led_runs_on b h budget notReset⟩

end Sys2Proof.Machine

namespace Sys2Proof.Machine

variable {s t : State}

/-! ### The step and the power-on values -/

/-- Settles O1. -/
theorem stepRunsFrontCommand : Obligations.StepRunsFrontCommand := fun _ _ => ⟨rfl, rfl⟩

theorem allChans_getElem (c : ChanIx) : allChans[c.val]'c.isLt = c := by revert c; decide

/-- The zone at the rising edge, by the number of its fans present. -/
theorem zone_atReset_values {n : Nat} (h : n ≤ 2) : Zone.reset.atReset n (ZoneSettings.default.cooling n) =
    { Zone.reset with
      limit := if n = 2 then 3600 else if n = 1 then 1800 else 0
      output := if n = 2 then 600 else 1000
      compare := if n = 2 then 150 else 250 } := by
  rcases h with _ | ⟨_ | ⟨_ | _⟩⟩ <;> rfl

/-- The zone and the uplinks a bay names at power-on (Table 1-1). -/
theorem default_names (b : BayIx) :
    (BaySettings.default b).zone.val = (if b.val ≤ 4 then 0 else if b.val ≤ 9 then 1 else 2) ∧
    (BaySettings.default b).primary.val = b.val % 2 ∧
    (BaySettings.default b).alternate.map (·.val) = some (1 - b.val % 2) := by revert b; decide

theorem sensor_reset_zone (c : ChanIx) : (Sensor.reset c).zone.val = c.val / 4 := by revert c; decide

theorem uplink_reset_trusted (u : UplinkIx) : (Uplink.reset u).trusted = decide (u = 0) := by revert u; decide

/-- Settles O4: the blocks by their definitions, the zones by the fans present, and the laws because no bay, supply,
slot, station or frame is held. -/
theorem powerOnValuesMeetTheLaws : Obligations.PowerOnValuesMeetTheLaws := by
  intro s straps fans
  refine ⟨_, exec_powerOnReset_high straps fans s, ?_⟩
  have zone : ∀ z, State.zone { powerOn straps fans with pending := s.pending } z = _ := powerOn_zone straps fans
  have fan : ∀ f, State.fan { powerOn straps fans with pending := s.pending } f = Fan.atReset fans f := by
    intro f
    rw [powerOn_only]
    exact State.sampled_fan straps fans f
  have laws : ∀ l : Law, l.holds { powerOn straps fans with pending := s.pending } :=
    fun l => powerOn_holds l straps fans s.pending
  generalize ht : { powerOn straps fans with pending := s.pending } = t at zone fan laws ⊢
  rw [powerOn_eq_blank] at ht
  have bay : ∀ b, t.bay b = .reset b := fun b => ht ▸ State.blank_bay ..
  have supply : ∀ i, t.supply i = .reset := fun i => ht ▸ State.blank_supply ..
  have uplink : ∀ u, t.uplink u = .reset u := fun u => ht ▸ State.blank_uplink ..
  have slot : ∀ i, t.store.slots.get i = .free := fun i => ht ▸ State.blank_slot ..
  have station : ∀ i, t.stations.entries.get i = none := fun i => ht ▸ State.blank_station ..
  have composite : ∀ i, t.composites.get i = .reset := fun i => ht ▸ State.blank_composite ..
  have sensor : ∀ c, t.sensor c = .reset c := fun c =>
    ht ▸ (List.getElem_map ..).trans (congrArg _ (allChans_getElem c))
  have deadline : ∀ n, n = t.now + n := fun n => ht ▸ (Nat.zero_add n).symm
  refine ⟨fun b => ?_, ?_, ⟨slot, by rw [← ht]; rfl⟩, supply, by rw [← ht]; exact ⟨rfl, rfl, rfl, rfl, rfl⟩,
    by rw [← ht]; exact ⟨rfl, rfl, rfl, rfl, rfl, rfl, rfl, rfl, rfl, rfl⟩, fun c => ?_,
    ?_, fun z => ?_, fun f => ?_, ?_, fun u => ?_, fun g => ?_, station, by rw [← ht]; rfl, ?_, fun i => ?_, composite, ?_⟩
  · obtain ⟨home, primary, alternate⟩ := default_names b
    rw [bay]
    exact ⟨rfl, rfl, rfl, rfl, rfl, rfl, rfl, home, primary, alternate, rfl, rfl, rfl, rfl, rfl, rfl, rfl, rfl, rfl, rfl,
      rfl, rfl, rfl, rfl, rfl, rfl, rfl, rfl, rfl, rfl, rfl, rfl, rfl⟩
  · have requests : ∀ i, t.supplyLink.identRequests.get i = none := fun i => ht ▸ Tab.get_fill ..
    refine ⟨?_, requests, ?_, ?_, ?_⟩
    case refine_4 => exact (by rw [← ht]; rfl : t.supplyLink.roundTimer = 1000).trans (deadline 1000)
    all_goals rw [← ht]; rfl
  · rw [sensor]
    exact ⟨rfl, rfl, rfl, rfl, rfl, rfl, sensor_reset_zone c, rfl, rfl, rfl⟩
  · refine ⟨by rw [← ht]; rfl, by rw [← ht]; rfl, ?_⟩
    exact (by rw [← ht]; rfl : t.converter.slotEnd = 10).trans (deadline 10)
  · rw [zone, zoneLimit_sampled, zone_atReset_values (Nat.add_le_add (Bool.toNat_le _) (Bool.toNat_le _)),
      ← deadline 1000]
    rfl
  · rw [fan]
    unfold Fan.atReset
    cases fans.getLsbD f.val <;> exact ⟨rfl, rfl, rfl, rfl, rfl, rfl⟩
  · exact (by rw [← ht]; rfl : t.tachWindow = 1000).trans (deadline 1000)
  · rw [uplink]
    exact ⟨rfl, uplink_reset_trusted u, rfl, rfl, rfl⟩
  · rw [← ht]
    exact Tab.get_fill ..
  · refine ⟨?_, by rw [← ht]; rfl, by rw [← ht]; rfl, by rw [← ht]; rfl⟩
    exact (by rw [← ht]; rfl : t.stations.agingTimer = 300000).trans (deadline 300000)
  · rw [← ht]
    exact Tab.get_fill ..
  · refine ⟨by rw [← ht]; exact ⟨rfl, rfl, rfl, rfl, rfl, rfl, rfl, rfl⟩, by rw [← ht]; rfl, by rw [← ht]; rfl,
      by rw [← ht]; rfl, fun r hr => ?_⟩
    have all : ∀ l : Law, l.holds r := by
      rcases hr with rfl | rfl
      · exact laws
      · exact reset_holds
    obtain ⟨ramp, lists⟩ := all .power
    exact ⟨all .events, all .conditions, all .enables, ramp, lists, all .budget, all .supplies, all .outputs,
      all .stations, all .uplinks, all .composites, all .agent, all .store⟩

end Sys2Proof.Machine

namespace Sys2Proof.Machine

variable {s t : State}

/-! ### Fields written and read (R193) -/

theorem ofNat_append (w v n : Nat) : BitVec.ofNat w (n / 2 ^ v) ++ BitVec.ofNat v n = BitVec.ofNat (w + v) n := by
  apply BitVec.eq_of_toNat_eq
  rw [BitVec.toNat_append, ← Nat.shiftLeft_add_eq_or_of_lt (BitVec.isLt _), Nat.shiftLeft_eq]
  simp only [BitVec.toNat_ofNat]
  rw [Nat.add_comm w v, Nat.pow_add, Nat.mod_mul, Nat.add_comm, Nat.mul_comm]

theorem byteAt_append_right {p : List Byte} {k : Nat} (h : p.length = k) (l : List Byte) (i : Nat) :
    byteAt (p ++ l) (k + i) = byteAt l i := by
  subst h
  rw [byteAt, byteAt, List.getD_eq_getElem?_getD, List.getElem?_append_right (Nat.le_add_right ..),
    Nat.add_sub_cancel_left, ← List.getD_eq_getElem?_getD]

theorem wordAt_append_right {p : List Byte} {k : Nat} (h : p.length = k) (l : List Byte) (i : Nat) :
    wordAt (p ++ l) (k + i) = wordAt l i := by
  rw [wordAt, wordAt, Nat.add_assoc, byteAt_append_right h, byteAt_append_right h]

theorem addrAt_append_right {p : List Byte} {k : Nat} (h : p.length = k) (l : List Byte) (i : Nat) :
    addrAt (p ++ l) (k + i) = addrAt l i := by
  simp only [addrAt, Nat.add_assoc, wordAt_append_right h]

theorem addrAt_u48 (a : Addr) (l : List Byte) : addrAt (u48 a.toNat ++ l) 0 = a := by
  have first : wordAt (u48 a.toNat ++ l) 0 = BitVec.ofNat 16 (a.toNat / 2 ^ 32) := wordAt_u16 ..
  have second : wordAt (u48 a.toNat ++ l) 2 = BitVec.ofNat 16 (a.toNat / 2 ^ 16) := by
    refine (ofNat_append 8 8 (a.toNat % 4294967296 / 65536)).trans (BitVec.eq_of_toNat_eq ?_)
    simp only [BitVec.toNat_ofNat]
    omega
  have third : wordAt (u48 a.toNat ++ l) 4 = BitVec.ofNat 16 a.toNat := by
    refine (ofNat_append 8 8 (a.toNat % 4294967296 % 65536)).trans (BitVec.eq_of_toNat_eq ?_)
    simp only [BitVec.toNat_ofNat]
    omega
  have pair : BitVec.ofNat 16 (a.toNat / 2 ^ 32) ++ BitVec.ofNat 16 (a.toNat / 2 ^ 16) =
      BitVec.ofNat 32 (a.toNat / 2 ^ 16) := by
    rw [show a.toNat / 2 ^ 32 = a.toNat / 2 ^ 16 / 2 ^ 16 by omega]
    exact ofNat_append 16 16 _
  rw [addrAt, first, second, third, pair]
  exact (ofNat_append 32 16 _).trans (BitVec.eq_of_toNat_eq (Nat.mod_eq_of_lt a.isLt))

/-! ### The frames of the agent (R194) -/

/-- The tag of an agent frame as bytes. -/
def tagField : Option (BitVec 12) → List Byte
  | none => []
  | some v => tagBytes v.toNat

/-- What follows the addresses and the tag in an agent frame. -/
def afterTag (payload : List Byte) : List Byte :=
  u16 controlType.toNat ++ (payload ++ List.replicate (46 - payload.length) 0)

theorem agentFrame_eq (dst src : Addr) (tag : Option (BitVec 12)) (payload : List Byte) :
    agentFrame dst src tag payload =
      u48 dst.toNat ++ (u48 src.toNat ++ (tagField tag ++ afterTag payload)) := by
  simp only [agentFrame, afterTag, List.append_assoc]
  rfl

variable (dst src : Addr) (tag : Option (BitVec 12)) (payload : List Byte)

theorem agentFrame_wordAt (i : Nat) : wordAt (agentFrame dst src tag payload) (12 + i) =
    wordAt (tagField tag ++ afterTag payload) i := by
  rw [agentFrame_eq, ← List.append_assoc]
  exact wordAt_append_right rfl _ i

theorem agentFrame_dst : frameDst (agentFrame dst src tag payload) = dst := by
  rw [frameDst, agentFrame_eq, addrAt_u48]

theorem agentFrame_src : frameSrc (agentFrame dst src tag payload) = src := by
  rw [frameSrc, agentFrame_eq]
  exact (addrAt_append_right (i := 0) rfl _).trans (addrAt_u48 ..)

theorem agentFrame_tagged : frameTagged (agentFrame dst src tag payload) = tag.isSome := by
  rw [frameTagged, agentFrame_wordAt dst src tag payload 0]
  cases tag with
  | none => exact congrArg (· == 0x8100#16) (wordAt_u16 controlType.toNat _)
  | some v => exact congrArg (· == 0x8100#16) (wordAt_u16 0x8100 (u16 v.toNat ++ _))

theorem agentFrame_tag : frameTag (agentFrame dst src tag payload) = tag := by
  rw [frameTag, agentFrame_tagged]
  cases tag with
  | none => rfl
  | some v =>
    have word : wordAt (agentFrame dst src (some v) payload) 14 = BitVec.ofNat 16 v.toNat :=
      ((agentFrame_wordAt dst src (some v) payload 2).trans
        (wordAt_append_right (p := [0x81#8, 0x00#8]) (k := 2) rfl _ 0)).trans (wordAt_u16 ..)
    rw [word]
    refine congrArg some (BitVec.eq_of_toNat_eq ?_)
    simp only [BitVec.toNat_setWidth, BitVec.toNat_ofNat]
    omega

theorem agentFrame_type : frameType (agentFrame dst src tag payload) = controlType := by
  have code : ∀ rest, wordAt (u16 controlType.toNat ++ rest) 0 = controlType := fun rest => wordAt_u16 controlType.toNat rest
  rw [frameType, agentFrame_tagged]
  cases tag with
  | none => exact (agentFrame_wordAt dst src none payload 0).trans (code _)
  | some v =>
    exact ((agentFrame_wordAt dst src (some v) payload 4).trans (wordAt_append_right (p := tagBytes v.toNat) rfl _ 0)).trans
      (code _)

theorem agentFrame_payload : framePayload (agentFrame dst src tag payload) =
    payload ++ List.replicate (46 - payload.length) 0 := by
  rw [framePayload, agentFrame_tagged, agentFrame_eq]
  cases tag <;> rfl

/-! ### Attention frames (R178) -/

/-- Settles O17: the frame by its fields, and the three conditions of the prompt. -/
theorem attentionFrameAnnouncesEvents : Obligations.AttentionFrameAnnouncesEvents := by
  intro before s m
  refine ⟨fun empty full managed manager => ⟨?_, agentFrame_dst .., agentFrame_type .., fun up => ?_, fun down => ?_⟩,
    fun quiet => ?_⟩
  · rw [attentionFrame, agentFrame_payload]
    simp [u8]
  · have prompt : promptAttention before s = transmit m.uplink (attentionFrame m s) s := by
      simp [promptAttention, empty, full, managed, manager]
    rw [prompt, transmit_up _ _ _ up]
  · have prompt : promptAttention before s = transmit m.uplink (attentionFrame m s) s := by
      simp [promptAttention, empty, full, managed, manager]
    rw [prompt, transmit_down _ _ _ down]
  · rw [promptAttention, if_neg]
    rcases quiet with held | empty | unmanaged <;> simp_all

/-! ### The event queue (R183, R185, R186) -/

/-- Settles O18. -/
theorem eventRequestsAct : Obligations.EventRequestsAct := by
  refine ⟨fun count s high short => ?_, fun limit s high => ?_, fun k w detail data s => ⟨fun room => ?_, fun full => ?_, ?_⟩⟩
  · have fits : min (min count.toNat s.events.queue.length) ((1486 - 4) / 12) = min count.toNat s.events.queue.length := by
      omega
    refine (gated_high high _).trans ?_
    simp only [cmdReadEvents, fits]
  · have clamped : clampNat 8 64 limit.toNat =
        if limit.toNat < 8 then 8 else if 64 < limit.toNat then 64 else limit.toNat := by
      unfold clampNat
      repeat' split
      all_goals omega
    refine (gated_high high _).trans ?_
    rw [← clamped]
    simp only [cmdSetEventLimit, List.length_take, clampStatus]
    by_cases same : clampNat 8 64 limit.toNat = limit.toNat <;> simp [same]
  · simp [raise, room, State.seconds]
  · simp [raise, Nat.not_lt.mpr full]
  · simp only [raise]
    split <;> rfl

/-! ### Acknowledgement (R190) -/

theorem ofCodes_unknown {kind : Byte} (index : Byte) (h : kind.toNat = 0 ∨ 5 < kind.toNat) :
    CondKey.ofCodes kind index = none := by
  unfold CondKey.ofCodes
  have unknown : kind ≠ 1 ∧ kind ≠ 2 ∧ kind ≠ 3 ∧ kind ≠ 4 ∧ kind ≠ 5 := by bv_omega
  obtain ⟨one, two, three, four, five⟩ := unknown
  rw [if_neg one, if_neg two, if_neg three, if_neg four, if_neg five]

theorem ofCodes_beyond {kind index : Byte} (beyond : ([14, 3, 6, 6, 12].getD (kind.toNat - 1) 0) ≤ index.toNat)
    (low : 1 ≤ kind.toNat) (high : kind.toNat ≤ 5) : CondKey.ofCodes kind index = some none := by
  have known : kind = 1 ∨ kind = 2 ∨ kind = 3 ∨ kind = 4 ∨ kind = 5 := by bv_omega
  rcases known with rfl | rfl | rfl | rfl | rfl <;>
    exact congrArg (fun x => some (Option.map _ x)) (toIx_of_le beyond)

theorem ofCodes_key (k : CondKey) :
    CondKey.ofCodes (BitVec.ofNat 8 k.kindCode) (BitVec.ofNat 8 k.index) = some (some k) := by
  cases k <;> exact congrArg (fun x => some (Option.map _ x)) (toIx_byte (by decide) _)

theorem mem_filterMap_ackEntry {k : CondKey} {l : List Condition} {c : Condition} : c ∈ l.filterMap (ackEntry k) ↔
    (c ∈ l ∧ c.key ≠ k) ∨ ∃ d ∈ l, d.key = k ∧ d.active = true ∧ c = { d with acked := true } := by
  rw [List.mem_filterMap]
  constructor
  · rintro ⟨d, old, made⟩
    unfold ackEntry at made
    split at made
    · next key =>
      split at made
      · next active => exact .inr ⟨d, old, key, active, (Option.some.inj made).symm⟩
      · cases made
    · next key => exact .inl (Option.some.inj made ▸ ⟨old, key⟩)
  · rintro (⟨old, other⟩ | ⟨d, old, key, active, rfl⟩)
    · exact ⟨c, old, if_neg other⟩
    · exact ⟨d, old, by rw [ackEntry, if_pos key, if_pos active]⟩

theorem any_key_iff {k : CondKey} : (s.conditions.any fun c => c.key = k) = true ↔ ∃ c ∈ s.conditions, c.key = k := by
  simp

/-- Settles O19. -/
theorem ackConditionByCase : Obligations.AckConditionByCase := by
  intro s high
  refine ⟨fun kind index unknown => ⟨u8 0 ++ optU8 none ++ optU32 none, (gated_high high _).trans ?_⟩,
    fun kind index beyond one five => (gated_high high _).trans ?_,
    fun k none => ⟨ackBody k s, (gated_high high _).trans ?_⟩, fun k held => ⟨_, gated_high high _, ?_⟩⟩
  · rw [cmdAckCondition, ofCodes_unknown index unknown]
    rfl
  · rw [cmdAckCondition, ofCodes_beyond beyond one five]
    rfl
  · rw [cmdAckCondition, ofCodes_key]
    dsimp only
    have absent : ¬ (s.conditions.any fun c => c.key = k) = true := fun any =>
      let ⟨c, hc, key⟩ := any_key_iff.mp any
      none c hc key
    rw [if_neg absent]
    rfl
  · rw [cmdAckCondition, ofCodes_key]
    dsimp only
    rw [if_pos (any_key_iff.mpr held)]
    exact ⟨rfl, rfl, fun c => mem_filterMap_ackEntry, rfl⟩

/-! ### Queries -/

/-- Settles O20. -/
theorem queriesChangeNothing : Obligations.QueriesChangeNothing := by
  intro s high
  refine ⟨gated_high high _, gated_high high _, gated_high high _, gated_high high _, gated_high high _, fun b => ?_,
    fun n beyond => ?_, fun short => ?_⟩
  · refine (gated_high high _).trans ?_
    rw [cmdQueryBay, onBay, toIx_byte (by decide)]
    rfl
  · refine (gated_high high _).trans ?_
    rw [cmdQueryBay, onBay, toIx_of_le beyond]
    rfl
  · have all : s.conditions.take ((1486 - 4) / 8) = s.conditions := List.take_of_length_le (by omega)
    refine (gated_high high _).trans ?_
    simp only [cmdReadConditions, all]
    rfl

/-! ### CLEAR (R181) -/

/-- Settles O60. -/
theorem clearClearsItsScope : Obligations.ClearClearsItsScope := by
  intro s high
  refine ⟨⟨_, gated_high high _, rfl, fun i => dropStations_get .., fun ⟨i, e, held, learned⟩ => ?_, fun none => ?_, rfl⟩,
    ⟨_, gated_high high _, rfl, fun b => Tab.get_map .., fun i => Tab.get_map .., fun u => Tab.get_map ..,
      fun i => Tab.get_map .., rfl, rfl, fun i => Tab.get_map .., rfl, rfl, rfl, rfl⟩, gated_high high _⟩
  · show (s.stations.fullMark && !s.stations.entries.items.any (Option.any Station.isLearned)) = false
    have some_ : s.stations.entries.items.any (Option.any Station.isLearned) = true :=
      List.any_eq_true.mpr ⟨some e, (Tab.mem_items ..).mpr ⟨i, held⟩, learned⟩
    rw [some_, Bool.not_true, Bool.and_false]
  · show (s.stations.fullMark && !s.stations.entries.items.any (Option.any Station.isLearned)) = s.stations.fullMark
    have none_ : s.stations.entries.items.any (Option.any Station.isLearned) = false := by
      rw [List.any_eq_false]
      intro x hx
      obtain ⟨i, rfl⟩ := (Tab.mem_items ..).mp hx
      cases held : s.stations.entries.get i with
      | none => exact nofun
      | some e => simp [none i e held]
    rw [none_, Bool.not_false, Bool.and_true]

end Sys2Proof.Machine

namespace Sys2Proof.Machine

variable {s t u : State} {b c : BayIx}

/-! ### Sorted lists of bays -/

section Sorting
variable {r : BayIx → BayIx → Bool} {R : BayIx → BayIx → Prop}

theorem sortBays_nodup {l : List BayIx} (h : l.Nodup) : (sortBays r l).Nodup := by
  suffices ∀ (l acc : List BayIx), l.Nodup → acc.Nodup → (∀ x ∈ l, x ∉ acc) →
      (l.foldl (fun acc b => insertBefore r b acc) acc).Nodup from this l [] h List.nodup_nil fun _ _ => List.not_mem_nil
  intro l
  induction l with
  | nil => exact fun acc _ k _ => k
  | cons b l ih =>
    intro acc h k apart
    obtain ⟨fresh, rest⟩ := List.nodup_cons.mp h
    refine ih _ rest (insertBefore_nodup (apart b List.mem_cons_self) k) fun x hx hm => ?_
    rcases (mem_insertBefore r x b acc).mp hm with rfl | hm
    · exact fresh hx
    · exact apart x (List.mem_cons_of_mem b hx) hm

theorem sortBays_pairwise (trans : ∀ x y z, R x y → R y z → R x z) (before : ∀ b c, r b c = true → R b c)
    (after : ∀ b c, r b c = false → R c b) (l : List BayIx) : (sortBays r l).Pairwise R := by
  suffices ∀ (l acc : List BayIx), acc.Pairwise R →
      (l.foldl (fun acc b => insertBefore r b acc) acc).Pairwise R from this l [] .nil
  intro l
  induction l with
  | nil => exact fun acc k => k
  | cons b l ih => exact fun acc k => ih _ (insertBefore_pairwise trans (before b) (after b) k)

end Sorting

/-! ### Headroom (R67) -/

theorem headroom_none_eq (s : State) :
    headroom none s = s.alloc.budget - ((allBays.map fun c => (s.bay c).alloc).sum : Nat) := by
  simp [headroom, limitOf, allocated, allocSum]

theorem headroom_zone_eq (z : ZoneIx) (s : State) : headroom (some z) s = (s.zone z).limit -
    ((allBays.map fun c => if (s.bay c).settings.zone = z then (s.bay c).alloc else 0).sum : Nat) := by
  simp [headroom, limitOf, allocated, allocSum, eq_comm]

/-! ### The walk (R72) -/

theorem Bay.of_header {y : Bay} {p : PowerHeader} (h : y.header = some p) :
    y.maxWatts = p.maxWatts ∧ y.floorWatts = p.floorWatts ∧ y.cappable = p.cappable := by
  simp [Bay.maxWatts, Bay.floorWatts, Bay.cappable, h]

section Walk
variable {p : PowerHeader} (header : (s.bay b).header = some p) {blocked : Bool} {zones : List ZoneIx}

theorem walkOne_blocked (h : blocked = true ∨ (s.bay b).settings.zone ∈ zones) :
    walkOne ⟨s, blocked, zones⟩ b = ⟨s, blocked, zones⟩ := by
  unfold walkOne
  rcases h with rfl | h <;> simp_all

theorem walkOne_waiting (zone : (s.bay b).settings.zone ∉ zones) (waits : (s.bay b).state = .waiting) :
    walkOne ⟨s, false, zones⟩ b =
      let h := headroom none s
      let hz := headroom (some (s.bay b).settings.zone) s
      if ((s.bay b).maxWatts : Int) ≤ h ∧ ((s.bay b).maxWatts : Int) ≤ hz then ⟨admitBay b (s.bay b).maxWatts s, false, zones⟩
      else if (s.bay b).cappable = true ∧ ((s.bay b).floorWatts : Int) ≤ h ∧ ((s.bay b).floorWatts : Int) ≤ hz then
        ⟨admitBay b (min ((s.bay b).maxWatts : Int) (min h hz)).toNat s, false, zones⟩
      else if h < (s.bay b).need then ⟨s, true, zones⟩
      else ⟨s, false, (s.bay b).settings.zone :: zones⟩ := by
  have passes : ¬ ((false || zones.contains (s.bay b).settings.zone || decide ((s.bay b).state ≠ .waiting)) = true) := by
    simp [zone, waits]
  unfold walkOne
  dsimp only
  rw [if_neg passes]
  simp only [Bool.and_eq_true, decide_eq_true_eq, and_assoc]

end Walk

/-! ### What a pass leaves of an admitted bay -/

theorem walkOne_queue (w : Walk) (c : BayIx) (h : b ∈ w.state.ramp.queue) : b ∈ (walkOne w c).state.ramp.queue := by
  have admits : ∀ n, b ∈ (admitBay c n w.state).ramp.queue := fun n => List.mem_append_left _ h
  unfold walkOne
  dsimp only
  split
  · exact h
  · split
    · exact admits _
    · split
      · exact admits _
      · split <;> exact h

theorem walk_queue (l : List BayIx) : ∀ w : Walk, b ∈ w.state.ramp.queue → b ∈ (l.foldl walkOne w).state.ramp.queue := by
  induction l with
  | nil => exact fun w h => h
  | cons c l ih => exact fun w h => ih _ (walkOne_queue w c h)

theorem uncapPass_ramp (s : State) : (uncapPass s).ramp = s.ramp := by
  suffices ∀ (l : List BayIx) (s : State), (l.foldl uncapOne s).ramp = s.ramp from this _ s
  intro l
  induction l with
  | nil => exact fun s => rfl
  | cons c l ih =>
    intro s
    rw [List.foldl_cons, ih]
    unfold uncapOne
    dsimp only
    split <;> rfl

theorem admissionPass_eq (s : State) : admissionPass s =
    if (s.alloc.waiting.foldl walkOne ⟨s, false, []⟩).state.alloc.waiting = [] then
      uncapPass (s.alloc.waiting.foldl walkOne ⟨s, false, []⟩).state
    else (s.alloc.waiting.foldl walkOne ⟨s, false, []⟩).state := by
  simp only [admissionPass, List.isEmpty_iff]

/-- A head of the waiting list that fits is admitted, and the rest of the pass leaves it so. -/
theorem admissionPass_head {n : Nat} {rest : List BayIx} (head : s.alloc.waiting = b :: rest)
    (first : walkOne ⟨s, false, []⟩ b = ⟨admitBay b n s, false, []⟩) :
    (admissionPass s).bay b = (admitBay b n s).bay b ∧ b ∈ (admissionPass s).ramp.queue := by
  have admitted : ((admitBay b n s).bay b).state = .admitted := by rw [admitBay_bay_self]; rfl
  have queued : b ∈ (admitBay b n s).ramp.queue := List.mem_append_right _ List.mem_cons_self
  have walked := walk_keeps rest ⟨admitBay b n s, false, []⟩ (by rw [admitted]; exact nofun)
  have stays := walk_queue rest ⟨admitBay b n s, false, []⟩ queued
  rw [admissionPass_eq, head, List.foldl_cons, first]
  split
  · have still : ((rest.foldl walkOne ⟨admitBay b n s, false, []⟩).state.bay b).state = .admitted := by
      rw [walked.1]; exact admitted
    have not_ : b ∉ uncapCandidates (rest.foldl walkOne ⟨admitBay b n s, false, []⟩).state := fun m => by
      rw [mem_uncapCandidates, still] at m
      cases m.1
    exact ⟨(uncap_keeps _ _ not_).1.trans walked.1, by rw [uncapPass_ramp]; exact stays⟩
  · exact ⟨walked.1, stays⟩

/-! ### The statements -/

theorem uncapOne_eq (s : State) (b : BayIx) : uncapOne s b =
    let r := min ((s.bay b).maxWatts - (s.bay b).alloc : Int) (min (headroom none s) (headroom (some (s.bay b).settings.zone) s))
    if 0 < r then capDecision b ((s.bay b).alloc + r.toNat) s else s := rfl

/-- Settles O33: the walk by its branches, and the orders by the sorted list. -/
theorem admissionAndUncapPassesAct : Obligations.AdmissionAndUncapPassesAct := by
  refine ⟨fun s b blocked zones p header => ?_, fun s b level => ?_, fun s => ?_⟩
  · obtain ⟨maxWatts, floorWatts, cappable⟩ := Bay.of_header header
    have chassis := headroom_none_eq s
    have own := headroom_zone_eq (s.bay b).settings.zone s
    have waiting := fun zones => walkOne_waiting (s := s) (b := b) (zones := zones)
    have uncap := uncapOne_eq s b
    have need : (s.bay b).need = if p.cappable then p.floorWatts else p.maxWatts := by
      rw [Bay.need, cappable, maxWatts, floorWatts]
    dsimp only at waiting uncap ⊢
    rw [← chassis, ← own]
    simp only [maxWatts, floorWatts, cappable, need] at waiting uncap
    generalize headroom none s = h at waiting uncap ⊢
    generalize headroom (some (s.bay b).settings.zone) s = hz at waiting uncap ⊢
    refine ⟨rfl, rfl, walkOne_blocked, fun open_ fresh waits => ?_, fun rest head waits full => ?_, fun nothing => ?_,
      fun more => ?_⟩
    · subst open_
      rw [waiting zones fresh waits]
      refine ⟨fun full => if_pos full, fun notFull capped => ⟨(min (p.maxWatts : Int) (min h hz)).toNat, ?_, ?_⟩,
        fun notFull notCapped short => ?_, fun notFull notCapped enough => ?_⟩
      · omega
      · rw [if_neg notFull, if_pos capped]
      · rw [if_neg notFull, if_neg notCapped, if_pos short]
      · rw [if_neg notFull, if_neg notCapped, if_neg (Int.not_lt.mpr enough)]
    · obtain ⟨record, queued⟩ := admissionPass_head head ((waiting [] List.not_mem_nil waits).trans (if_pos full))
      rw [record, admitBay_bay_self]
      exact ⟨rfl, rfl, queued, rfl⟩
    · rw [uncap, if_neg (by omega)]
    · rw [uncap, if_pos more]
  · have self := admitBay_bay_self b level s
    have frame := BayFrame.admitBay b level s
    dsimp only
    rw [self]
    exact ⟨rfl, rfl, rfl, rfl, rfl, rfl, rfl, rfl, rfl, rfl, frame.others, rfl⟩
  · refine ⟨fun empty => ?_, fun some_ => ?_, rfl, sortBays_nodup (allBays_nodup.filter _), fun b => mem_uncapCandidates, ?_⟩
    · rw [admissionPass_eq, if_pos empty]
    · rw [admissionPass_eq, if_neg some_]
    · refine sortBays_pairwise (fun x y z => ?_) (fun b c before => ?_) (fun b c after => ?_) _
      · omega
      · simp only [uncapsBefore, Bool.or_eq_true, Bool.and_eq_true, decide_eq_true_eq] at before
        omega
      · simp only [uncapsBefore, Bool.or_eq_false_iff, Bool.and_eq_false_iff, decide_eq_false_iff_not] at after
        omega

end Sys2Proof.Machine

namespace Sys2Proof.Machine

variable {s t u : State} {b c : BayIx}

theorem raise_events_congr (events : t.events = s.events) (now : t.now = s.now) (k : EventKind) (w : Subject) (d : Nat)
    (x : Int) : (raise k w d x t).events = (raise k w d x s).events := by
  unfold raise State.seconds
  rw [events, now]
  split <;> rfl

/-! ### The steps of the shed pass (R75) -/

theorem shedCandidates_pairwise (scope : Option ZoneIx) (st : BayState) (s : State) :
    (shedCandidates scope st s).Pairwise fun b c => (s.bay b).settings.priority < (s.bay c).settings.priority ∨
      (s.bay b).settings.priority = (s.bay c).settings.priority ∧
        (s.bay c).admissionStamp.getD 0 ≤ (s.bay b).admissionStamp.getD 0 := by
  refine sortBays_pairwise (fun x y z => ?_) (fun b c before => ?_) (fun b c after => ?_) _
  · omega
  · simp only [shedsBefore, Bool.or_eq_true, Bool.and_eq_true, decide_eq_true_eq] at before
    omega
  · simp only [shedsBefore, Bool.or_eq_false_iff, Bool.and_eq_false_iff, decide_eq_false_iff_not] at after
    omega

theorem inScope_iff (scope : Option ZoneIx) (y : Bay) : scope.all (· = y.settings.zone) = true ↔
    (decide (∀ z, scope = some z → y.settings.zone = z)) = true := by
  cases scope with
  | none => simp
  | some z => simp [eq_comm (a := z)]

theorem deficit_eq (scope : Option ZoneIx) (s : State) : deficit scope s = ((allBays.map fun b =>
    if (decide (∀ z, scope = some z → (s.bay b).settings.zone = z)) ∧ (s.bay b).state ≠ .shedding then (s.bay b).alloc
    else 0).sum : Nat) - (limitOf scope s : Int) := by
  simp only [deficit, nonShedding, allocSum, Bool.and_eq_true, inScope_iff, decide_eq_true_eq]

/-! ### What each treatment leaves of a bay (R76 to R80) -/

/-- An admitted bay goes back: its record, the events and the ramp channel. -/
theorem shedAdmittedBay_values (b : BayIx) (s : State) :
    (shedAdmittedBay b s).bay b = { (s.bay b).enter .waiting s.now with
      alloc := 0, stopRequested := false, waitingStamp := some s.alloc.nextStamp } ∧
    b ∈ (shedAdmittedBay b s).alloc.waiting ∧
    (shedAdmittedBay b s).events = (raise .bayShed (.bay b) shedAdmitted (s.bay b).alloc s).events ∧
    (∀ c, c ≠ b → (shedAdmittedBay b s).bay c = s.bay c) ∧
    (shedAdmittedBay b s).ramp = { s.ramp with queue := s.ramp.queue.filter fun c => decide (c ≠ b) } := by
  refine ⟨?_, ?_, ?_, fun c ne => ?_, ?_⟩
  · refine (raise_bay ..).trans ?_
    refine (enterWaiting_bay_self b (leaveAdmitted b s)).trans ?_
    rw [leaveAdmitted_bay]
    rfl
  · refine (congrArg (b ∈ ·.waiting) (raise_alloc ..)).mpr ?_
    exact (mem_insertBefore ..).mpr (.inl rfl)
  · exact raise_events_congr (s := s) (t := enterWaiting b (leaveAdmitted b s)) rfl rfl ..
  · exact (raise_bay ..).trans ((enterWaiting_bay_ne ne (leaveAdmitted b s)).trans ((BayFrame.leaveAdmitted b s).others c ne))
  · exact raise_ramp ..

/-- The POWERING bay goes back: main power is off and RAMPING ended. -/
theorem shedPoweringBay_values (was : (s.bay b).state = .powering) :
    (shedPoweringBay b s).bay b = { (s.bay b).powerOff.enter .waiting s.now with
      stopRequested := false, waitingStamp := some s.alloc.nextStamp } ∧
    b ∈ (shedPoweringBay b s).alloc.waiting ∧
    (shedPoweringBay b s).events = (raise .bayShed (.bay b) shedPowering (s.bay b).alloc s).events ∧
    (∀ c, c ≠ b → (shedPoweringBay b s).bay c = s.bay c) ∧
    (shedPoweringBay b s).ramp = (endRamping s).ramp := by
  have off : powerOff b s = unplug b s := by rw [powerOff_eq, was]; rfl
  have ramp : (unplug b s).ramp = (endRamping s).ramp := by rw [unplug, if_pos was]; rfl
  unfold shedPoweringBay
  rw [off]
  refine ⟨?_, ?_, ?_, fun c ne => ?_, ?_⟩
  · refine (raise_bay ..).trans ((enterWaiting_bay_self b (unplug b s)).trans ?_)
    rw [unplug_bay_self, unplug_now, (unplug_lists b s).1]
  · refine (congrArg (b ∈ ·.waiting) (raise_alloc ..)).mpr ?_
    exact (mem_insertBefore ..).mpr (.inl rfl)
  · have events : (unplug b s).events = s.events := by rw [(unplug_frame b s).frame]
    exact raise_events_congr (s := s) (t := enterWaiting b (unplug b s)) events (unplug_now b s) ..
  · exact (raise_bay ..).trans ((enterWaiting_bay_ne ne _).trans (unplug_bay_ne ne s))
  · exact (raise_ramp ..).trans ramp

theorem shedStoppingBay_others (b : BayIx) (s : State) :
    (shedStoppingBay b s).events = (raise .bayShed (.bay b) shedStopping (s.bay b).alloc s).events ∧
    ∀ c, c ≠ b → (shedStoppingBay b s).bay c = s.bay c :=
  ⟨by unfold shedStoppingBay; exact raise_events_congr (s := s) (by rfl) (by rfl) ..,
    fun c ne => (raise_bay ..).trans ((State.modBay_bay_ne _ ne _).trans (setState_bay_ne _ ne _))⟩

theorem shedOnlineBay_others (detail : Nat) (b : BayIx) (s : State) :
    (shedOnlineBay detail b s).events = (raise .bayShed (.bay b) detail (s.bay b).alloc s).events ∧
    ∀ c, c ≠ b → (shedOnlineBay detail b s).bay c = s.bay c :=
  ⟨by unfold shedOnlineBay; exact raise_events_congr (s := s) (by rfl) (by rfl) ..,
    fun c ne => (raise_bay ..).trans ((State.modBay_bay_ne _ ne _).trans (setState_bay_ne _ ne _))⟩

/-- Settles O34. -/
theorem shedPassCoversItsDeficits : Obligations.ShedPassCoversItsDeficits := by
  refine ⟨fun s => ⟨?_, fun chassis zones => shedPass_covered fun scope => ?_⟩, fun scope s => ?_, fun b s => ?_⟩
  · rw [shedPass_eq, coverAll_eq]
  · cases scope with
    | none => exact chassis
    | some z => exact zones z
  · refine ⟨deficit_eq scope s, ?_, coverDeficit_covered, coverDeficit_covers scope s, fun st =>
      ⟨sortBays_nodup (allBays_nodup.filter _), fun b => ?_, shedCandidates_pairwise scope st s⟩⟩
    · simp only [coverDeficit, coverWith, Bool.and_eq_true, decide_eq_true_eq]
    · rw [mem_shedCandidates, inScope_iff]
  · dsimp only
    refine ⟨?_, fun scope p header => ⟨fun kept => ?_, fun cappable above need => ?_⟩, ?_, fun was => ?_, fun detail => ?_⟩
    · obtain ⟨self, waits, events, others, ramp⟩ := shedAdmittedBay_values b s
      rw [self]
      exact ⟨⟨rfl, rfl, rfl, rfl, rfl, waits⟩, ⟨events, others⟩, ramp⟩
    · obtain ⟨-, floor, cappable⟩ := Bay.of_header header
      rw [shedCapBay, if_neg]
      simp only [cappable, floor, Bool.and_eq_true, decide_eq_true_eq]
      rcases kept with no | below
      · simp [no]
      · omega
    · obtain ⟨-, floor, cap⟩ := Bay.of_header header
      have level : (s.bay b).alloc - min ((s.bay b).alloc - p.floorWatts) (deficit scope s).toNat =
          max p.floorWatts ((s.bay b).alloc - (deficit scope s).toNat) := by omega
      rw [shedCapBay, if_pos (by simp [cap, floor, cappable, above])]
      simp only [floor, level]
      rfl
    · have told := shedStoppingBay_others b s
      rw [shedStoppingBay_bay_self]
      exact ⟨rfl, rfl, rfl, fun d deadline => by rw [deadline]; rfl, rfl, rfl, told⟩
    · obtain ⟨self, waits, events, others, ramp⟩ := shedPoweringBay_values was
      rw [self]
      exact ⟨⟨rfl, rfl, rfl, rfl, rfl, waits⟩, ⟨events, others⟩, ramp⟩
    · have told := shedOnlineBay_others detail b s
      rw [shedOnlineBay_bay_self]
      exact ⟨rfl, rfl, rfl, rfl, rfl, rfl, rfl, rfl, told⟩

end Sys2Proof.Machine

namespace Sys2Proof.Machine

variable {s t u : State} {b c : BayIx}

/-! ### What an admission pass leaves of the lists and the channel -/

/-- The channel as it was but for its queue, and a bay that waits for nothing in neither list. -/
structure PassesOver (b : BayIx) (s t : State) : Prop where
  channel : t.ramp = { s.ramp with queue := t.ramp.queue }
  waiting : b ∉ s.alloc.waiting → b ∉ t.alloc.waiting
  queue : b ∉ s.ramp.queue → b ∉ t.ramp.queue

theorem PassesOver.refl (b : BayIx) (s : State) : PassesOver b s s := ⟨rfl, id, id⟩

theorem PassesOver.trans (h : PassesOver b s t) (k : PassesOver b t u) : PassesOver b s u :=
  ⟨by rw [k.channel, h.channel], k.waiting ∘ h.waiting, k.queue ∘ h.queue⟩

theorem admitBay_passesOver (ne : b ≠ c) (level : Nat) (s : State) : PassesOver b s (admitBay c level s) := by
  refine ⟨rfl, fun h m => h (List.mem_filter.mp m).1, fun h m => ?_⟩
  rcases List.mem_append.mp m with m | m
  · exact h m
  · exact ne (List.mem_singleton.mp m)

theorem walkOne_passesOver (w : Walk) (c : BayIx) (h : (w.state.bay b).state ≠ .waiting) :
    PassesOver b w.state (walkOne w c).state := by
  unfold walkOne
  dsimp only
  split
  · exact .refl b _
  · next passes =>
    have ne : b ≠ c := by
      rintro rfl
      simp [h] at passes
    split
    · exact admitBay_passesOver ne ..
    · split
      · exact admitBay_passesOver ne ..
      · split <;> exact .refl b _

theorem walk_passesOver (l : List BayIx) : ∀ w : Walk, (w.state.bay b).state ≠ .waiting →
    PassesOver b w.state (l.foldl walkOne w).state := by
  induction l with
  | nil => exact fun w _ => .refl b _
  | cons c l ih =>
    intro w h
    exact (walkOne_passesOver w c h).trans (ih _ (by rw [(walkOne_keeps w c h).1]; exact h))

theorem uncapPass_waiting (s : State) : (uncapPass s).alloc = s.alloc := by
  suffices ∀ (l : List BayIx) (s : State), (l.foldl uncapOne s).alloc = s.alloc from this _ s
  intro l
  induction l with
  | nil => exact fun s => rfl
  | cons c l ih =>
    intro s
    rw [List.foldl_cons, ih]
    unfold uncapOne
    dsimp only
    split <;> rfl

theorem admissionPass_passesOver (h : (s.bay b).state ≠ .waiting) : PassesOver b s (admissionPass s) := by
  have walked := walk_passesOver s.alloc.waiting ⟨s, false, []⟩ h
  rw [admissionPass_eq]
  split
  · refine walked.trans ⟨?_, fun k => ?_, fun k => ?_⟩
    · rw [uncapPass_ramp]
    · rw [uncapPass_waiting]; exact k
    · rw [uncapPass_ramp]; exact k
  · exact walked

/-! ### Removal (R12) -/

theorem releaseRecord_bay_self (b : BayIx) (s : State) :
    (releaseRecord (.bay b) s).bay b = { s.bay b with record := none } := by
  rw [releaseRecord_frame]
  exact State.modBay_bay_self ..

/-- A removed bay's whole record. -/
theorem eject_record (b : BayIx) (s : State) : (eject b s).bay b =
    (Bay.enter .empty s.now
      { (if (s.bay b).state.mainPowered then (s.bay b).powerOff else s.bay b) with record := none }).clearBlade := by
  have off : (if (s.bay b).state.mainPowered then unplug b s else s).bay b =
      if (s.bay b).state.mainPowered then (s.bay b).powerOff else s.bay b := by
    split
    · exact unplug_bay_self b s
    · rfl
  have now : (if (s.bay b).state.mainPowered then unplug b s else s).now = s.now := by
    split
    · exact unplug_now b s
    · rfl
  rw [← off, ← now]
  unfold eject
  rw [enterEmpty_bay_self, releaseRecord_bay_self, (BayFrame.releaseRecord b _).now]
  rfl

theorem purged_frame (b : BayIx) (s : State) : purged b s = { s with stations := (purged b s).stations } := by
  unfold purged
  split <;> rfl

/-- No LEARNED entry names the bay once its stations are purged. -/
theorem purged_forgets (h : StationsOk s) : NoLearned b (purged b s) := by
  by_cases f : (s.bay b).state.forwarding = true
  · exact purged_noLearned f
  · rw [purged, if_neg f]
    intro i e held learned rfl
    exact f (h.2.2 i e held learned)

/-- The removal before its admission pass. -/
def removed (b : BayIx) (s : State) : State :=
  raise .bayRemoved (.bay b) 0 (s.bay b).state.code (removeCondition (.bayFault b) (eject b (purged b s)))

theorem removed_bay (b c : BayIx) (s : State) : (removed b s).bay c = (eject b (purged b s)).bay c := raise_bay ..

/-- The lists, the channel and the rest of the state once the blade is gone, before the admission pass. -/
theorem removed_rest (b : BayIx) (s : State) :
    (removed b s).alloc = { s.alloc with waiting := s.alloc.waiting.filter fun c => decide (c ≠ b) } ∧
    (removed b s).ramp = { (if (s.bay b).state = .powering then (endRamping s).ramp else s.ramp) with
      queue := s.ramp.queue.filter fun c => decide (c ≠ b) } ∧
    (removed b s).conditions = s.conditions.filter (fun c => decide (c.key ≠ .bayFault b)) ∧
    (removed b s).faultInd = ((removed b s).conditions.any fun c => !c.acked) ∧
    (removed b s).events = (raise .bayRemoved (.bay b) 0 (s.bay b).state.code s).events ∧
    (removed b s).stations = (purged b s).stations ∧
    (removed b s).store = (freeRecord (.bay b) s).store := by
  have frame := (BayFrame.eject b (purged b s)).frame
  obtain ⟨waiting, -, stamps, channel⟩ := eject_lists b (purged b s)
  have store := eject_store b (purged b s)
  have same := purged_frame b s
  have ended : (endRamping (purged b s)).ramp = (endRamping s).ramp := by
    rw [same]
    unfold endRamping
    split <;> rfl
  have alloc : (purged b s).alloc = s.alloc := by rw [same]
  have ramp : (purged b s).ramp = s.ramp := by rw [same]
  have events : (purged b s).events = s.events := by rw [same]
  have conditions : (purged b s).conditions = s.conditions := by rw [same]
  have now : (purged b s).now = s.now := by rw [same]
  rw [purged_bay, ended, ramp] at channel
  rw [alloc] at waiting stamps
  rw [freeRecord_congr (s := s) _ (by rw [same])] at store
  have kept : (eject b (purged b s)).conditions = s.conditions ∧ (eject b (purged b s)).events = s.events ∧
      (eject b (purged b s)).now = s.now ∧ (eject b (purged b s)).stations = (purged b s).stations := by
    rw [frame]
    exact ⟨conditions, events, now, rfl⟩
  obtain ⟨conditions', events', now', stations'⟩ := kept
  unfold removed
  generalize eject b (purged b s) = v at frame waiting stamps channel store conditions' events' now' stations' ⊢
  refine ⟨(raise_alloc ..).trans ?_, (raise_ramp ..).trans channel, (raise_conditions ..).trans ?_, ?_, ?_,
    (raise_stations ..).trans stations', (raise_store ..).trans store⟩
  · show v.alloc = _
    rw [frame]
    dsimp only
    rw [waiting, stamps, alloc]
  · exact congrArg (List.filter _) conditions'
  · rw [raise_faultInd, raise_conditions]
    rfl
  · exact raise_events_congr (t := removeCondition (.bayFault b) v) events' now' ..

/-- The blocks that an exit from the main-powered states or a removal reaches. -/
def BayAndBlocks (s t : State) : Prop :=
  t = { s with bays := t.bays, alloc := t.alloc, ramp := t.ramp, stations := t.stations, store := t.store
               events := t.events, conditions := t.conditions, faultInd := t.faultInd }

theorem BayAndBlocks.trans (h : BayAndBlocks s t) (k : BayAndBlocks t u) : BayAndBlocks s u := by
  unfold BayAndBlocks at *
  rw [k, h]

theorem BayFrame.blocks (f : BayFrame b s t) : BayAndBlocks s t := by
  unfold BayAndBlocks
  rw [f.frame]

theorem BayAndBlocks.raise (k : EventKind) (w : Subject) (d : Nat) (x : Int) : BayAndBlocks s (raise k w d x s) := by
  unfold BayAndBlocks
  rw [(raise_only_events k w d x s).1]

/-- What a removal changes, before its admission pass. -/
theorem removed_only (b : BayIx) (s : State) : BayAndBlocks s (removed b s) := by
  have purges : BayAndBlocks s (purged b s) := by
    unfold BayAndBlocks
    rw [purged_frame]
  have clears : ∀ v, BayAndBlocks v (removeCondition (.bayFault b) v) := fun _ => rfl
  exact purges.trans ((BayFrame.eject b _).blocks.trans ((clears _).trans (.raise ..)))

/-- Settles O22. -/
theorem removalReleasesEverything : Obligations.RemovalReleasesEverything := by
  intro b s stations ramp
  dsimp only
  have eq : removeBlade b s = if 0 < (s.bay b).alloc then admissionPass (removed b s) else removed b s := removeBlade_eq b s
  have frame := BayFrame.eject b (purged b s)
  have self := (removed_bay b b s).trans (eject_record b (purged b s))
  rw [purged_bay] at self
  have empty : ((removed b s).bay b).state = .empty := by rw [self]; rfl
  have passed : KeepsBay b (removed b s) (removeBlade b s) ∧ PassesOver b (removed b s) (removeBlade b s) ∧
      PassStep (removed b s) (removeBlade b s) := by
    rw [eq]
    split
    · exact ⟨admissionPass_keeps _ (by rw [empty]; exact nofun) (by rw [empty]; exact nofun),
        admissionPass_passesOver (by rw [empty]; exact nofun), admissionPass_step _⟩
    · exact ⟨⟨rfl, rfl⟩, .refl b _, .refl _⟩
  obtain ⟨⟨bay, events⟩, lists, step⟩ := passed
  obtain ⟨alloc, channel, conditions, fault, told, entries, store⟩ := removed_rest b s
  refine ⟨?_, lists.waiting ?_, lists.queue ?_, ?_, fun was => ?_, step.conditions.trans conditions, ?_, events.trans told, ?_,
    fun h i => ?_, removed b s, eq, bay.symm, fun c ne => ?_, alloc, by rw [channel], fun was => by rw [channel, if_neg was], ?_⟩
  · rw [bay, self]
    split <;> rfl
  · rw [alloc]
    exact fun m => by simp at m
  · rw [channel]
    exact fun m => by simp at m
  · rw [lists.channel, channel]
    dsimp only
    split
    · unfold endRamping
      split <;> exact nofun
    · next was => exact fun holds => was ((ramp.1 b).mpr holds)
  · rw [lists.channel, channel, if_pos was]
    unfold endRamping
    split
    · next zero => exact ⟨rfl, rfl, fun h => absurd zero h, fun _ => rfl⟩
    · next some_ => exact ⟨rfl, rfl, fun _ => ⟨rfl, rfl⟩, fun h => absurd h some_⟩
  · rw [step.faultInd, step.conditions, fault]
  · rw [step.stations, entries]
    exact purged_forgets stations
  · rw [step.store, store, h.freeRecord_slot]
    split
    · exact nofun
    · next other => exact other
  · rw [removed_bay, frame.others c ne, purged_bay]
  · conv => lhs; rw [removed_only]
    rw [events, step.conditions, step.faultInd]

end Sys2Proof.Machine

namespace Sys2Proof.Machine

variable {s t u : State} {b c : BayIx}

/-! ### Exits from the main-powered states (R9) -/

/-- What stands before the admission pass once a bay has gone from main power to OFF or FAULT. -/
structure Exited (b : BayIx) (st : BayState) (fault : Option FaultCause) (s u : State) : Prop where
  bay : u.bay b = { (s.bay b).powerOff with
    state := st, standbyEnable := true, mainEnable := false, faultCause := fault, ledSince := (u.bay b).ledSince }
  others : ∀ c, c ≠ b → u.bay c = s.bay c
  stations : u.stations = (purged b s).stations
  ramp : u.ramp = if (s.bay b).state = .powering then (endRamping s).ramp else s.ramp
  only : u = { s with bays := u.bays, stations := u.stations, ramp := u.ramp, events := u.events
                      conditions := u.conditions, faultInd := u.faultInd }

theorem powerOff_bay_self (b : BayIx) (s : State) : (powerOff b s).bay b = (s.bay b).powerOff := by
  rw [powerOff_eq_purged, unplug_bay_self, purged_bay]

theorem powerOff_bay_ne (ne : c ≠ b) (s : State) : (powerOff b s).bay c = s.bay c := by
  rw [powerOff_eq_purged, unplug_bay_ne ne, purged_bay]

theorem powerOff_ramp (b : BayIx) (s : State) :
    (powerOff b s).ramp = if (s.bay b).state = .powering then (endRamping s).ramp else s.ramp := by
  have same := purged_frame b s
  have ended : (endRamping (purged b s)).ramp = (endRamping s).ramp := by
    rw [same]
    unfold endRamping
    split <;> rfl
  rw [powerOff_eq_purged, unplug_ramp, purged_bay, ended, same]

theorem powerOff_stations (b : BayIx) (s : State) : (powerOff b s).stations = (purged b s).stations := by
  rw [powerOff_eq_purged, (unplug_frame b _).frame]

/-- A power-off touches its bay, the station entries and the channel alone. -/
theorem powerOff_only (b : BayIx) (s : State) : powerOff b s =
    { s with bays := (powerOff b s).bays, stations := (powerOff b s).stations, ramp := (powerOff b s).ramp } := by
  have frame := (unplug_frame b (purged b s)).frame
  obtain ⟨alloc, -⟩ := unplug_lists b (purged b s)
  have store := unplug_store b (purged b s)
  rw [← powerOff_eq_purged] at frame alloc store
  rw [frame, alloc, store]
  generalize powerOff b s = v
  rw [purged_frame]

/-- Bay `b` after it has gone to `st` with main power off, told by nothing yet. -/
theorem powerOff_exited (st : BayState) (fault : Option FaultCause)
    (dark : st.standby = true ∧ st.mainPowered = false) (same : (u.bay b) =
      { (setState b st (powerOff b s)).bay b with faultCause := fault })
    (others : ∀ c, c ≠ b → u.bay c = (powerOff b s).bay c)
    (only : u = { powerOff b s with
      bays := u.bays, events := u.events, conditions := u.conditions, faultInd := u.faultInd }) :
    Exited b st fault s u where
  bay := by
    rw [same, setState_bay_self, powerOff_bay_self]
    obtain ⟨standby, main⟩ := dark
    unfold Bay.enter
    rw [standby, main]
  others c ne := (others c ne).trans (powerOff_bay_ne ne s)
  stations := by rw [only]; exact powerOff_stations b s
  ramp := by rw [only]; exact powerOff_ramp b s
  only := by
    have kept := powerOff_only b s
    generalize powerOff b s = v at only kept
    rw [only, kept]

/-- A `raise` tells of what it is given alone. -/
theorem raise_told (k : EventKind) (w : Subject) (d : Nat) (x : Int) (s : State) :
    raise k w d x s = { s with events := (raise k w d x s).events } := (raise_only_events k w d x s).1

theorem powerOff_now (b : BayIx) (s : State) : (powerOff b s).now = s.now := by rw [powerOff_only]

theorem powerOff_events (b : BayIx) (s : State) : (powerOff b s).events = s.events := by rw [powerOff_only]

/-- The state that the admission pass of `powerOffToOff` meets. -/
def toOff (b : BayIx) (detail : Nat) (s : State) : State :=
  raise .bayOff (.bay b) detail (s.bay b).alloc (setState b .off (powerOff b s))

theorem toOff_exited (b : BayIx) (detail : Nat) (s : State) :
    Exited b .off (s.bay b).faultCause s (toOff b detail s) := by
  refine powerOff_exited (b := b) .off _ ⟨rfl, rfl⟩ ?_ (fun c ne => ?_) ?_
  · rw [toOff, raise_bay, setState_bay_self, powerOff_bay_self]
    rfl
  · rw [toOff, raise_bay, setState_bay_ne _ ne]
  · conv => lhs; rw [toOff, raise_told]
    rw [toOff, raise_bays, raise_conditions, raise_faultInd]
    rfl

theorem toOff_told (b : BayIx) (detail : Nat) (s : State) :
    (toOff b detail s).events = (raise .bayOff (.bay b) detail (s.bay b).alloc s).events ∧
    (toOff b detail s).conditions = s.conditions ∧ (toOff b detail s).faultInd = s.faultInd := by
  have kept := powerOff_only b s
  refine ⟨raise_events_congr (s := s) (t := setState b .off (powerOff b s)) (powerOff_events b s) (powerOff_now b s) ..,
    (raise_conditions ..).trans ?_, (raise_faultInd ..).trans ?_⟩
  · show (powerOff b s).conditions = _
    rw [kept]
  · show (powerOff b s).faultInd = _
    rw [kept]

/-- What entry to FAULT does with main power off (R7). -/
def faulted (b : BayIx) (cause : FaultCause) (code : Int) (s : State) : State :=
  raiseCondition (.bayFault b) (raise .bayFault (.bay b) cause.code code
    ((setState b .fault s).modBay b fun y => { y with faultCause := some cause }))

theorem enterFault_faulted (b : BayIx) (cause : FaultCause) (s : State) : enterFault b cause s =
    if (s.bay b).state.mainPowered then admissionPass (faulted b cause (s.bay b).state.code (powerOff b s))
    else faulted b cause (s.bay b).state.code s := by
  rw [enterFault_eq]
  dsimp only
  split <;> rfl

theorem faulted_only (b : BayIx) (cause : FaultCause) (code : Int) (s : State) : faulted b cause code s =
    { s with bays := (faulted b cause code s).bays, events := (faulted b cause code s).events
             conditions := (faulted b cause code s).conditions, faultInd := (faulted b cause code s).faultInd } := by
  unfold faulted
  have told := raise_told .bayFault (.bay b) cause.code code
    ((setState b .fault s).modBay b fun y => { y with faultCause := some cause })
  generalize raise .bayFault (.bay b) cause.code code
    ((setState b .fault s).modBay b fun y => { y with faultCause := some cause }) = r at told ⊢
  rw [told]
  rfl

theorem faulted_bay_self (b : BayIx) (cause : FaultCause) (code : Int) (s : State) :
    (faulted b cause code s).bay b = { (s.bay b).enter .fault s.now with faultCause := some cause } :=
  (raise_bay ..).trans ((State.modBay_bay_self ..).trans (by rw [setState_bay_self]))

theorem faulted_bay_ne (ne : c ≠ b) (cause : FaultCause) (code : Int) (s : State) :
    (faulted b cause code s).bay c = s.bay c :=
  (raise_bay ..).trans ((State.modBay_bay_ne _ ne _).trans (setState_bay_ne _ ne _))

theorem faulted_exited (b : BayIx) (cause : FaultCause) (code : Int) (s : State) :
    Exited b .fault (some cause) s (faulted b cause code (powerOff b s)) := by
  refine powerOff_exited (b := b) .fault _ ⟨rfl, rfl⟩ ?_ (fun c ne => faulted_bay_ne ne ..) (faulted_only ..)
  rw [faulted_bay_self, setState_bay_self]

/-- What entry to FAULT tells, from the state `s` whose events and conditions it meets. -/
theorem faulted_told (cause : FaultCause) (code : Int) (told : t.events = s.events ∧ t.conditions = s.conditions ∧
    t.now = s.now) : (faulted b cause code t).events = (raise .bayFault (.bay b) cause.code code s).events ∧
    (faulted b cause code t).conditions =
      (s.conditions.filter fun c => decide (c.key ≠ .bayFault b)) ++ [⟨.bayFault b, true, false, s.seconds⟩] ∧
    (faulted b cause code t).faultInd = true := by
  obtain ⟨events, conditions, now⟩ := told
  refine ⟨raise_events_congr (s := s) (t := (setState b .fault t).modBay b fun y => { y with faultCause := some cause })
    events now .., ?_, raiseCondition_faultInd ..⟩
  unfold faulted raiseCondition setConditions
  simp only [raise_conditions, State.seconds, raise_now]
  show List.filter _ t.conditions ++ [⟨.bayFault b, true, false, BitVec.ofNat 32 (t.now / 1000)⟩] = _
  rw [conditions, now]

theorem powerOff_quiet (b : BayIx) (s : State) :
    (powerOff b s).events = s.events ∧ (powerOff b s).conditions = s.conditions ∧ (powerOff b s).now = s.now := by
  rw [powerOff_only]
  exact ⟨rfl, rfl, rfl⟩

/-- A bay released from main power into OFF or FAULT, and the pass that ends the change (R9). -/
def Released (b : BayIx) (st : BayState) (fault : Option FaultCause) (s t : State) : Prop :=
  t.bay b = { (s.bay b).powerOff with
    state := st, standbyEnable := true, mainEnable := false, faultCause := fault, ledSince := (t.bay b).ledSince
    link := { (s.bay b).powerOff.link with engine := (t.bay b).link.engine } } ∧
  (t.bay b).link.engine.inFlight = (s.bay b).link.engine.inFlight ∧
  ((s.bay b).state.forwarding = true → NoLearned b t) ∧
  ((s.bay b).state = .powering → t.ramp.iref = 0 ∧ t.ramp.rampTimer = none ∧
    (s.ramp.settleTime ≠ 0 → t.ramp.state = .settling ∧ t.ramp.settleTimer = some (s.now + s.ramp.settleTime)) ∧
    (s.ramp.settleTime = 0 → t.ramp.state = .idle)) ∧
  ∃ u, t = admissionPass u ∧ u.bay b = t.bay b ∧ (∀ c, c ≠ b → u.bay c = s.bay c) ∧
    ((s.bay b).state ≠ .powering → u.ramp = s.ramp) ∧
    u = { s with bays := u.bays, stations := u.stations, ramp := u.ramp, events := t.events
                 conditions := t.conditions, faultInd := t.faultInd }

theorem Exited.released {st : BayState} {fault : Option FaultCause} (x : Exited b st fault s u)
    (waiting : st ≠ .waiting) (online : st ≠ .online) : Released b st fault s (admissionPass u) := by
  have state : (u.bay b).state = st := by rw [x.bay]
  obtain ⟨bay, events⟩ := admissionPass_keeps u (b := b) (by rwa [state]) (by rwa [state])
  have channel := (admissionPass_passesOver (b := b) (by rwa [state])).channel
  have step := admissionPass_step u
  refine ⟨?_, ?_, fun forwards => ?_, fun was => ?_, u, rfl, bay.symm, x.others, fun was => ?_, ?_⟩
  · rw [bay]
    conv => lhs; rw [x.bay]
    rw [x.bay]
  · rw [bay, x.bay]
    rfl
  · unfold NoLearned
    rw [step.stations, x.stations]
    exact purged_noLearned forwards
  · rw [channel, x.ramp, if_pos was]
    unfold endRamping
    split
    · next zero => exact ⟨rfl, rfl, fun h => absurd zero h, fun _ => rfl⟩
    · next some_ => exact ⟨rfl, rfl, fun _ => ⟨rfl, rfl⟩, fun h => absurd h some_⟩
  · rw [x.ramp, if_neg was]
  · rw [events, step.conditions, step.faultInd]
    exact x.only

/-- Settles O35. -/
theorem powerOffReleasesTheBay : Obligations.PowerOffReleasesTheBay := by
  refine ⟨fun b detail cause s main => ?_, fun b cause s => ?_⟩
  · have step := admissionPass_step (toOff b detail s)
    obtain ⟨events, conditions, fault⟩ := toOff_told b detail s
    have off := toOff_exited b detail s
    have state : ((toOff b detail s).bay b).state = .off := by rw [off.bay]
    obtain ⟨-, kept⟩ := admissionPass_keeps (toOff b detail s) (b := b) (by rw [state]; nofun) (by rw [state]; nofun)
    refine ⟨⟨off.released nofun nofun, kept.trans events, step.conditions.trans conditions,
      step.faultInd.trans fault⟩, ?_⟩
    rw [enterFault_faulted, if_pos main]
    exact (faulted_exited ..).released nofun nofun
  · dsimp only
    let w := if (s.bay b).state.mainPowered then powerOff b s else s
    have quiet : w.events = s.events ∧ w.conditions = s.conditions ∧ w.now = s.now := by
      unfold w
      split
      · exact powerOff_quiet b s
      · exact ⟨rfl, rfl, rfl⟩
    obtain ⟨events, conditions, lit⟩ := faulted_told (b := b) cause (s.bay b).state.code quiet
    have bay := faulted_bay_self b cause (s.bay b).state.code w
    have told : (enterFault b cause s).bay b = (faulted b cause (s.bay b).state.code w).bay b ∧
        (enterFault b cause s).events = (faulted b cause (s.bay b).state.code w).events ∧
        (enterFault b cause s).conditions = (faulted b cause (s.bay b).state.code w).conditions ∧
        (enterFault b cause s).faultInd = (faulted b cause (s.bay b).state.code w).faultInd := by
      rw [enterFault_faulted]
      by_cases main : (s.bay b).state.mainPowered = true
      · rw [show w = powerOff b s from if_pos main] at bay ⊢
        have state : ((faulted b cause (s.bay b).state.code (powerOff b s)).bay b).state = .fault := by rw [bay]; rfl
        obtain ⟨same, kept⟩ := admissionPass_keeps (faulted b cause (s.bay b).state.code (powerOff b s)) (b := b)
          (by rw [state]; nofun) (by rw [state]; nofun)
        have step := admissionPass_step (faulted b cause (s.bay b).state.code (powerOff b s))
        rw [if_pos main]
        exact ⟨same, kept, step.conditions, step.faultInd⟩
      · rw [if_neg main, show w = s from if_neg main]
        exact ⟨rfl, rfl, rfl, rfl⟩
    obtain ⟨bay', events', conditions', lit'⟩ := told
    rw [bay', events', conditions', lit', bay, events, conditions, lit]
    refine ⟨rfl, rfl, rfl, rfl, fun room => ?_, fun full => ?_, rfl, rfl, fun dark => ?_⟩
    · rw [raise_room _ _ _ _ _ room]
      simp only [BitVec.ofInt_natCast]
    · rw [raise_full _ _ _ _ _ full]
    · have eq : enterFault b cause s = faulted b cause (s.bay b).state.code s := by
        rw [enterFault_faulted, dark]
        exact if_neg nofun
      rw [eq, show w = s from by unfold w; rw [dark]; exact if_neg nofun]
      refine ⟨rfl, fun c ne => faulted_bay_ne ne .., ?_⟩
      conv => lhs; rw [faulted_only]
      obtain ⟨events, conditions, lit⟩ := faulted_told (b := b) (s := s) cause (s.bay b).state.code ⟨rfl, rfl, rfl⟩
      rw [events, conditions, lit]

end Sys2Proof.Machine

namespace Sys2Proof.Machine

variable {s t u : State} {b c : BayIx}

/-! ### The grant and power-good (R91, R92, R96) -/

/-- A change is complete once its work and its attention frame follow. -/
theorem completes {f : State → State} (h : f s = t) : Host.Outcome.next (change f s) = completed s t := by
  subst h
  rfl

theorem grantable_of (idle : s.ramp.state = .idle) {rest : List BayIx} (queue : s.ramp.queue = b :: rest)
    (admitted : (s.bay b).state = .admitted) : grantable s = some b := by
  unfold grantable
  rw [idle, queue]
  exact if_pos admitted

/-- A bay with a PGOOD sample counted. -/
def Bay.samplePgood (high : Bool) (y : Bay) : Bay :=
  { y with pgoodHigh := if high then y.pgoodHigh + 1 else 0, pgoodLow := if high then 0 else y.pgoodLow + 1 }

theorem pgood_dark (dark : (s.bay b).mainEnable = false) (high : Bool) : pgood b high s = s := by
  unfold pgood
  rw [dark]
  rfl

theorem pgood_lit (lit : (s.bay b).mainEnable = true) (high : Bool) : pgood b high s =
    if (s.bay b).state = .powering && ((s.bay b).samplePgood high).pgoodHigh = 2 && s.ramp.rampTimer.isSome then
      goOnline b (s.modBay b (Bay.samplePgood high))
    else if (s.bay b).state.forwarding && ((s.bay b).samplePgood high).pgoodLow = 2 then
      enterFault b .powerLost (s.modBay b (Bay.samplePgood high))
    else s.modBay b (Bay.samplePgood high) := by
  unfold pgood
  rw [lit]
  dsimp only [Bool.not_true, Bool.false_eq_true, if_false]
  rw [State.modBay_bay_self]
  rfl

theorem State.modBay_congr {f g : Bay → Bay} (h : f (s.bay b) = g (s.bay b)) : s.modBay b f = s.modBay b g := by
  unfold State.modBay
  rw [h]

/-- A bay that has gone ONLINE, before its uplink and its cap decision. -/
def Bay.online (now : Nat) (y : Bay) : Bay :=
  { y.enter .online now with deadline := none, link := { y.link with
      pollDue := true, failedPolls := 0, pollTimer := some (now + 1000) } }

/-- What `goOnline` does before it tells, selects an uplink and decides a cap. -/
def opened (b : BayIx) (s : State) : State :=
  (setState b .online (endRamping s)).modBay b fun y =>
    { y with deadline := none
             link := { y.link with pollDue := true, failedPolls := 0, pollTimer := some ((endRamping s).now + 1000) } }

theorem endRamping_now (s : State) : (endRamping s).now = s.now := by
  unfold endRamping
  split <;> rfl

theorem endRamping_only (s : State) : endRamping s = { s with ramp := (endRamping s).ramp } := by
  unfold endRamping
  split <;> rfl

theorem opened_only (b : BayIx) (s : State) :
    opened b s = { s with bays := (opened b s).bays, ramp := (endRamping s).ramp } := by
  unfold opened
  rw [endRamping_only]
  rfl

theorem opened_bay_self (b : BayIx) (s : State) : (opened b s).bay b = (s.bay b).online s.now := by
  unfold opened
  rw [State.modBay_bay_self, setState_bay_self, endRamping_bay, endRamping_now]
  rfl

theorem opened_bay_ne (ne : c ≠ b) (s : State) : (opened b s).bay c = s.bay c := by
  unfold opened
  rw [State.modBay_bay_ne _ ne, setState_bay_ne _ ne, endRamping_bay]

/-- What `goOnline` does before its cap decision. -/
def openedAndTold (b : BayIx) (s : State) : State :=
  selectUplink b (raise .bayOnline (.bay b) (decide ((s.bay b).alloc < (s.bay b).maxWatts)).toNat (s.bay b).alloc
    (opened b s))

theorem goOnline_eq (b : BayIx) (s : State) : goOnline b s =
    if (s.bay b).alloc < (s.bay b).maxWatts then capDecision b (s.bay b).alloc (openedAndTold b s)
    else openedAndTold b s := by
  have alloc : ((opened b s).bay b).alloc = (s.bay b).alloc := by rw [opened_bay_self]; rfl
  have most : ((opened b s).bay b).maxWatts = (s.bay b).maxWatts := by rw [opened_bay_self]; rfl
  unfold openedAndTold
  rw [← alloc, ← most]
  rfl

/-- The uplink that a fresh selection gives a forwarding bay (R131). -/
def chosenUplink (y : BaySettings) (s : State) : Option UplinkIx :=
  if (s.uplink y.primary).up then some y.primary else y.alternate.filter fun u => (s.uplink u).up

theorem chosenUplink_primary {y : BaySettings} (up : (s.uplink y.primary).up = true) :
    chosenUplink y s = some y.primary := if_pos up

theorem chosenUplink_alternate {y : BaySettings} {u : UplinkIx} (down : (s.uplink y.primary).up = false)
    (named : y.alternate = some u) (up : (s.uplink u).up = true) : chosenUplink y s = some u := by
  simp [chosenUplink, down, named, up]

theorem chosenUplink_none {y : BaySettings} (down : (s.uplink y.primary).up = false)
    (alternate : ∀ u, y.alternate = some u → (s.uplink u).up = false) : chosenUplink y s = none := by
  cases named : y.alternate with
  | none => simp [chosenUplink, down, named]
  | some u => simp [chosenUplink, down, named, alternate u named]

theorem openedAndTold_bay_self (b : BayIx) (s : State) : (openedAndTold b s).bay b =
    { (s.bay b).online s.now with activeUplink := chosenUplink (s.bay b).settings s } := by
  unfold openedAndTold selectUplink
  rw [State.modBay_bay_self, raise_bay, opened_bay_self]
  unfold freshUplink
  simp only [raise_bay, raise_uplink, opened_bay_self]
  have uplinks : ∀ u, (opened b s).uplink u = s.uplink u := fun u => by rw [opened_only]; rfl
  simp only [uplinks]
  rfl

theorem openedAndTold_bay_ne (ne : c ≠ b) (s : State) : (openedAndTold b s).bay c = s.bay c :=
  (State.modBay_bay_ne _ ne _).trans ((raise_bay ..).trans (opened_bay_ne ne s))

theorem openedAndTold_rest (b : BayIx) (s : State) :
    (openedAndTold b s).ramp = (endRamping s).ramp ∧ (openedAndTold b s).now = s.now ∧
    (openedAndTold b s).alloc = s.alloc ∧ (openedAndTold b s).events = (raise .bayOnline (.bay b)
      (decide ((s.bay b).alloc < (s.bay b).maxWatts)).toNat (s.bay b).alloc s).events := by
  have only := opened_only b s
  refine ⟨(raise_ramp ..).trans ?_, (raise_now ..).trans ?_, (raise_alloc ..).trans ?_,
    raise_events_congr (s := s) (t := opened b s) ?_ ?_ ..⟩
  all_goals rw [only]

/-- A bay that has gone ONLINE, with its first cap decision if it was admitted below its maximum. -/
theorem goOnline_bay_self (b : BayIx) (s : State) : (goOnline b s).bay b =
    if (s.bay b).alloc < (s.bay b).maxWatts then
      { (openedAndTold b s).bay b with
        alloc := (s.bay b).alloc, lastDecided := some (s.bay b).alloc
        capTimer := some (s.now + s.alloc.capTimeout * 1000)
        link := { ((openedAndTold b s).bay b).link with slot := some ⟨(s.bay b).alloc, false⟩ } }
    else (openedAndTold b s).bay b := by
  obtain ⟨-, now, alloc, -⟩ := openedAndTold_rest b s
  rw [goOnline_eq]
  split
  · rw [capDecision_bay_self, now, alloc]
  · rfl

theorem goOnline_frame (b : BayIx) (s : State) : (goOnline b s).ramp = (endRamping s).ramp ∧
    (goOnline b s).events = (openedAndTold b s).events ∧ ∀ c, c ≠ b → (goOnline b s).bay c = s.bay c := by
  obtain ⟨ramp, -⟩ := openedAndTold_rest b s
  rw [goOnline_eq]
  split
  · exact ⟨ramp, rfl, fun c ne => (State.modBay_bay_ne _ ne _).trans (openedAndTold_bay_ne ne s)⟩
  · exact ⟨ramp, rfl, fun c ne => openedAndTold_bay_ne ne s⟩

/-- Settles O37. -/
theorem grantThenPowerGood : Obligations.GrantThenPowerGood := by
  refine ⟨fun b rest h s idle queue admitted header => ?_, fun b s high => ⟨fun level dark => ?_,
    fun lit state count timer => ?_, fun lit forwards count => ?_, fun lit count => ?_⟩, fun b s => ?_⟩
  · have bay := grantTo_bay_self b s
    have frame := BayFrame.grantTo b s
    refine ⟨grantable_of idle queue admitted, ?_, ?_, ?_, ?_, ?_, ?_, ?_, frame.others⟩
    case refine_7 =>
      unfold grantTo classCode
      rw [header, queue]
      rfl
    all_goals simp [bay, Bay.enter, BayState.mainPowered]
  · exact (gated_high high _).trans (completes (pgood_dark dark level))
  · refine (gated_high high _).trans (completes ((pgood_lit lit true).trans ?_))
    rw [if_pos (by simp [state, count, timer, Bay.samplePgood])]
    exact congrArg (goOnline b) (State.modBay_congr (by simp [Bay.samplePgood, count]))
  · have other : (s.bay b).state ≠ .powering := fun e => by rw [e] at forwards; cases forwards
    refine (gated_high high _).trans (completes ((pgood_lit lit false).trans ?_))
    rw [if_neg (by simp [other]), if_pos (by simp [forwards, count, Bay.samplePgood])]
    exact congrArg (enterFault b .powerLost) (State.modBay_congr (by simp [Bay.samplePgood, count]))
  · refine (gated_high high _).trans (completes ((pgood_lit lit true).trans ?_))
    rw [if_neg (by simp [count, Bay.samplePgood]), if_neg (by simp [Bay.samplePgood])]
    exact State.modBay_congr (by simp [Bay.samplePgood, count])
  · dsimp only
    obtain ⟨ramp, events, others⟩ := goOnline_frame b s
    obtain ⟨-, -, -, told⟩ := openedAndTold_rest b s
    have bay := goOnline_bay_self b s
    rw [openedAndTold_bay_self] at bay
    have channel : (endRamping s).ramp.iref = 0 ∧ (endRamping s).ramp.rampTimer = none ∧
        (endRamping s).ramp.state ≠ .ramping b := by
      unfold endRamping
      split <;> exact ⟨rfl, rfl, nofun⟩
    obtain ⟨iref, timer, ended⟩ := channel
    rw [ramp, events, told]
    have detail : (decide ((s.bay b).alloc < (s.bay b).maxWatts)).toNat =
        if (s.bay b).alloc < (s.bay b).maxWatts then 1 else 0 := by split <;> simp [*]
    rw [detail, bay]
    by_cases capped : (s.bay b).alloc < (s.bay b).maxWatts
    · rw [if_pos capped]
      exact ⟨rfl, rfl, rfl, iref, timer, ended, chosenUplink_primary, fun _ => chosenUplink_alternate,
        chosenUplink_none, rfl, fun full => absurd capped (Nat.not_lt.mpr full), rfl, rfl, rfl, rfl,
        fun _ => ⟨rfl, rfl, rfl⟩, others⟩
    · rw [if_neg capped]
      exact ⟨rfl, rfl, rfl, iref, timer, ended, chosenUplink_primary, fun _ => chosenUplink_alternate,
        chosenUplink_none, rfl, fun _ => ⟨rfl, rfl, rfl⟩, rfl, rfl, rfl, rfl, fun below => absurd below capped, others⟩

end Sys2Proof.Machine

namespace Sys2Proof.Machine

variable {s t u : State} {b c : BayIx}

/-! ### What the work at the end of a change leaves alone (log 6) -/

/-- A step that keeps all that no pass changes, written as the state it leaves. -/
theorem PassStep.only (h : PassStep s t) : t = { s with
    bays := t.bays, ramp := t.ramp, events := t.events
    alloc := { s.alloc with waiting := t.alloc.waiting, nextStamp := t.alloc.nextStamp } } := by
  have parts : ∀ v : State, v = { v.besidesPower with
      bays := v.bays, ramp := v.ramp, events := v.events
      alloc := { v.besidesPower.alloc with waiting := v.alloc.waiting, nextStamp := v.alloc.nextStamp } } :=
    fun _ => rfl
  conv => lhs; rw [parts t, h.rest]
  rfl

theorem BayFrame.passStep (f : BayFrame b s t) (store : t.store = s.store) (kept : BayKept (s.bay b) (t.bay b)) :
    PassStep s t := by
  refine ⟨?_, fun c => ?_⟩
  · rw [f.frame, store]
    rfl
  · by_cases e : c = b
    · rw [e]
      exact kept
    · rw [f.others c e]
      exact .refl _

theorem grantTo_step (b : BayIx) (s : State) : PassStep s (grantTo b s) :=
  (BayFrame.grantTo b s).passStep rfl (by
    rw [grantTo_bay_self]
    exact ⟨rfl, rfl, rfl, rfl, rfl, rfl, rfl, rfl, rfl, rfl, rfl⟩)

theorem modLink_step (b : BayIx) (f : BayLink → BayLink) (s : State) : PassStep s (s.modLink b f) :=
  .modBay s b _ ⟨rfl, rfl, rfl, rfl, rfl, rfl, rfl, rfl, rfl, rfl, rfl⟩

theorem takeWork_step (b : BayIx) (w : Work) (s : State) : PassStep s (takeWork b w s) := by
  cases w with
  | cap c =>
    unfold takeWork
    dsimp only
    exact .ite (.trans (modLink_step b _ s) (capFailure_step ..)) (modLink_step b _ s)
  | stop => exact modLink_step b (fun l => { l with pendingStop := false, engine := .send .stop }) s
  | identity i => exact modLink_step b (fun l => { l with identRequest := none, engine := .send (.readBlock i) }) s
  | poll => exact modLink_step b (fun l => { l with pollDue := false, engine := .send .status }) s

theorem settleBays_step (n : Nat) : ∀ s, PassStep s (settleBays n s) := by
  induction n with
  | zero => exact .refl
  | succ n ih =>
    intro s
    unfold settleBays
    split
    · exact .trans (grantTo_step ..) (ih _)
    · split
      · exact .trans (takeWork_step ..) (ih _)
      · exact .refl s

theorem runRound_only (n : Nat) (s : State) : runRound n s = { s with supplyLink := (runRound n s).supplyLink } := by
  unfold runRound
  split <;> rfl

theorem startDueRound_only (s : State) : startDueRound s = { s with supplyLink := (startDueRound s).supplyLink } := by
  unfold startDueRound
  split
  · rw [runRound_only]
  · rfl

theorem takeSupplyWork_only (s : State) : takeSupplyWork s = { s with supplyLink := (takeSupplyWork s).supplyLink } := by
  unfold takeSupplyWork
  split
  · rfl
  · split
    · rfl
    · split
      · next next _ =>
        rw [startDueRound_only, runRound_only]
      · exact startDueRound_only s

/-! ### The work an IDLE bay engine takes (R30) -/

theorem nextTaker_none : nextTaker s = none ↔ ∀ b, (s.bay b).nextWork = none := by
  simp [nextTaker, List.findSome?_eq_none_iff, mem_allBays]

theorem nextTaker_some {w : Work} (h : nextTaker s = some (b, w)) : (s.bay b).nextWork = some w := by
  obtain ⟨c, -, held⟩ := List.exists_of_findSome?_eq_some h
  cases work : (s.bay c).nextWork with
  | none => simp [work] at held
  | some v =>
    simp only [work, Option.map_some, Option.some.injEq, Prod.mk.injEq] at held
    obtain ⟨rfl, rfl⟩ := held
    exact work

/-- A bay link once its engine has taken its work, on a link that is not LOST. -/
def Work.taken (w : Work) (l : BayLink) : BayLink :=
  match w with
  | .cap c => { l with slot := none, engine := .send (.cap c.level c.retried) }
  | .stop => { l with pendingStop := false, engine := .send .stop }
  | .identity i => { l with identRequest := none, engine := .send (.readBlock i) }
  | .poll => { l with pollDue := false, engine := .send .status }

/-- A bay once its engine has taken the work it holds. -/
def Bay.worked (y : Bay) : Bay :=
  match y.nextWork with
  | some w => { y with link := w.taken y.link }
  | none => y

theorem Bay.worked_none {y : Bay} (h : y.nextWork = none) : y.worked = y := by rw [Bay.worked, h]

theorem Bay.worked_some {y : Bay} {w : Work} (h : y.nextWork = some w) :
    y.worked = { y with link := w.taken y.link } := by rw [Bay.worked, h]

theorem Bay.nextWork_busy {y : Bay} (h : y.link.engine.state ≠ .idle) : y.nextWork = none := if_pos h

theorem Bay.nextWork_taken (y : Bay) (w : Work) : ({ y with link := w.taken y.link } : Bay).nextWork = none :=
  nextWork_busy (by cases w <;> exact nofun)

/-- No cap level waits on a LOST link. -/
def NoLostCap (s : State) : Prop := ∀ b c, (s.bay b).nextWork = some (.cap c) → (s.bay b).linkLost = false

theorem takeWork_found (h : NoLostCap s) {w : Work} (work : (s.bay b).nextWork = some w) :
    takeWork b w s = s.modLink b w.taken := by
  cases w with
  | cap c =>
    unfold takeWork
    dsimp only
    rw [if_neg (by rw [h b c work]; exact nofun)]
    rfl
  | stop => rfl
  | identity i => rfl
  | poll => rfl

theorem takeWork_bay (h : NoLostCap s) {w : Work} (work : (s.bay b).nextWork = some w) (c : BayIx) :
    (takeWork b w s).bay c = if c = b then (s.bay b).worked else s.bay c := by
  rw [takeWork_found h work]
  split
  · next e =>
    subst e
    rw [Bay.worked_some work]
    exact State.modBay_bay_self ..
  · next ne => exact State.modBay_bay_ne _ ne _

/-- The number of bays whose engines have work to take. -/
def workers (s : State) : Nat := (allBays.filter fun b => (s.bay b).nextWork.isSome).length

theorem Bay.worked_idle (y : Bay) : y.worked.nextWork = none := by
  cases work : y.nextWork with
  | none => rw [worked_none work, work]
  | some w => rw [worked_some work, nextWork_taken]

theorem workers_takeWork (h : NoLostCap s) {w : Work} (work : (s.bay b).nextWork = some w) :
    workers (takeWork b w s) < workers s := by
  have perm := List.perm_cons_erase (mem_allBays b)
  have rest : ((allBays.erase b).filter fun c => ((takeWork b w s).bay c).nextWork.isSome) =
      (allBays.erase b).filter fun c => (s.bay c).nextWork.isSome :=
    List.filter_congr fun c hc => by
      rw [takeWork_bay h work, if_neg ((List.Nodup.mem_erase_iff allBays_nodup).mp hc).1]
  unfold workers
  rw [(perm.filter _).length_eq, (perm.filter fun c => (s.bay c).nextWork.isSome).length_eq,
    List.filter_cons_of_neg, List.filter_cons_of_pos (by rw [work]; rfl), rest]
  · exact Nat.lt_succ_self _
  · rw [takeWork_bay h work, if_pos rfl, Bay.worked_idle]
    exact nofun

theorem NoLostCap.takeWork (h : NoLostCap s) {w : Work} (work : (s.bay b).nextWork = some w) :
    NoLostCap (takeWork b w s) := by
  intro c x
  rw [takeWork_bay h work]
  split
  · rw [Bay.worked_idle]
    exact nofun
  · exact h c x

theorem grantable_modLink (b : BayIx) (f : BayLink → BayLink) (s : State) :
    grantable (s.modLink b f) = grantable s := by
  have state : ∀ c, ((s.modLink b f).bay c).state = (s.bay c).state := by
    intro c
    rw [State.modLink, State.modBay_bay]
    split
    · next e => rw [e]
    · rfl
  have ramp : (s.modLink b f).ramp = s.ramp := rfl
  simp only [grantable, ramp, state]

/-- With no grant to make, every engine takes its work and nothing else changes. -/
theorem settleBays_worked (n : Nat) : ∀ s, grantable s = none → NoLostCap s → workers s ≤ n →
    (∀ b, (settleBays n s).bay b = (s.bay b).worked) ∧ (settleBays n s).ramp = s.ramp := by
  induction n with
  | zero =>
    intro s none caps few
    have empty := List.filter_eq_nil_iff.mp (List.length_eq_zero_iff.mp (Nat.le_zero.mp few))
    refine ⟨fun b => (Bay.worked_none ?_).symm, rfl⟩
    unfold settleBays
    simpa using empty b (mem_allBays b)
  | succ n ih =>
    intro s none caps few
    unfold settleBays
    rw [none]
    dsimp only
    split
    · next b w taker =>
      have work := nextTaker_some taker
      have same : (takeWork b w s).ramp = s.ramp := by rw [takeWork_found caps work]; rfl
      have still : grantable (takeWork b w s) = .none := by
        rw [takeWork_found caps work, grantable_modLink, none]
      obtain ⟨bays, ramp⟩ := ih _ still (caps.takeWork work) (by have := workers_takeWork caps work; omega)
      refine ⟨fun c => ?_, ramp.trans same⟩
      rw [bays, takeWork_bay caps work]
      split
      · next e => rw [Bay.worked_none (Bay.worked_idle _), e]
      · rfl
    · next idle => exact ⟨fun b => (Bay.worked_none (nextTaker_none.mp idle b)).symm, rfl⟩

theorem workers_le (s : State) : workers s ≤ 14 := List.length_filter_le ..

/-- What the work at the end of a change makes of a bay and of the channel. -/
theorem settleBays_settled (caps : NoLostCap s) :
    (∀ b, grantable s = some b → (settleBays settleFuel s).bay b = (grantTo b s).bay b ∧
      (settleBays settleFuel s).ramp = (grantTo b s).ramp) ∧
    (grantable s = none → (settleBays settleFuel s).ramp = s.ramp) ∧
    ∀ b, grantable s ≠ some b → (settleBays settleFuel s).bay b = (s.bay b).worked := by
  cases may : grantable s with
  | none =>
    obtain ⟨bays, ramp⟩ := settleBays_worked settleFuel s may caps (Nat.le_trans (workers_le s) (by decide))
    exact ⟨nofun, fun _ => ramp, fun b _ => bays b⟩
  | some b =>
    have granted : settleBays settleFuel s = settleBays 127 (grantTo b s) := by
      show settleBays (127 + 1) s = _
      rw [settleBays, may]
    have powering : ((grantTo b s).bay b).nextWork = none := by
      rw [grantTo_bay_self]
      unfold Bay.nextWork
      split <;> rfl
    have caps' : NoLostCap (grantTo b s) := by
      intro c x
      by_cases e : c = b
      · rw [e, powering]
        exact nofun
      · rw [(BayFrame.grantTo b s).others c e]
        exact caps c x
    obtain ⟨bays, ramp⟩ := settleBays_worked 127 (grantTo b s) rfl caps' (Nat.le_trans (workers_le _) (by decide))
    rw [granted]
    refine ⟨fun c e => ?_, nofun, fun c other => ?_⟩
    · cases e
      exact ⟨(bays b).trans (Bay.worked_none powering), ramp⟩
    · rw [bays, (BayFrame.grantTo b s).others c fun e => other (congrArg some e.symm)]

/-! ### The work an IDLE supply engine takes (R41) -/

/-- A supply takes part in the rounds. -/
def duePoll (s : State) (i : SupIx) : Prop := (s.supply i).state = .active ∨ (s.supply i).state = .failed

theorem allSupplies_eq : allSupplies = List.finRange 6 := rfl

theorem pollTarget_some {n : Nat} {i : SupIx} (reached : n ≤ i.val) (due : duePoll s i)
    (first : ∀ j, j < i → n ≤ j.val → ¬ duePoll s j) : pollTarget n s = some i := by
  unfold pollTarget
  rw [allSupplies_eq, List.find?_eq_some_iff_getElem]
  refine ⟨by simpa [reached, duePoll] using due, i.val, by simp, by simp, fun j before => ?_⟩
  have idle := first ⟨j, by omega⟩ before
  by_cases passed : n ≤ j
  · simpa [duePoll, passed] using idle passed
  · simp [passed]

theorem pollTarget_none {n : Nat} (rest : ∀ j : SupIx, n ≤ j.val → ¬ duePoll s j) : pollTarget n s = none := by
  unfold pollTarget
  rw [List.find?_eq_none]
  intro j _
  simpa [duePoll] using rest j

theorem nextIdentity_some {i : SupIx} {n : Nat} (asked : s.supplyLink.identRequests.get i = some n)
    (first : ∀ j, j < i → s.supplyLink.identRequests.get j = none) : nextIdentity s = some (i, n) := by
  unfold nextIdentity
  rw [allSupplies_eq, List.findSome?_eq_some_iff]
  refine ⟨(List.finRange 6).take i.val, i, (List.finRange 6).drop (i.val + 1), ?_, by rw [asked]; rfl, fun j m => ?_⟩
  · have split_ := List.take_append_drop i.val (List.finRange 6)
    rw [List.drop_eq_getElem_cons (by simp), List.getElem_finRange] at split_
    exact split_.symm
  · obtain ⟨k, before, rfl⟩ := List.mem_take_iff_getElem.mp m
    rw [first _ (by simp at before ⊢; exact Fin.mk_lt_of_lt_val (by omega))]
    rfl

theorem nextIdentity_none (none : ∀ j, s.supplyLink.identRequests.get j = none) : nextIdentity s = .none := by
  unfold nextIdentity
  rw [List.findSome?_eq_none_iff]
  intro j _
  rw [none j]
  rfl

theorem runRound_some {n : Nat} {i : SupIx} (target : pollTarget n s = some i) : runRound n s =
    { s with supplyLink := { s.supplyLink with round := some (i.val + 1), engine := .send (.supplyStatus i) } } := by
  rw [runRound, target]

theorem runRound_none {n : Nat} (target : pollTarget n s = none) :
    runRound n s = { s with supplyLink := { s.supplyLink with round := none } } := by
  rw [runRound, target]

/-- The round under way has no supply left to poll, or there is none. -/
def roundOver (s : State) : Prop := s.supplyLink.round = none ∨
  ∃ next, s.supplyLink.round = some next ∧ ∀ j : SupIx, next ≤ j.val → ¬ duePoll s j

theorem takeSupplyWork_identity (idle : s.supplyLink.engine.state = .idle) {i : SupIx} {n : Nat}
    (asked : s.supplyLink.identRequests.get i = some n) (first : ∀ j, j < i → s.supplyLink.identRequests.get j = none) :
    (takeSupplyWork s).supplyLink = { s.supplyLink with
      identRequests := s.supplyLink.identRequests.set i none, engine := .send (.supplyReadBlock i n) } := by
  unfold takeSupplyWork
  rw [if_neg (Classical.not_not.mpr idle), nextIdentity_some asked first]

/-- Without an identity request the round under way goes on. -/
theorem takeSupplyWork_goesOn (idle : s.supplyLink.engine.state = .idle)
    (none : ∀ j, s.supplyLink.identRequests.get j = none) {next : Nat} (round : s.supplyLink.round = some next) :
    takeSupplyWork s = startDueRound (runRound next s) := by
  simp [takeSupplyWork, idle, nextIdentity_none none, round]

theorem takeSupplyWork_noRoundYet (idle : s.supplyLink.engine.state = .idle)
    (none : ∀ j, s.supplyLink.identRequests.get j = none) (round : s.supplyLink.round = .none) :
    takeSupplyWork s = startDueRound s := by
  simp [takeSupplyWork, idle, nextIdentity_none none, round]

theorem takeSupplyWork_round (idle : s.supplyLink.engine.state = .idle)
    (none : ∀ j, s.supplyLink.identRequests.get j = none) {next : Nat} {i : SupIx}
    (round : s.supplyLink.round = some next) (target : pollTarget next s = some i) :
    (takeSupplyWork s).supplyLink = { s.supplyLink with
      round := some (i.val + 1), engine := .send (.supplyStatus i) } := by
  rw [takeSupplyWork_goesOn idle none round, runRound_some target]
  rfl

/-- A round that is over leaves room for a due one. -/
theorem takeSupplyWork_over (idle : s.supplyLink.engine.state = .idle)
    (none : ∀ j, s.supplyLink.identRequests.get j = none) (past : roundOver s) : takeSupplyWork s =
      startDueRound { s with supplyLink := { s.supplyLink with round := .none } } := by
  obtain round | ⟨next, round, past⟩ := past
  · rw [takeSupplyWork_noRoundYet idle none round, ← round]
  · rw [takeSupplyWork_goesOn idle none round, runRound_none (pollTarget_none past)]

theorem startDueRound_due (none : s.supplyLink.round = none) (due : s.supplyLink.roundDue = true)
    (idle : s.supplyLink.engine.state = .idle) :
    startDueRound s = runRound 0 { s with supplyLink := { s.supplyLink with roundDue := false } } := by
  unfold startDueRound
  rw [none, due, idle]
  rfl

theorem takeSupplyWork_dueRound (idle : s.supplyLink.engine.state = .idle)
    (none : ∀ j, s.supplyLink.identRequests.get j = none) (past : roundOver s) (due : s.supplyLink.roundDue = true)
    {i : SupIx} (target : pollTarget 0 s = some i) : (takeSupplyWork s).supplyLink = { s.supplyLink with
      round := some (i.val + 1), roundDue := false, engine := .send (.supplyStatus i) } := by
  rw [takeSupplyWork_over idle none past,
    startDueRound_due (s := { s with supplyLink := { s.supplyLink with round := .none } }) rfl due idle]
  rw [runRound_some (n := 0) (i := i)]
  exact target

theorem takeSupplyWork_noRound (idle : s.supplyLink.engine.state = .idle)
    (none : ∀ j, s.supplyLink.identRequests.get j = none) (past : roundOver s)
    (stop : s.supplyLink.roundDue = false ∨ pollTarget 0 s = .none) :
    (takeSupplyWork s).supplyLink = { s.supplyLink with round := .none, roundDue := false } := by
  rw [takeSupplyWork_over idle none past]
  cases due : s.supplyLink.roundDue with
  | false =>
    unfold startDueRound
    rw [if_neg (by simp [due])]
    exact congrArg (fun d => { s.supplyLink with round := .none, roundDue := d }) due
  | true =>
    rw [startDueRound_due (s := { s with supplyLink := { s.supplyLink with round := .none } }) rfl due idle]
    rw [runRound_none (n := 0)]
    exact stop.resolve_left (by rw [due]; exact nofun)

/-! ### The first work of a bay engine (Table 2-3) -/

section Work
variable {y : Bay} (idle : y.link.engine.state = .idle)
include idle

theorem Bay.nextWork_ident (state : y.state = .ident) {i : Nat} (asked : y.link.identRequest = some i) :
    y.nextWork = some (.identity i) := by
  simp [nextWork, idle, state, asked]

theorem Bay.nextWork_cap (state : y.state = .online) {c : CapSlot} (slot : y.link.slot = some c) :
    y.nextWork = some (.cap c) := by
  simp [nextWork, idle, state, slot]

theorem Bay.nextWork_poll (state : y.state = .online) (slot : y.link.slot = none) (due : y.link.pollDue = true) :
    y.nextWork = some .poll := by
  simp [nextWork, idle, state, slot, due]

theorem Bay.nextWork_stop (state : y.state = .stopping ∨ y.state = .shedding) (pending : y.link.pendingStop = true) :
    y.nextWork = some .stop := by
  rcases state with state | state <;> simp [nextWork, idle, state, pending]

theorem Bay.nextWork_lastPoll (state : y.state = .stopping ∨ y.state = .shedding) (none : y.link.pendingStop = false)
    (due : y.link.pollDue = true) : y.nextWork = some .poll := by
  rcases state with state | state <;> simp [nextWork, idle, state, none, due]

end Work

theorem Bay.online_of_cap {y : Bay} {c : CapSlot} (work : y.nextWork = some (.cap c)) :
    y.state = .online ∧ y.link.slot = some c := by
  unfold nextWork at work
  split at work
  · cases work
  · split at work
    · cases asked : y.link.identRequest <;> simp [asked] at work
    · next online =>
      split at work
      · next d slot =>
        simp only [Option.some.injEq, Work.cap.injEq] at work
        exact ⟨online, work ▸ slot⟩
      · split at work <;> simp at work
    all_goals cases stop : y.link.pendingStop <;> cases due : y.link.pollDue <;> simp [stop, due] at work

/-- Settles O6. -/
theorem settledWorkStaysInItsBlocks : Obligations.SettledWorkStaysInItsBlocks := by
  intro s
  have step := settleBays_step settleFuel s
  have tail : settle s = { settleBays settleFuel s with supplyLink := (settle s).supplyLink } :=
    takeSupplyWork_only (settleBays settleFuel s)
  have bays : ∀ b, (settle s).bay b = (settleBays settleFuel s).bay b := by
    rw [tail]
    exact fun b => rfl
  have ramp : (settle s).ramp = (settleBays settleFuel s).ramp := by rw [tail]
  refine ⟨?_, fun b => ?_, fun still none busy => ?_, fun caps => ?_, fun idle => ?_⟩
  · have only := step.only
    generalize settle s = t at tail
    generalize settleBays settleFuel s = v at tail only
    rw [tail, only]
  · rw [bays]
    have kept := step.kept b
    exact ⟨kept.settings, kept.header, kept.record, kept.read, kept.sticky, kept.counters⟩
  · have stays : settleBays settleFuel s = s := by
      show settleBays (127 + 1) s = s
      have noGrant : grantable s = .none := by
        cases may : grantable s with
        | none => rfl
        | some b =>
          obtain ⟨state, ⟨rest, queue⟩, -⟩ := grantable_some may
          rcases still with h | h
          · exact absurd state h
          · rw [h] at queue
            cases queue
      rw [settleBays, noGrant]
      dsimp only
      rw [nextTaker_none.mpr fun b => Option.isNone_iff_eq_none.mp (none b)]
    unfold settle
    rw [stays]
    exact if_pos busy
  · have noLost : NoLostCap s := by
      intro b c work
      obtain ⟨online, slot⟩ := Bay.online_of_cap work
      cases lost : (s.bay b).linkLost with
      | false => rfl
      | true =>
        rw [caps b online lost] at slot
        cases slot
    obtain ⟨granted, stays, worked⟩ := settleBays_settled noLost
    refine ⟨fun b rest idle queue admitted => ?_, fun none => ramp.trans (stays none), fun b => ⟨fun other busy => ?_, fun idle => ?_⟩⟩
    · rw [bays, ramp]
      exact granted b (grantable_of idle queue admitted)
    · rw [bays, worked b other, Bay.worked_none (Bay.nextWork_busy busy)]
    · have works : ∀ w, (s.bay b).nextWork = some w → (s.bay b).state ≠ .admitted →
          (settle s).bay b = { s.bay b with link := w.taken (s.bay b).link } := by
        intro w work plain
        rw [bays, worked b fun may => plain (grantable_some may).2.2, Bay.worked_some work]
      refine ⟨fun i state asked => works _ (Bay.nextWork_ident idle state asked) (by rw [state]; exact nofun),
        fun c state slot => works _ (Bay.nextWork_cap idle state slot) (by rw [state]; exact nofun),
        fun state slot due => works _ (Bay.nextWork_poll idle state slot due) (by rw [state]; exact nofun),
        fun state => ?_⟩
      have plain : (s.bay b).state ≠ .admitted := by rcases state with h | h <;> rw [h] <;> exact nofun
      exact ⟨fun pending => works _ (Bay.nextWork_stop idle state pending) plain,
        fun none due => works _ (Bay.nextWork_lastPoll idle state none due) plain⟩
  · have link : (settleBays settleFuel s).supplyLink = s.supplyLink := step.supplyLink
    have supply : ∀ i, (settleBays settleFuel s).supply i = s.supply i := fun i => by
      unfold State.supply
      rw [step.supplies]
    unfold settle
    rw [← link] at idle
    simp only [← link, ← supply]
    generalize settleBays settleFuel s = v at idle
    refine ⟨fun i n asked first => takeSupplyWork_identity idle asked first, fun none =>
      ⟨fun next i round reached due first => takeSupplyWork_round idle none round (pollTarget_some reached due first),
        fun i past due polls first => takeSupplyWork_dueRound idle none past due
          (pollTarget_some (Nat.zero_le _) polls fun j before _ => first j before),
        fun past stop => takeSupplyWork_noRound idle none past
          (stop.imp_right fun rest => pollTarget_none fun j _ => rest j)⟩⟩

end Sys2Proof.Machine

namespace Sys2Proof.Machine

/-! ### Fan curves (R111) -/

theorem roundHalfUp_bounds (num : Int) {den : Nat} (pos : 0 < den) :
    den * (2 * roundHalfUp num den - 1) ≤ 2 * num ∧ 2 * num < den * (2 * roundHalfUp num den + 1) := by
  have below := Int.ediv_mul_le (2 * num + den) (b := 2 * (den : Int)) (by omega)
  have above := Int.lt_ediv_add_one_mul_self (2 * num + den) (b := 2 * (den : Int)) (by omega)
  change roundHalfUp num den * _ ≤ _ at below
  change _ < (roundHalfUp num den + 1) * _ at above
  generalize roundHalfUp num den = r at below above
  constructor <;> grind

/-- A product that a rounded quotient is near to bounds the quotient by the other factor. -/
theorem factor_le_rounded {den num r k : Int} (pos : 0 < den) (above : 2 * num < den * (2 * r + 1)) (h : den * k ≤ num) :
    k ≤ r := by
  have : 2 * k < 2 * r + 1 := Int.lt_of_mul_lt_mul_left (a := den) (by rw [Int.mul_left_comm]; omega) (Int.le_of_lt pos)
  omega

theorem rounded_le_factor {den num r k : Int} (pos : 0 < den) (below : den * (2 * r - 1) ≤ 2 * num) (h : num ≤ den * k) :
    r ≤ k := by
  have : 2 * r - 1 ≤ 2 * k := Int.le_of_mul_le_mul_left (a := den) (by rw [Int.mul_left_comm den]; omega) pos
  omega

section Segment
variable {p q : CurvePoint} {t : Int} (after : p.temp ≤ t) (before : t < q.temp)
include after before

/-- The rise of a segment at `t`, which stays between 0 and the whole rise of the segment. -/
theorem segment_rise :
    let r := roundHalfUp (((q.duty : Int) - p.duty) * (t - p.temp)) (q.temp - p.temp).toNat
    min 0 ((q.duty : Int) - p.duty) ≤ r ∧ r ≤ max 0 ((q.duty : Int) - p.duty) := by
  intro r
  have pos : 0 < (q.temp - p.temp).toNat := by omega
  obtain ⟨below, above⟩ := roundHalfUp_bounds (((q.duty : Int) - p.duty) * (t - p.temp)) pos
  change _ * (2 * r - 1) ≤ _ at below
  change _ < _ * (2 * r + 1) at above
  rw [Int.toNat_of_nonneg (by omega)] at below above
  have rises : 0 < q.temp - p.temp := by omega
  have reached : 0 ≤ t - p.temp := by omega
  have inside : t - p.temp ≤ q.temp - p.temp := by omega
  generalize (q.duty : Int) - p.duty = whole at below above ⊢
  rcases Int.le_total 0 whole with up | down
  · rw [Int.min_eq_left up, Int.max_eq_right up]
    refine ⟨factor_le_rounded rises above ?_, rounded_le_factor rises below ?_⟩
    · rw [Int.mul_zero]
      exact Int.mul_nonneg up reached
    · rw [Int.mul_comm]
      exact Int.mul_le_mul_of_nonneg_right inside up
  · rw [Int.min_eq_right down, Int.max_eq_left down]
    refine ⟨factor_le_rounded rises above ?_, rounded_le_factor rises below ?_⟩
    · rw [Int.mul_comm]
      exact Int.mul_le_mul_of_nonpos_left down inside
    · rw [Int.mul_zero]
      exact Int.mul_nonpos_of_nonpos_of_nonneg down reached

theorem segmentValue_eq : (segmentValue p q t : Int) =
    p.duty + roundHalfUp (((q.duty : Int) - p.duty) * (t - p.temp)) (q.temp - p.temp).toNat := by
  have := segment_rise after before
  unfold segmentValue
  rw [Int.toNat_of_nonneg]
  omega

theorem segmentValue_between : min p.duty q.duty ≤ segmentValue p q t ∧ segmentValue p q t ≤ max p.duty q.duty := by
  have rise := segment_rise after before
  have eq := segmentValue_eq after before
  omega

end Segment

theorem segmentValue_start {p q : CurvePoint} (before : p.temp < q.temp) : segmentValue p q p.temp = p.duty := by
  have eq := segmentValue_eq (Int.le_refl p.temp) before
  have : roundHalfUp (((q.duty : Int) - p.duty) * (p.temp - p.temp)) (q.temp - p.temp).toNat = 0 := by
    unfold roundHalfUp
    rw [Int.sub_self, Int.mul_zero]
    exact Int.ediv_eq_zero_of_lt (by omega) (by omega)
  omega

theorem curveFrom_low {p : CurvePoint} {rest : List CurvePoint} {t : Int} (low : t ≤ p.temp) :
    curveFrom p rest t = p.duty := by
  cases rest with
  | nil => rfl
  | cons q rest => exact if_pos low

theorem curveFrom_segment {p q : CurvePoint} {rest : List CurvePoint} {t : Int} (after : p.temp ≤ t)
    (before : t < q.temp) : curveFrom p (q :: rest) t = segmentValue p q t := by
  rw [curveFrom]
  split
  · next low =>
    obtain rfl : t = p.temp := Int.le_antisymm low after
    exact (segmentValue_start before).symm
  · rfl

theorem curveFrom_le {limit : Nat} {t : Int} (rest : List CurvePoint) : ∀ p : CurvePoint,
    (∀ q ∈ p :: rest, q.duty ≤ limit) → curveFrom p rest t ≤ limit := by
  induction rest with
  | nil => exact fun p h => h p (List.mem_singleton_self p)
  | cons q rest ih =>
    intro p h
    have first := h p List.mem_cons_self
    have second := h q (List.mem_cons_of_mem _ List.mem_cons_self)
    unfold curveFrom
    split
    · exact first
    · split
      · next high before =>
        have between := (segmentValue_between (Int.le_of_lt (Int.not_le.mp high)) before).2
        omega
      · exact ih q fun r m => h r (List.mem_cons_of_mem _ m)

theorem increasing_tail {p : CurvePoint} {l : List CurvePoint} (h : increasing (p :: l) = true) :
    increasing l = true := by
  cases l with
  | nil => rfl
  | cons q l => exact (Bool.and_eq_true_iff.mp h).2

theorem increasing_head (l : List CurvePoint) : ∀ p : CurvePoint, increasing (p :: l) = true →
    ∀ q ∈ l, p.temp < q.temp := by
  induction l with
  | nil => exact fun _ _ => nofun
  | cons r l ih =>
    intro p h q m
    obtain ⟨next, later⟩ := Bool.and_eq_true_iff.mp h
    have step : p.temp < r.temp := of_decide_eq_true next
    rcases List.mem_cons.mp m with rfl | m
    · exact step
    · exact Int.lt_trans step (ih r later q m)

/-- From a point on, the points before it do not matter. -/
theorem curveValue_skip {q : CurvePoint} {rest : List CurvePoint} {t : Int} (after : q.temp ≤ t)
    (a : List CurvePoint) (h : increasing (a ++ q :: rest) = true) :
    curveValue (a ++ q :: rest) t = curveFrom q rest t := by
  induction a with
  | nil => rfl
  | cons p a ih =>
    rw [← ih (increasing_tail h)]
    have reached : ∀ r more, a ++ q :: rest = r :: more → p.temp < r.temp ∧ r.temp ≤ q.temp := by
      intro r more eq
      rw [List.cons_append, eq] at h
      refine ⟨increasing_head _ p h r List.mem_cons_self, ?_⟩
      have m : q ∈ r :: more := by rw [← eq]; simp
      rcases List.mem_cons.mp m with rfl | m
      · exact Int.le_refl _
      · exact Int.le_of_lt (increasing_head more r (increasing_tail h) q m)
    show curveFrom p (a ++ q :: rest) t = curveValue (a ++ q :: rest) t
    cases eq : a ++ q :: rest with
    | nil => simp at eq
    | cons r more =>
      obtain ⟨step, below⟩ := reached r more eq
      show curveFrom p (r :: more) t = curveFrom r more t
      rw [curveFrom, if_neg (by omega), if_neg (by omega)]

/-- Settles O42. -/
theorem curveValueFollowsItsPoints : Obligations.CurveValueFollowsItsPoints := by
  intro l t rising most
  refine ⟨?_, fun p m => ?_, fun p head low => ?_, fun p last high => ?_, fun a b p q eq after before => ?_⟩
  · cases l with
    | nil => exact Nat.zero_le _
    | cons p rest => exact curveFrom_le rest p most
  · obtain ⟨a, rest, rfl⟩ := List.append_of_mem m
    rw [curveValue_skip (Int.le_refl _) a rising, curveFrom_low (Int.le_refl _)]
  · cases l with
    | nil => cases head
    | cons q rest =>
      cases head
      exact curveFrom_low low
  · obtain ⟨a, rfl⟩ := List.getLast?_eq_some_iff.mp last
    exact curveValue_skip high a rising
  · subst eq
    rw [curveValue_skip after a rising, curveFrom_segment after before]
    intro num den rise
    obtain ⟨low, high⟩ := segmentValue_between after before
    have eq : rise = roundHalfUp num (q.temp - p.temp).toNat := by
      show (segmentValue p q t : Int) - p.duty = _
      rw [segmentValue_eq after before, Int.add_comm, Int.add_sub_cancel]
    obtain ⟨below, above⟩ := roundHalfUp_bounds num (den := (q.temp - p.temp).toNat) (by omega)
    rw [Int.toNat_of_nonneg (by omega)] at below above
    rw [eq]
    exact ⟨below, above, low, high⟩

end Sys2Proof.Machine

namespace Sys2Proof.Machine

variable {s t u : State} {c : ChanIx} {z : ZoneIx} {code : BitVec 12}

/-! ### The indicator over an evaluation (R192) -/

/-- FAULT_IND is lit exactly while an entry is unacknowledged. -/
def Judged (s : State) : Prop := s.faultInd = s.conditions.any fun c => !c.acked

theorem Judged.congr (h : Judged s) (conditions : t.conditions = s.conditions) (lit : t.faultInd = s.faultInd) :
    Judged t := by
  unfold Judged
  rw [conditions, lit]
  exact h

theorem judged_tellThermal (h : Judged s) (old st : ThermalState) : Judged (tellThermal z old st s) := by
  unfold tellThermal
  dsimp only
  split
  · exact setConditions_judged ..
  · split
    · exact setConditions_judged ..
    · exact h.congr (raise_conditions ..) (raise_faultInd ..)

theorem judged_recomputeLimit (h : Judged s) (z : ZoneIx) : Judged (recomputeLimit z s) := by
  rcases recomputeLimit_step z s with same | pass
  · rw [same]
    exact h
  · exact h.congr pass.conditions pass.faultInd

theorem judged_changeThermal (h : Judged s) (st : ThermalState) : Judged (changeThermal z st s) := by
  have moved : Judged (s.modZone z fun x => { x with thermal := st }) := h
  have limited := judged_recomputeLimit (judged_tellThermal (z := z) moved (s.zone z).thermal st) z
  rw [changeThermal_eq]
  dsimp only
  split
  · rw [updateZone_only]
    exact limited
  · exact limited

theorem judged_evaluateZone (h : Judged s) (z : ZoneIx) : Judged (evaluateZone z s) := by
  unfold evaluateZone
  dsimp only
  split
  · exact h
  · exact judged_changeThermal h _

theorem decide_toNat (p : Prop) [Decidable p] : (decide p).toNat = if p then 1 else 0 := by split <;> simp [*]

/-! ### Rail codes (R108) -/

/-- A channel with a rail code counted. -/
def Sensor.railed (code : BitVec 12) (x : Sensor) : Sensor :=
  { x with lastCode := code, railRun := x.railRun + 1, inRangeRun := 0 }

/-- A rail code that faults no channel. -/
theorem railCode_counts (h : (s.sensor c).railRun = 0 ∨ (s.sensor c).status = .faulted ∨ (s.sensor c).status = .disabled) :
    railCode c code s = s.modSensor c (Sensor.railed code) := by
  unfold railCode
  dsimp only
  rw [State.modSensor_sensor_self]
  refine if_neg ?_
  rcases h with h | h | h <;> simp [h]

/-- The second rail code of an INITIAL or VALID channel. -/
theorem railCode_faults (second : 1 ≤ (s.sensor c).railRun)
    (status : (s.sensor c).status = .initial ∨ (s.sensor c).status = .valid) : railCode c code s =
      raiseCondition (.sensorFault c) (raise .sensorFault (.sensor c) (decide (code = 4095)).toNat code.toNat
        ((s.modSensor c (Sensor.railed code)).modSensor c fun x => { x with status := .faulted })) := by
  unfold railCode
  dsimp only
  rw [State.modSensor_sensor_self]
  refine if_pos ?_
  rcases status with h | h <;> simp [h, second]

/-- The status that a rail code leaves a channel in. -/
def Sensor.railStatus (x : Sensor) : SensorStatus :=
  if x.railRun = 0 ∨ x.status = .faulted ∨ x.status = .disabled then x.status else .faulted

theorem SensorStatus.judged_or_not (x : SensorStatus) :
    (x = .initial ∨ x = .valid) ∨ x = .faulted ∨ x = .disabled := by cases x <;> decide

theorem railCode_sensor (c d : ChanIx) (code : BitVec 12) (s : State) : (railCode c code s).sensor d =
    if d = c then { (s.sensor c).railed code with status := (s.sensor c).railStatus } else s.sensor d := by
  by_cases first : (s.sensor c).railRun = 0 ∨ (s.sensor c).status = .faulted ∨ (s.sensor c).status = .disabled
  · rw [railCode_counts first, State.modSensor_sensor, Sensor.railStatus, if_pos first]
    rfl
  · obtain ⟨second, others⟩ := not_or.mp first
    have status := (SensorStatus.judged_or_not (s.sensor c).status).resolve_right others
    rw [railCode_faults (Nat.pos_of_ne_zero second) status, Sensor.railStatus, if_neg first]
    show (raise _ _ _ _ _).sensor d = _
    rw [raise_sensor, State.modSensor_modSensor, State.modSensor_sensor]

theorem converted_rail (rail : code = 0 ∨ code = 4095) :
    converted c code s = evaluateZone (s.sensor c).zone (railCode c code s) := by
  have isRail : isRail code = true := by simpa [isRail] using rail
  unfold converted
  dsimp only
  rw [if_pos isRail, railCode_sensor, if_pos rfl]
  rfl

/-- Settles O39. -/
theorem secondRailCodeFaultsTheChannel : Obligations.SecondRailCodeFaultsTheChannel := by
  intro c code s rail
  dsimp only
  have judged := converted_rail (s := s) (c := c) rail
  have sensor : ∀ d, (converted c code s).sensor d = _ := fun d => by
    rw [judged, evaluateZone_sensor, railCode_sensor]
  have self := sensor c
  rw [if_pos rfl] at self
  rw [self]
  refine ⟨rfl, rfl, rfl, rfl, rfl, fun d ne => (sensor d).trans (if_neg ne), fun first => ⟨if_pos first, ?_⟩,
    fun second status => ?_⟩
  · rw [judged, railCode_counts first]
    rfl
  · have faults := railCode_faults (code := code) second status
    have other : ¬ ((s.sensor c).railRun = 0 ∨ (s.sensor c).status = .faulted ∨ (s.sensor c).status = .disabled) := by
      rcases status with h | h <;> simp [h, Nat.pos_iff_ne_zero.mp second]
    rw [decide_toNat] at faults
    have step := evaluateZone_thermalStep (s.sensor c).zone (railCode c code s)
    have named : (raiseCondition (.sensorFault c) (raise .sensorFault (.sensor c) (if code = 4095 then 1 else 0) code.toNat
        ((s.modSensor c (Sensor.railed code)).modSensor c fun x => { x with status := .faulted }))) =
        railCode c code s := faults.symm
    have entry : (⟨.sensorFault c, true, false, s.seconds⟩ : Condition) ∈ (converted c code s).conditions := by
      rw [judged, step.conditions _ (by simp), faults]
      refine (mem_raiseCondition ..).mpr (.inr ?_)
      rw [State.seconds, State.seconds, raise_now]
      rfl
    refine ⟨if_neg other, ?_, ⟨_, entry, rfl, rfl, rfl⟩, judged.trans (congrArg _ faults), fun room => ?_⟩
    · have lit : Judged (railCode c code s) := by rw [faults]; exact setConditions_judged ..
      rw [judged, judged_evaluateZone lit, ← judged]
      exact List.any_eq_true.mpr ⟨_, entry, rfl⟩
    · have raised : EventsGrow (raise .sensorFault (.sensor c) (if code = 4095 then 1 else 0) code.toNat
          ((s.modSensor c (Sensor.railed code)).modSensor c fun x => { x with status := .faulted }))
          (railCode c code s) := by
        rw [faults]
        exact .of_eq (setConditions_events ..)
      rw [judged]
      obtain ⟨rest, grown⟩ := EventsGrow.after_raise (s := (s.modSensor c (Sensor.railed code)).modSensor c fun x =>
        { x with status := .faulted }) room (raised.trans step.events)
      refine ⟨_, rest, grown, rfl, rfl, ?_, ?_⟩
      · exact BitVec.ofInt_natCast ..
      · split <;> rfl

end Sys2Proof.Machine

namespace Sys2Proof.Machine

variable {s t u : State} {c d : ChanIx} {z : ZoneIx} {code : BitVec 12}

/-! ### Conversion slots (R106) -/

theorem allChans_eq : allChans = List.finRange 12 := rfl

/-- The first channel that passes a test. -/
theorem findChan_some {p : ChanIx → Bool} (h : allChans.find? p = some c) :
    p c = true ∧ ∀ d, p d = true → c ≤ d := by
  rw [allChans_eq, List.find?_eq_some_iff_getElem] at h
  obtain ⟨passes, i, bound, here, before⟩ := h
  refine ⟨passes, fun d passes' => ?_⟩
  refine Classical.byContradiction fun later => ?_
  have index : i = c.val := by rw [← here]; simp
  have first := before d.val (by rw [index]; exact Nat.not_le.mp later)
  simp [passes'] at first

theorem findChan_none {p : ChanIx → Bool} : allChans.find? p = none ↔ ∀ d, p d = false := by
  rw [List.find?_eq_none]
  exact ⟨fun h d => by simpa using h d (by rw [allChans_eq]; exact List.mem_finRange d), fun h d _ => by simp [h d]⟩

/-- The next slot takes the first enabled channel above the last, else the lowest. -/
theorem nextChannel_some (h : nextChannel s = some c) : (s.sensor c).enabled = true ∧
    (∀ d, (s.sensor d).enabled = true → s.converter.lastChan < d → s.converter.lastChan < c ∧ c ≤ d) ∧
    ((∀ d, (s.sensor d).enabled = true → d ≤ s.converter.lastChan) → ∀ d, (s.sensor d).enabled = true → c ≤ d) := by
  rcases Option.or_eq_some_iff.mp h with above | ⟨none, lowest⟩
  · obtain ⟨passes, first⟩ := findChan_some above
    simp only [Bool.and_eq_true, decide_eq_true_eq] at passes first
    exact ⟨passes.2, fun d on later => ⟨passes.1, first d ⟨later, on⟩⟩,
      fun all => absurd passes.1 (Fin.not_lt.mpr (all c passes.2))⟩
  · obtain ⟨on, first⟩ := findChan_some lowest
    refine ⟨on, fun d on' later => ?_, fun _ => first⟩
    simpa [later, on'] using findChan_none.mp none d

theorem nextChannel_none : nextChannel s = none ↔ ∀ c, (s.sensor c).enabled = false := by
  unfold nextChannel
  rw [Option.or_eq_none_iff, findChan_none, findChan_none]
  exact ⟨fun h => h.2, fun h => ⟨fun d => by simp [h d], h⟩⟩

/-- Settles O40. -/
theorem conversionSlotEnds : Obligations.ConversionSlotEnds := by
  intro code s high
  refine ⟨fun c running kept on => ?_, fun c running discarded => ?_, fun idle => ?_, fun c next => ?_, nextChannel_none,
    fun off => ?_⟩
  · refine (gated_high high _).trans (completes ?_)
    have running' : (s.reach s.converter.slotEnd).converter.converting = some c := running
    have kept' : (s.reach s.converter.slotEnd).converter.discarded = false := kept
    unfold slotEnd
    dsimp only
    rw [running', kept']
    exact congrArg beginSlot (if_neg (by rw [Bool.false_or, decide_eq_true_eq]; exact on))
  · refine (gated_high high _).trans (completes ?_)
    have running' : (s.reach s.converter.slotEnd).converter.converting = some c := running
    have discarded' : (s.reach s.converter.slotEnd).converter.discarded = true := discarded
    unfold slotEnd
    dsimp only
    rw [running', discarded']
    rfl
  · refine (gated_high high _).trans (completes ?_)
    have idle' : (s.reach s.converter.slotEnd).converter.converting = none := idle
    unfold slotEnd
    dsimp only
    rw [idle']
  · obtain ⟨on, above, lowest⟩ := nextChannel_some next
    refine ⟨?_, on, rfl, above, lowest⟩
    exact congrArg (Option.getD · s.converter.lastChan) next
  · exact congrArg (Option.getD · s.converter.lastChan) (nextChannel_none.mpr off)

/-! ### The thermal state of a zone (R109, R110) -/

theorem mem_validSensors {x : Sensor} : x ∈ validSensors z s ↔ ∃ c, x = s.sensor c ∧ x.zone = z ∧ x.status = .valid := by
  unfold validSensors zoneChans
  simp only [List.mem_filter, List.mem_map, decide_eq_true_eq]
  constructor
  · rintro ⟨⟨c, ⟨-, zone⟩, rfl⟩, valid⟩
    exact ⟨c, rfl, zone, valid⟩
  · rintro ⟨c, rfl, zone, valid⟩
    exact ⟨⟨c, ⟨by rw [allChans_eq]; exact List.mem_finRange c, zone⟩, rfl⟩, valid⟩

/-- A reading at or above its own critical threshold, with the hysteresis of CRITICAL. -/
def hotReading (before : ThermalState) (l : List Sensor) : Prop :=
  ∃ x ∈ l, x.crit - (if before = .critical then 20 else 0) ≤ x.reading

theorem evaluateThermal_critical {before : ThermalState} {l : List Sensor} :
    evaluateThermal before l = .critical ↔ hotReading before l := by
  unfold evaluateThermal hotReading
  dsimp only
  generalize (if before = .critical then (20 : Int) else 0) = margin
  split
  · next hot => simpa using hot
  · next cool =>
    have cold : ¬ ∃ x ∈ l, x.crit - margin ≤ x.reading := fun h => cool (by simpa using h)
    split <;> exact iff_of_false nofun cold

theorem evaluateThermal_warm {before : ThermalState} {l : List Sensor} :
    evaluateThermal before l = .warm ↔ ¬ hotReading before l ∧ ∃ x ∈ l, x.warn ≤ x.reading := by
  unfold evaluateThermal hotReading
  dsimp only
  generalize (if before = .critical then (20 : Int) else 0) = margin
  split
  · next hot => exact iff_of_false nofun fun h => h.1 (by simpa using hot)
  · next cool =>
    have cold : ¬ ∃ x ∈ l, x.crit - margin ≤ x.reading := fun h => cool (by simpa using h)
    split
    · next warm => exact iff_of_true rfl ⟨cold, by simpa using warm⟩
    · next normal => exact iff_of_false nofun fun h => normal (by simpa using h.2)

theorem foldl_max_le (l : List Sensor) : ∀ m : Int, m ≤ l.foldl (fun m x => max m x.reading) m ∧
    (∀ x ∈ l, x.reading ≤ l.foldl (fun m x => max m x.reading) m) ∧
    (l.foldl (fun m x => max m x.reading) m = m ∨ ∃ x ∈ l, x.reading = l.foldl (fun m x => max m x.reading) m) := by
  induction l with
  | nil => exact fun m => ⟨Int.le_refl m, nofun, .inl rfl⟩
  | cons y l ih =>
    intro m
    obtain ⟨above, most, reached⟩ := ih (max m y.reading)
    refine ⟨Int.le_trans (Int.le_max_left ..) above, fun x mem => ?_, ?_⟩
    · rcases List.mem_cons.mp mem with rfl | mem
      · exact Int.le_trans (Int.le_max_right ..) above
      · exact most x mem
    · rcases reached with same | ⟨x, mem, eq⟩
      · rcases (by omega : max m y.reading = m ∨ max m y.reading = y.reading) with h | h
        · exact .inl (same.trans h)
        · exact .inr ⟨y, List.mem_cons_self, (same.trans h).symm⟩
      · exact .inr ⟨x, List.mem_cons_of_mem _ mem, eq⟩

theorem evaluateZone_same (h : evaluateThermal (s.zone z).thermal (validSensors z s) = (s.zone z).thermal) :
    evaluateZone z s = s := if_pos h

theorem evaluateZone_moves (h : evaluateThermal (s.zone z).thermal (validSensors z s) ≠ (s.zone z).thermal) :
    evaluateZone z s = changeThermal z (evaluateThermal (s.zone z).thermal (validSensors z s)) s := if_neg h

/-- The zone after a change of its thermal state. -/
theorem changeThermal_zone (z : ZoneIx) (st : ThermalState) (s : State) :
    ((changeThermal z st s).zone z).thermal = st ∧
    ((changeThermal z st s).zone z).limit = zoneLimit z (s.modZone z fun x => { x with thermal := st }) := by
  obtain ⟨zones, fans, -⟩ := tellThermal_frame z (s.zone z).thermal st (s.modZone z fun x => { x with thermal := st })
  have told : (tellThermal z (s.zone z).thermal st (s.modZone z fun x => { x with thermal := st })).zone z =
      { s.zone z with thermal := st } :=
    (congrArg (Tab.get · z) zones).trans (State.modZone_zone_self ..)
  have limit := zoneLimit_congr (z := z) fans (congrArg (Tab.get · z) zones)
  have relimited := recomputeLimit_zone z z (tellThermal z (s.zone z).thermal st (s.modZone z fun x => { x with thermal := st }))
  rw [if_pos rfl, told, limit] at relimited
  rw [changeThermal_eq]
  dsimp only
  split
  · unfold updateZone
    dsimp only
    rw [State.modZone_zone_self, relimited]
    exact ⟨rfl, rfl⟩
  · rw [relimited]
    exact ⟨rfl, rfl⟩

theorem healthyCount_eq (z : ZoneIx) (s : State) : healthyCount z s =
    ((List.finRange 6).filter fun f => f.val / 2 = z.val ∧ (s.fan f).health = .healthy).length := by
  unfold healthyCount
  rw [show allFans = List.finRange 6 from rfl]
  simp only [Bool.decide_and]

/-- Settles O41. -/
theorem zoneThermalStateFollowsItsReadings : Obligations.ZoneThermalStateFollowsItsReadings := by
  intro z s
  dsimp only
  have highest := foldl_max_le (validSensors z s) (-32768)
  obtain ⟨-, most, reached⟩ := highest
  refine ⟨fun x => mem_validSensors, evaluateThermal_critical, evaluateThermal_warm, evaluateZone_same,
    fun moved critical => ?_, fun moved was => ?_, fun moved cool cooled => ?_, ?_, fun moved => ?_, ?_, most,
    fun empty => by rw [empty]; rfl, fun some_ real => ?_⟩
  · rw [evaluateZone_moves moved, changeThermal_eq, critical]
    rfl
  · have left : evaluateThermal (s.zone z).thermal (validSensors z s) ≠ .critical := was ▸ moved
    rw [evaluateZone_moves moved, changeThermal_eq]
    dsimp only
    rw [if_neg left]
    unfold tellThermal
    dsimp only
    rw [if_neg left, if_pos was]
    rfl
  · rw [evaluateZone_moves moved, changeThermal_eq]
    dsimp only
    rw [if_neg cool]
    unfold tellThermal
    dsimp only
    rw [if_neg cool, if_neg cooled]
    rfl
  · by_cases same : evaluateThermal (s.zone z).thermal (validSensors z s) = (s.zone z).thermal
    · rw [evaluateZone_same same, same]
    · rw [evaluateZone_moves same]
      exact (changeThermal_zone ..).1
  · rw [evaluateZone_moves moved]
    exact (changeThermal_zone ..).2
  · rw [← healthyCount_eq]
    rfl
  · refine reached.resolve_left fun least => ?_
    obtain ⟨x, mem⟩ := List.exists_mem_of_ne_nil _ some_
    have := most x mem
    have := real x mem
    rw [least] at *
    omega

end Sys2Proof.Machine

namespace Sys2Proof.Machine

variable {s t u : State} {z : ZoneIx}

/-! ### The demand of an update (R112) -/

/-- The largest of the values that a predicate names, none where it names none. -/
def LargestOf (values : Nat → Prop) (m : Option Nat) : Prop :=
  (m = none → ∀ v, ¬ values v) ∧ ∀ k, m = some k → values k ∧ ∀ v, values v → v ≤ k

theorem foldl_largest (l : List Nat) : ∀ m : Nat, ∃ k,
    l.foldl (fun m x => some (max (m.getD 0) x)) (some m) = some k ∧ m ≤ k ∧ (∀ v ∈ l, v ≤ k) ∧ (k = m ∨ k ∈ l) := by
  induction l with
  | nil => exact fun m => ⟨m, rfl, Nat.le_refl m, nofun, .inl rfl⟩
  | cons x l ih =>
    intro m
    obtain ⟨k, eq, above, most, reached⟩ := ih (max m x)
    refine ⟨k, eq, Nat.le_trans (Nat.le_max_left ..) above, fun v mem => ?_, ?_⟩
    · rcases List.mem_cons.mp mem with rfl | mem
      · exact Nat.le_trans (Nat.le_max_right ..) above
      · exact most v mem
    · rcases reached with rfl | mem
      · rcases (by omega : max m x = m ∨ max m x = x) with h | h
        · exact .inl h
        · exact .inr (by rw [h]; exact List.mem_cons_self)
      · exact .inr (List.mem_cons_of_mem _ mem)

theorem largest_mem (l : List Nat) : LargestOf (· ∈ l) (largest l) := by
  cases l with
  | nil => exact ⟨fun _ _ => nofun, nofun⟩
  | cons x l =>
    obtain ⟨k, eq, above, most, reached⟩ := foldl_largest l (max 0 x)
    have found : largest (x :: l) = some k := eq
    rw [Nat.zero_max] at above reached
    rw [found]
    refine ⟨nofun, fun j same => ?_⟩
    cases same
    refine ⟨?_, fun v mem => ?_⟩
    · rcases reached with rfl | mem
      · exact List.mem_cons_self
      · exact List.mem_cons_of_mem _ mem
    · rcases List.mem_cons.mp mem with rfl | mem
      · exact above
      · exact most v mem

theorem LargestOf.congr {p q : Nat → Prop} {m : Option Nat} (h : LargestOf p m) (same : ∀ v, q v ↔ p v) :
    LargestOf q m := by
  rwa [show q = p from funext fun v => propext (same v)]

theorem mem_zoneRunning {b : BayIx} : b ∈ zoneRunning z s ↔
    (s.bay b).settings.zone = z ∧ (s.bay b).state.forwarding = true := by
  simp [zoneRunning, mem_allBays]

theorem mem_zoneChans {c : ChanIx} : c ∈ zoneChans z s ↔ (s.sensor c).zone = z := by
  simp [zoneChans, allChans_eq]

theorem contributions_sensor (z : ZoneIx) (s : State) : LargestOf
    (fun v => ∃ c, (s.sensor c).zone = z ∧ (s.sensor c).status = .valid ∧
      v = curveValue (s.zone z).curve (s.sensor c).reading) (contributions z s).sensor := by
  refine (largest_mem _).congr fun v => ?_
  simp only [List.mem_map, mem_validSensors]
  constructor
  · rintro ⟨c, zone, valid, rfl⟩
    exact ⟨_, ⟨c, rfl, zone, valid⟩, rfl⟩
  · rintro ⟨_, ⟨c, rfl, zone, valid⟩, rfl⟩
    exact ⟨c, zone, valid, rfl⟩

theorem contributions_inlet (z : ZoneIx) (s : State) : LargestOf
    (fun v => ∃ b i, ((s.bay b).settings.zone = z ∧ (s.bay b).state.forwarding = true) ∧ (s.bay b).inlet = some i ∧
      v = curveValue (s.zone z).curve i) (contributions z s).inlet := by
  refine (largest_mem _).congr fun v => ?_
  simp only [List.mem_map, List.mem_filterMap, mem_zoneRunning]
  constructor
  · rintro ⟨b, i, runs, inlet, rfl⟩
    exact ⟨i, ⟨b, runs, inlet⟩, rfl⟩
  · rintro ⟨i, ⟨b, runs, inlet⟩, rfl⟩
    exact ⟨b, i, runs, inlet, rfl⟩

theorem SensorStatus.missing_iff (x : SensorStatus) : x.missing = true ↔ x = .initial ∨ x = .faulted := by
  cases x <;> decide

theorem contributions_missing (z : ZoneIx) (s : State) : (contributions z s).missing = true ↔
    (∃ c, (s.sensor c).zone = z ∧ ((s.sensor c).status = .initial ∨ (s.sensor c).status = .faulted)) ∨
    ∃ b, ((s.bay b).settings.zone = z ∧ (s.bay b).state.forwarding = true) ∧ (s.bay b).inlet = none := by
  show (_ || _) = true ↔ _
  simp only [Bool.or_eq_true, List.any_eq_true, mem_zoneChans, mem_zoneRunning, SensorStatus.missing_iff,
    Option.isNone_iff_eq_none]

theorem contributions_feedforward (z : ZoneIx) (s : State) : (contributions z s).feedforward =
    (allBays.map fun b => if (s.bay b).settings.zone = z ∧ (s.bay b).state.forwarding = true
      then (s.bay b).alloc else 0).sum * (s.zone z).settings.feedforward / 1000 := by
  show runningAlloc z s * _ / 1000 = _
  unfold runningAlloc allocSum
  simp only [Bool.and_eq_true, decide_eq_true_eq]

theorem outputFloor_eq (managed : Bool) (c : ZoneSettings) :
    outputFloor managed c = max c.minDuty (if managed then 0 else c.failsafe) := by
  cases managed <;> simp [outputFloor]

theorem contributions_demand (z : ZoneIx) (s : State) : (contributions z s).demand =
    min 1000 (max (max (max ((contributions z s).sensor.getD 0) ((contributions z s).inlet.getD 0))
      (max (if (contributions z s).missing then (s.zone z).settings.missingDuty else 0) (contributions z s).feedforward))
      (max (s.zone z).settings.minDuty (if s.agent.managed then 0 else (s.zone z).settings.failsafe))) := by
  rw [← outputFloor_eq]
  unfold contributions
  simp only [List.foldl_cons, List.foldl_nil, Nat.zero_max, Nat.max_assoc, Nat.min_comm]

/-! ### The control period (R114, R115) -/

/-- What meets the update at a control period's expiry. -/
def restarted (z : ZoneIx) (s : State) : State :=
  (s.reach (s.zone z).controlTimer).modZone z fun x =>
    { x with controlTimer := max s.now (s.zone z).controlTimer + x.settings.controlPeriod }

theorem controlExpiry_eq (z : ZoneIx) (s : State) : controlExpiry z s = updateZone z (restarted z s) := rfl

theorem restarted_zone (z : ZoneIx) (s : State) : (restarted z s).zone z = { s.zone z with
    controlTimer := max s.now (s.zone z).controlTimer + (s.zone z).settings.controlPeriod } :=
  State.modZone_zone_self ..

theorem restarted_contributions (z : ZoneIx) (s : State) : contributions z (restarted z s) = contributions z s := by
  unfold contributions
  rw [restarted_zone]
  rfl

theorem restarted_output (z : ZoneIx) (d : Nat) (s : State) : updatedOutput z d (restarted z s) = updatedOutput z d s := by
  unfold updatedOutput
  rw [restarted_zone]
  rfl

theorem updatedOutput_healthy (healthy : zoneUnhealthy z s = false) (d : Nat) : updatedOutput z d s =
    max (slewed (s.zone z).settings (s.zone z).output d) (outputFloor s.agent.managed (s.zone z).settings) := by
  unfold updatedOutput
  rw [healthy]
  rfl

theorem slewed_cases (c : ZoneSettings) (previous demand : Nat) :
    (previous + c.slewUp ≤ demand → slewed c previous demand = previous + c.slewUp) ∧
    (demand + c.slewDown ≤ previous → slewed c previous demand = previous - c.slewDown) ∧
    (demand ≤ previous + c.slewUp → previous ≤ demand + c.slewDown → slewed c previous demand = demand) := by
  unfold slewed
  split <;> omega

/-- Settles O43. -/
theorem controlPeriodUpdatesTheZone : Obligations.ControlPeriodUpdatesTheZone := by
  intro z s high
  refine ⟨controlExpiry z s, gated_high high _, ?_⟩
  have zone : (controlExpiry z s).zone z = { s.zone z with
      controlTimer := max s.now (s.zone z).controlTimer + (s.zone z).settings.controlPeriod
      output := updatedOutput z (contributions z s).demand s
      compare := compareCount (updatedOutput z (contributions z s).demand s) (s.zone z).settings.period
      lastUpdate := some (contributions z s) } := by
    rw [controlExpiry_eq, updateZone_only, State.modZone_zone_self, restarted_zone, restarted_contributions,
      restarted_output]
  have demanded : ∀ d, (some (contributions z s)).map (·.demand) = some d → d = (contributions z s).demand :=
    fun d h => (Option.some.inj h).symm
  have most := contributions_demand_le z s
  have slews := slewed_bounds (s.zone z).settings (s.zone z).output (contributions z s).demand
  have moves := slewed_cases (s.zone z).settings (s.zone z).output (contributions z s).demand
  rw [zone]
  refine ⟨rfl, rfl, rfl, rfl, fun unhealthy => ?_, fun d healthy last floor => ?_, fun d healthy last => ?_,
    fun w ne => ?_, ⟨_, rfl⟩, fun d last => ?_⟩
  · show updatedOutput _ _ _ = _
    unfold updatedOutput
    rw [unhealthy]
    rfl
  · obtain rfl := demanded d last
    dsimp only
    rw [updatedOutput_healthy healthy]
    omega
  · obtain rfl := demanded d last
    dsimp only
    rw [updatedOutput_healthy healthy, ← outputFloor_eq]
    omega
  · rw [controlExpiry_eq, updateZone_zone_ne ne]
    exact State.modZone_zone_ne _ ne _
  · have same : contributions z s = d := Option.some.inj last
    rw [← same]
    exact ⟨contributions_sensor z s, contributions_inlet z s, contributions_missing z s, contributions_feedforward z s,
      contributions_demand z s⟩

end Sys2Proof.Machine

namespace Sys2Proof.Machine

variable {s t w : State} {u : UplinkIx} {f : Frame} {b : BayIx} {a : Addr}

/-! ### Frames from an uplink (R138) -/

theorem forThePart_iff : forThePart f s = true ↔
    frameDst f = stationAddr s.agent.straps ∨ frameDst f = controlGroupAddr := by
  simp [forThePart]

/-- A whole frame on an UP uplink, by its destination. -/
theorem linkFrame_whole (whole : frameWhole f = true) (up : (s.uplink u).up = true) : linkFrame u f s =
    (let inn := s.countUplink u fun c => { c with framesIn := sat32 c.framesIn }
     if forThePart f s then
       if frameType f = controlType then judgeControl ⟨f, u⟩ inn
       else inn.countUplink u fun c => { c with ownAddress := sat32 c.ownAddress }
     else if (groupSet f s).isEmpty then inn.countUplink u fun c => { c with unknownGroup := sat32 c.unknownGroup }
     else sendDown u f (groupSet f s) inn) := by
  unfold linkFrame
  rw [whole, up]
  rfl

theorem sendDown_dropped {set : List GroupIx} (dropped : (watch (downstreamFields u f set s) f s).1 = true) :
    sendDown u f set s = (watch (downstreamFields u f set s) f s).2.countUplink u fun c =>
      { c with watchDrop := sat32 c.watchDrop } := by
  rcases judged : watch (downstreamFields u f set s) f s with ⟨dropped', w⟩
  rw [judged] at dropped
  obtain rfl : dropped' = true := dropped
  simp only [sendDown, judged]

/-- Settles O49. -/
theorem downstreamGoesByDestination : Obligations.DownstreamGoesByDestination := by
  intro u f s high whole up
  have run : ∀ t, linkFrame u f s = t → exec (.uplinkFrame u f) s = completed s t :=
    fun t eq => (gated_high high _).trans (completes eq)
  have frame := linkFrame_whole whole up
  dsimp only at frame ⊢
  refine ⟨fun mine control => run _ ?_, fun mine other => run _ ?_, fun away empty => run _ ?_, fun away some_ => ?_⟩
  · rw [frame, if_pos (forThePart_iff.mpr mine), if_pos control]
  · rw [frame, if_pos (forThePart_iff.mpr mine), if_neg other]
  · rw [frame, if_neg (mt forThePart_iff.mp away)]
    exact if_pos (List.isEmpty_iff.mpr empty)
  · have takers : ¬ (groupSet f s).isEmpty = true := mt List.isEmpty_iff.mp some_
    rw [if_neg (mt forThePart_iff.mp away), if_neg takers] at frame
    refine ⟨fun dropped => run _ (frame.trans (sendDown_dropped dropped)), fun i e passed unicast entry => run _ ?_,
      fun passed unknown => run _ ?_⟩
    · exact frame.trans ((sendDown_passed passed).1 i e ((destEntry_unicast unicast).trans entry))
    · exact frame.trans ((sendDown_passed passed).2 (destEntry_none unknown))

/-! ### Learning (R143 to R145) -/

section Learn
variable (unicast : isGroup a = false)
include unicast

theorem learn_new {i : StationIx} (unknown : stationOf a s = none) (free : freeIndex s.stations = some i) :
    learn b a s = (false, putStation i ⟨a, b, .learned 0⟩ s) := by
  simp [learn, unicast, unknown, free]

theorem learn_full (unknown : stationOf a s = none) (full : freeIndex s.stations = none) :
    learn b a s = (false, learnFailed b s) := by
  simp [learn, unicast, unknown, full]

theorem learn_refresh {i : StationIx} {age : Nat} (known : stationOf a s = some (i, ⟨a, b, .learned age⟩)) :
    learn b a s = (false, putStation i ⟨a, b, .learned 0⟩ s) := by
  simp [learn, unicast, known]

theorem learn_move {i : StationIx} {c : BayIx} {age : Nat} (ne : c ≠ b)
    (known : stationOf a s = some (i, ⟨a, c, .learned age⟩)) : learn b a s =
      (false, { s with stations := { (putStation i ⟨a, b, .learned 0⟩ s).stations with
        moves := sat32 s.stations.moves } }) := by
  simp [learn, unicast, known, ne, putStation]

theorem learn_fixed {i : StationIx} {mark : Option BayIx} (known : stationOf a s = some (i, ⟨a, b, .fixed mark⟩)) :
    learn b a s = (false, s) := by
  simp [learn, unicast, known]

theorem learn_conflict {i : StationIx} {c : BayIx} {mark : Option BayIx} (ne : c ≠ b)
    (known : stationOf a s = some (i, ⟨a, c, .fixed mark⟩)) :
    learn b a s = (true, conflict b i ⟨a, c, .fixed mark⟩ mark s) := by
  simp [learn, unicast, known, ne]

end Learn

/-- What a failure to learn changes but for its event. -/
def learnCounted (s : State) : State :=
  { s with stations := { s.stations with learnFail := sat32 s.stations.learnFail, fullMark := true } }

theorem learnFailed_eq (b : BayIx) (s : State) : learnFailed b s =
    if s.stations.fullMark then learnCounted s
    else raise .stationFull (.bay b) 0 (sat32 s.stations.learnFail) (learnCounted s) := rfl

theorem learnFailed_stations (b : BayIx) (s : State) : (learnFailed b s).stations = (learnCounted s).stations := by
  rw [learnFailed_eq]
  split
  · rfl
  · exact raise_stations ..

/-! ### Aging (R146) -/

/-- An entry once the aging timer has expired. -/
def agedEntry : Option Station → Option Station
  | some ⟨a, b, .learned 0⟩ => some ⟨a, b, .learned 1⟩
  | some ⟨a, b, .fixed m⟩ => some ⟨a, b, .fixed m⟩
  | _ => none

theorem older_of_kept (e : Option Station) : (e.filter fun e => !e.expires).map Station.older = agedEntry e := by
  rcases e with _ | ⟨a, b, mark | age⟩
  · rfl
  · rfl
  · cases age <;> rfl

theorem expires_iff (e : Station) : e.expires = e.age.any (1 ≤ ·) := by
  rcases e with ⟨a, b, mark | age⟩ <;> rfl

/-- Settles O51. -/
theorem stationsAreLearnedAndAged : Obligations.StationsAreLearnedAndAged := by
  refine ⟨fun b a s => ⟨fun group => if_pos group, fun unicast => ⟨fun unknown i free lowest => ?_,
    fun unknown full => ?_, fun i age known => learn_refresh unicast known, fun i c age ne known => ?_,
    fun i mark known => learn_fixed unicast known, fun i c mark ne known => ?_⟩⟩, fun s high => ?_⟩
  · exact learn_new unicast unknown (freeIndex_some.mpr ⟨free, lowest⟩)
  · refine ⟨learn_full unicast unknown (freeIndex_none.mpr full), learnFailed_stations b s, fun marked => ?_,
      fun clear => ⟨?_, fun room => ?_⟩⟩
    · rw [learnFailed_eq, if_pos marked]
      rfl
    · rw [learnFailed_eq, clear, if_neg Bool.false_ne_true]
      rfl
    · rw [learnFailed_eq, clear, if_neg Bool.false_ne_true, raise_room _ _ _ _ (learnCounted s) room]
      show s.events.queue ++ _ = _
      rw [BitVec.ofInt_natCast]
      rfl
  · rw [learn_move unicast ne known]
    exact ⟨rfl, rfl, rfl⟩
  · rw [learn_conflict unicast ne known]
    exact ⟨rfl, fun same => if_pos same, fun other => if_neg other⟩
  · refine ⟨agingExpiry s, gated_high high _, fun i => ?_, rfl, ?_, rfl, rfl, rfl⟩
    · have aged := older_of_kept (s.stations.entries.get i)
      rw [← dropStations_get Station.expires s] at aged
      exact (Tab.get_map ..).trans aged
    · have expires : ∀ e : Station, e.expires = e.age.any fun age => decide (1 ≤ age) := expires_iff
      simp only [← expires]
      rfl

end Sys2Proof.Machine

namespace Sys2Proof.Machine

variable {s t v : State} {u w : UplinkIx} {b : BayIx}

/-! ### Failback (R133) -/

theorem takes_frame (u : UplinkIx) (l : List BayIx) : ∀ s : State, l.foldl (takeUplink u) s =
    { s with bays := (l.foldl (takeUplink u) s).bays } := by
  induction l with
  | nil => exact fun s => rfl
  | cons b l ih => exact fun s => ih (takeUplink u s b)

/-- The bays that an uplink's failback moves. -/
def movers (u : UplinkIx) (s : State) : List BayIx :=
  allBays.filter fun b =>
    (s.bay b).state.forwarding && decide ((s.bay b).settings.primary = u) && decide ((s.bay b).activeUplink ≠ some u)

theorem failback_eq (u : UplinkIx) (s : State) : failback u s =
    if (movers u s).isEmpty then s
    else raise .failback (.uplink u) 0 (movers u s).length ((movers u s).foldl (takeUplink u) s) := rfl

theorem failback_only (u : UplinkIx) (s : State) :
    failback u s = { s with bays := (failback u s).bays, events := (failback u s).events } := by
  have frame := takes_frame u (movers u s) s
  rw [failback_eq]
  split
  · rfl
  · generalize (movers u s).foldl (takeUplink u) s = t at frame ⊢
    rw [raise_told]
    dsimp only
    rw [frame]

theorem failback_bay (u : UplinkIx) (s : State) (b : BayIx) : (failback u s).bay b =
    if (s.bay b).state.forwarding = true ∧ (s.bay b).settings.primary = u then
      { s.bay b with activeUplink := some u } else s.bay b := by
  have moved : (failback u s).bay b = if b ∈ movers u s then { s.bay b with activeUplink := some u } else s.bay b := by
    rw [failback_eq]
    split
    · next nobody =>
      rw [List.isEmpty_iff.mp nobody, if_neg List.not_mem_nil]
    · rw [raise_bay, takes_bay]
  have mem : b ∈ movers u s ↔ ((s.bay b).state.forwarding = true ∧ (s.bay b).settings.primary = u) ∧
      (s.bay b).activeUplink ≠ some u := by
    simp [movers, Sys2Proof.mem_allBays]
  rw [moved]
  by_cases home : (s.bay b).state.forwarding = true ∧ (s.bay b).settings.primary = u
  · rw [if_pos home]
    by_cases there : (s.bay b).activeUplink = some u
    · rw [if_neg fun m => (mem.mp m).2 there, ← there]
    · rw [if_pos (mem.mpr ⟨home, there⟩)]
  · rw [if_neg home, if_neg fun m => home (mem.mp m).1]

theorem failback_events (u : UplinkIx) (s : State) : (failback u s).events =
    if (movers u s).length = 0 then s.events
    else (raise .failback (.uplink u) 0 (movers u s).length s).events := by
  have frame := takes_frame u (movers u s) s
  rw [failback_eq]
  by_cases nobody : movers u s = []
  · rw [nobody]
    rfl
  · rw [if_neg (mt List.isEmpty_iff.mp nobody), if_neg (mt List.length_eq_zero_iff.mp nobody)]
    exact raise_events_congr (s := s) (t := (movers u s).foldl (takeUplink u) s) (by rw [frame]) (by rw [frame]) ..

/-! ### The fall of an uplink (R130, R132) -/

theorem linkLost_uplink (u w : UplinkIx) (s : State) : (linkLost u s).uplink w =
    if w = u then { s.uplink u with up := false, holdTimer := none } else s.uplink w := by
  rw [linkLost, raise_uplink, State.modUplink_uplink]

theorem baysOn_linkLost (u : UplinkIx) (s : State) : baysOn u (linkLost u s) = baysOn u s := by
  unfold baysOn
  simp only [linkLost_bay]

/-- The fall with its fresh selections, before FAILOVER. -/
def reselected (u : UplinkIx) (s : State) : State :=
  (baysOn u s).foldl (fun s b => selectUplink b s) (linkLost u s)

theorem uplinkFall_reselected (u : UplinkIx) (s : State) : uplinkFall u s =
    if baysOn u s = [] then reselected u s
    else
      let left := ((baysOn u s).filter fun b => ((reselected u s).bay b).activeUplink.isNone).length
      raise .failover (.uplink u) left (((baysOn u s).length - left : Nat) : Int) (reselected u s) := by
  rw [uplinkFall_eq, baysOn_linkLost]
  by_cases nobody : baysOn u s = []
  · unfold reselected
    rw [if_pos nobody, nobody]
    rfl
  · rw [if_neg nobody, if_neg (mt List.isEmpty_iff.mp nobody)]
    rfl

theorem reselected_frame (u : UplinkIx) (s : State) :
    reselected u s = { linkLost u s with bays := (reselected u s).bays } := selects_frame _ _

theorem linkLost_only (u : UplinkIx) (s : State) :
    linkLost u s = { s with uplinks := (linkLost u s).uplinks, events := (linkLost u s).events } := by
  conv => lhs; rw [linkLost, raise_told]
  rw [linkLost, raise_uplinks]
  rfl

theorem uplinkFall_bay (u : UplinkIx) (s : State) (b : BayIx) : (uplinkFall u s).bay b = (reselected u s).bay b := by
  rw [uplinkFall_reselected]
  split
  · rfl
  · exact raise_bay ..

theorem uplinkFall_uplink (u w : UplinkIx) (s : State) : (uplinkFall u s).uplink w = (linkLost u s).uplink w := by
  have frame : (reselected u s).uplink w = (linkLost u s).uplink w := by
    rw [reselected_frame]
    rfl
  rw [uplinkFall_reselected]
  split
  · exact frame
  · exact (raise_uplink ..).trans frame

theorem uplinkFall_only (u : UplinkIx) (s : State) : uplinkFall u s =
    { s with bays := (uplinkFall u s).bays, uplinks := (uplinkFall u s).uplinks, events := (uplinkFall u s).events } := by
  have frame := reselected_frame u s
  have lost := linkLost_only u s
  generalize linkLost u s = v at frame lost
  rw [uplinkFall_reselected]
  generalize reselected u s = t at frame ⊢
  split
  · rw [frame, lost]
  · dsimp only
    rw [raise_told]
    dsimp only
    rw [frame, lost]

theorem reselected_bay (u : UplinkIx) (s : State) (b : BayIx) : (reselected u s).bay b =
    if (s.bay b).state.forwarding = true ∧ (s.bay b).activeUplink = some u then
      { s.bay b with activeUplink := chosenUplink (s.bay b).settings (linkLost u s) } else s.bay b := by
  unfold reselected
  rw [selects_bay, linkLost_bay]
  by_cases on : (s.bay b).state.forwarding = true ∧ (s.bay b).activeUplink = some u
  · rw [if_pos (mem_baysOn.mpr on), if_pos on]
    unfold freshUplink
    dsimp only
    rw [linkLost_bay, on.1]
    rfl
  · rw [if_neg (mt mem_baysOn.mp on), if_neg on]

theorem uplinkFall_events (u : UplinkIx) (s : State) :
    let down := raise .uplinkDown (.uplink u) 0 0 s
    let left := ((baysOn u s).filter fun b => ((uplinkFall u s).bay b).activeUplink.isNone).length
    (uplinkFall u s).events = if (baysOn u s).length = 0 then down.events
      else (raise .failover (.uplink u) left (((baysOn u s).length - left : Nat) : Int) down).events := by
  intro down left
  have told : (reselected u s).events = down.events := by
    rw [reselected_frame]
    exact raise_events_congr (s := s) (t := s.modUplink u _) rfl rfl ..
  have now : (reselected u s).now = down.now := by
    rw [reselected_frame]
    exact (raise_now ..).trans (raise_now _ _ _ _ s).symm
  have same : left = ((baysOn u s).filter fun b => ((reselected u s).bay b).activeUplink.isNone).length := by
    simp only [left, uplinkFall_bay]
  rw [same, uplinkFall_reselected]
  by_cases nobody : baysOn u s = []
  · rw [if_pos nobody, if_pos (List.length_eq_zero_iff.mpr nobody), told]
  · rw [if_neg nobody, if_neg (mt List.length_eq_zero_iff.mp nobody)]
    exact raise_events_congr told now ..

/-! ### The rise of an uplink (R130, R132) -/

/-- The bays without an active uplink that name an uplink. -/
def takers (u : UplinkIx) (s : State) : List BayIx :=
  allBays.filter fun b => (s.bay b).state.forwarding && (s.bay b).activeUplink.isNone &&
    ((s.bay b).settings.primary = u || (s.bay b).settings.alternate = some u)

theorem mem_takers : b ∈ takers u s ↔ (s.bay b).state.forwarding = true ∧ (s.bay b).activeUplink = none ∧
    ((s.bay b).settings.primary = u ∨ (s.bay b).settings.alternate = some u) := by
  simp [takers, Sys2Proof.mem_allBays, and_assoc]

/-- The rise, told, before the hold is looked at. -/
def risenAndTold (u : UplinkIx) (s : State) : State :=
  raise .uplinkUp (.uplink u) 0 (takers u s).length
    ((takers u s).foldl (takeUplink u) (s.modUplink u fun x => { x with up := true }))

theorem uplinkRise_eq (u : UplinkIx) (s : State) : uplinkRise u s =
    if ((risenAndTold u s).uplink u).hold = 0 then failback u (risenAndTold u s)
    else (risenAndTold u s).modUplink u fun x => { x with holdTimer := some ((risenAndTold u s).now + x.hold * 1000) } := rfl

theorem risenAndTold_only (u : UplinkIx) (s : State) : risenAndTold u s = { s with
    bays := (risenAndTold u s).bays, events := (risenAndTold u s).events
    uplinks := (s.modUplink u fun x => { x with up := true }).uplinks } := by
  have frame := takes_frame u (takers u s) (s.modUplink u fun x => { x with up := true })
  unfold risenAndTold
  generalize (takers u s).foldl (takeUplink u) (s.modUplink u fun x => { x with up := true }) = t at frame ⊢
  rw [raise_told]
  dsimp only
  rw [frame]
  rfl

theorem risenAndTold_bay (u : UplinkIx) (s : State) (b : BayIx) : (risenAndTold u s).bay b =
    if b ∈ takers u s then { s.bay b with activeUplink := some u } else s.bay b := by
  unfold risenAndTold
  rw [raise_bay, takes_bay]
  rfl

theorem risenAndTold_uplink (u w : UplinkIx) (s : State) : (risenAndTold u s).uplink w =
    if w = u then { s.uplink u with up := true } else s.uplink w := by
  have same : (risenAndTold u s).uplink w = (s.modUplink u fun x => { x with up := true }).uplink w := by
    rw [risenAndTold_only]
    rfl
  rw [same, State.modUplink_uplink]

theorem risenAndTold_events (u : UplinkIx) (s : State) :
    (risenAndTold u s).events = (raise .uplinkUp (.uplink u) 0 (takers u s).length s).events := by
  have frame := takes_frame u (takers u s) (s.modUplink u fun x => { x with up := true })
  exact raise_events_congr (s := s) (t := (takers u s).foldl (takeUplink u) (s.modUplink u fun x => { x with up := true }))
    (by rw [frame]; rfl) (by rw [frame]; rfl) ..

theorem risenAndTold_now (u : UplinkIx) (s : State) : (risenAndTold u s).now = s.now := by rw [risenAndTold_only]

/-- The bays on another uplink than the primary that has come back. -/
theorem movers_risen (u : UplinkIx) (s : State) : movers u (risenAndTold u s) =
    allBays.filter fun b => (s.bay b).state.forwarding && decide ((s.bay b).settings.primary = u) &&
      decide ((s.bay b).activeUplink ≠ some u) && (s.bay b).activeUplink.isSome := by
  unfold movers
  refine List.filter_congr fun b _ => ?_
  rw [risenAndTold_bay, Bool.eq_iff_iff]
  by_cases takes : b ∈ takers u s
  · obtain ⟨-, none, -⟩ := mem_takers.mp takes
    simp [takes, none]
  · rw [if_neg takes]
    have holds : (s.bay b).state.forwarding = true → (s.bay b).settings.primary = u → (s.bay b).activeUplink ≠ none :=
      fun forwards home none => takes (mem_takers.mpr ⟨forwards, none, .inl home⟩)
    simp only [Bool.and_eq_true, decide_eq_true_eq, Option.isSome_iff_ne_none]
    exact ⟨fun ⟨⟨f, h⟩, n⟩ => ⟨⟨⟨f, h⟩, n⟩, holds f h⟩, fun ⟨h, _⟩ => h⟩

theorem uplinkRise_only (u : UplinkIx) (s : State) : uplinkRise u s =
    { s with bays := (uplinkRise u s).bays, uplinks := (uplinkRise u s).uplinks, events := (uplinkRise u s).events } := by
  have frame := risenAndTold_only u s
  rw [uplinkRise_eq]
  generalize risenAndTold u s = v at frame ⊢
  split
  · rw [failback_only]
    dsimp only
    rw [frame]
  · rw [frame]
    rfl

theorem uplinkRise_uplink (u w : UplinkIx) (s : State) : (uplinkRise u s).uplink w =
    if w = u then { s.uplink u with
      up := true, holdTimer := if (s.uplink u).hold = 0 then (s.uplink u).holdTimer
        else some (s.now + (s.uplink u).hold * 1000) }
    else s.uplink w := by
  have told := risenAndTold_uplink u w s
  have own := risenAndTold_uplink u u s
  rw [if_pos rfl] at own
  rw [uplinkRise_eq, own]
  split
  · next zero =>
    rw [failback_only]
    show (risenAndTold u s).uplink w = _
    rw [told]
  · next some_ =>
    rw [State.modUplink_uplink, own, told, risenAndTold_now]
    split <;> rfl

theorem uplinkRise_bay (u : UplinkIx) (s : State) (b : BayIx) : (uplinkRise u s).bay b =
    if b ∈ takers u s ∨ ((s.uplink u).hold = 0 ∧ (s.bay b).state.forwarding = true ∧ (s.bay b).settings.primary = u) then
      { s.bay b with activeUplink := some u } else s.bay b := by
  have own := risenAndTold_uplink u u s
  rw [if_pos rfl] at own
  have told := risenAndTold_bay u s b
  have settings : ((risenAndTold u s).bay b).state = (s.bay b).state ∧
      ((risenAndTold u s).bay b).settings = (s.bay b).settings := by
    rw [told]
    split <;> exact ⟨rfl, rfl⟩
  rw [uplinkRise_eq, own]
  split
  · next zero =>
    rw [failback_bay, settings.1, settings.2, told]
    have same : (s.uplink u).hold = 0 := zero
    by_cases home : (s.bay b).state.forwarding = true ∧ (s.bay b).settings.primary = u
    · rw [if_pos home]
      refine Eq.trans ?_ (if_pos (.inr ⟨same, home⟩)).symm
      split <;> rfl
    · rw [if_neg home]
      exact ite_congr_of_iff ⟨.inl, fun h => h.resolve_right fun k => home k.2⟩ rfl rfl
  · next some_ =>
    have other : (s.uplink u).hold ≠ 0 := some_
    show (risenAndTold u s).bay b = _
    rw [told]
    exact ite_congr_of_iff ⟨.inl, fun h => h.resolve_right fun k => other k.1⟩ rfl rfl

theorem uplinkRise_events (u : UplinkIx) (s : State) :
    let rise := raise .uplinkUp (.uplink u) 0 (takers u s).length s
    (uplinkRise u s).events = if (s.uplink u).hold = 0 ∧ (movers u (risenAndTold u s)).length ≠ 0 then
      (raise .failback (.uplink u) 0 (movers u (risenAndTold u s)).length rise).events else rise.events := by
  intro rise
  have own := risenAndTold_uplink u u s
  rw [if_pos rfl] at own
  have told : (risenAndTold u s).events = rise.events := risenAndTold_events u s
  have now : (risenAndTold u s).now = rise.now := (risenAndTold_now u s).trans (raise_now _ _ _ _ s).symm
  rw [uplinkRise_eq, own]
  split
  · next zero =>
    rw [failback_events]
    by_cases nobody : (movers u (risenAndTold u s)).length = 0
    · rw [if_pos nobody, if_neg fun h => h.2 nobody, told]
    · rw [if_neg nobody, if_pos ⟨zero, nobody⟩]
      exact raise_events_congr told now ..
  · next some_ => rw [if_neg fun h => some_ h.1, ← told]; rfl

/-- Settles O52. -/
theorem uplinkRisesAndFalls : Obligations.UplinkRisesAndFalls := by
  intro u s high
  dsimp only
  have report : ∀ up t, linkReport u up s = t → exec (.uplinkLinkReport u up) s = completed s t :=
    fun up t eq => (gated_high high _).trans (completes eq)
  have hold : ∀ t, holdExpiry u s = t → exec (.holdTimerExpiry u) s = completed s t :=
    fun t eq => (gated_high high _).trans (completes eq)
  refine ⟨report _ _ (if_pos rfl), fun up => report _ _ ?_, fun down => report _ _ ?_, fun d timer up => hold _ ?_,
    fun none => hold _ ?_, uplinkFall_only u s, fun w => (uplinkFall_uplink u w s).trans (linkLost_uplink u w s),
    fun b => ?_, ?_, uplinkRise_only u s, fun w => uplinkRise_uplink u w s, fun b => ?_, ?_, failback_only u s,
    fun b => failback_bay u s b, failback_events u s⟩
  · unfold linkReport
    rw [up]
    rfl
  · unfold linkReport
    rw [down]
    rfl
  · unfold holdExpiry
    rw [timer]
    dsimp only
    rw [State.modUplink_uplink_self]
    exact if_pos up
  · unfold holdExpiry
    rw [none]
  · rw [uplinkFall_bay, reselected_bay]
    simp only [uplinkFall_uplink]
    rfl
  · have fall := uplinkFall_events u s
    dsimp only at fall
    rw [baysOn, List.filter_filter] at fall
    simpa only [Bool.and_comm] using fall
  · exact (uplinkRise_bay u s b).trans (ite_congr_of_iff (or_congr_left mem_takers) rfl rfl)
  · have same : takers u s = allBays.filter fun b => (s.bay b).state.forwarding && (s.bay b).activeUplink.isNone &&
        decide ((s.bay b).settings.primary = u ∨ (s.bay b).settings.alternate = some u) := by
      simp only [takers, Bool.decide_or]
    rw [uplinkRise_events, movers_risen, same]

end Sys2Proof.Machine

namespace Sys2Proof.Machine

variable {s : State} {a : Addr} {b : BayIx}

/-! ### ADD_STATION (R148) -/

theorem foldl_higherAge_none (l : List (Option Nat)) (h : ∀ x ∈ l, x = none) : ∀ m, l.foldl higherAge m = m := by
  induction l with
  | nil => exact fun m => rfl
  | cons x l ih =>
    intro m
    obtain rfl := h x List.mem_cons_self
    rw [List.foldl_cons, ih fun y hy => h y (List.mem_cons_of_mem _ hy)]
    cases m <;> rfl

/-- The highest of some ages, and of one met before them. -/
theorem foldl_higherAge (l : List (Option Nat)) {n : Nat} (most : ∀ m, some m ∈ l → m ≤ n) :
    ∀ m, (∀ k, m = some k → k ≤ n) → m = some n ∨ some n ∈ l → l.foldl higherAge m = some n := by
  induction l with
  | nil => exact fun m _ found => found.resolve_right nofun
  | cons x l ih =>
    intro m below found
    refine ih (fun k hk => most k (List.mem_cons_of_mem _ hk)) (higherAge m x) (fun k eq => ?_) ?_
    · have here := fun j hj => most j (List.mem_cons.mpr (.inl hj))
      cases m <;> cases x <;> simp_all [higherAge]
      omega
    · rcases found with rfl | found
      · left
        cases x with
        | none => rfl
        | some j =>
          have := most j List.mem_cons_self
          exact congrArg some (Nat.max_eq_left this)
      · rcases List.mem_cons.mp found with rfl | later
        · left
          cases m with
          | none => rfl
          | some k => exact congrArg some (Nat.max_eq_right (below k rfl))
        · exact .inr later

/-- The ages of the entries, in index order. -/
def StationTable.ages (t : StationTable) : Tab (Option Nat) 256 := t.entries.map fun e => e.bind Station.age

theorem displaced_eq (t : StationTable) : displaced t = match t.ages.items.foldl higherAge none with
    | none => none
    | some top => (t.ages.items.findIdx? fun x => x = some top).bind (toIx 256) := rfl

theorem mem_ages {t : StationTable} {x : Option Nat} :
    x ∈ t.ages.items ↔ ∃ i, (t.entries.get i).bind Station.age = x := by
  rw [Tab.mem_items]
  unfold StationTable.ages
  simp only [Tab.get_map]

theorem displaced_some {t : StationTable} {i : StationIx} {n : Nat} (here : (t.entries.get i).bind Station.age = some n)
    (top : ∀ j m, (t.entries.get j).bind Station.age = some m → m ≤ n ∧ (m = n → i ≤ j)) : displaced t = some i := by
  have highest : t.ages.items.foldl higherAge none = some n :=
    foldl_higherAge _ (fun m hm => by
      obtain ⟨j, hj⟩ := mem_ages.mp hm
      exact (top j m hj).1) none nofun (.inr (mem_ages.mpr ⟨i, here⟩))
  rw [displaced_eq, highest]
  refine (findIx_some t.ages (fun x => decide (x = some n)) i).mpr ⟨?_, fun j before => ?_⟩
  · unfold StationTable.ages
    simpa using here
  · unfold StationTable.ages
    rw [Tab.get_map, decide_eq_false_iff_not]
    exact fun same => absurd ((top j n same).2 rfl) (Nat.not_le.mpr before)

theorem displaced_none {t : StationTable} (fixed : ∀ j, (t.entries.get j).bind Station.age = none) :
    displaced t = none := by
  have nobody : t.ages.items.foldl higherAge none = none := foldl_higherAge_none _ (fun x hx => by
    obtain ⟨j, rfl⟩ := mem_ages.mp hx
    exact fixed j) none
  rw [displaced_eq, nobody]

/-- An ADD_STATION with a bay and a unicast address, by the place it finds. -/
theorem cmdAddStation_placed (unicast : isGroup a = false) {i : StationIx} {displaces : Bool}
    (slot : stationSlot a s.stations = some (i, displaces)) (b : BayIx) :
    cmdAddStation a (BitVec.ofNat 8 b.val) s = answer .ok (u8 i.val)
      { s with stations := { (putStation i ⟨a, b, .fixed none⟩ s).stations with
          fullMark := s.stations.fullMark && !displaces } } := by
  unfold cmdAddStation
  rw [toIx_byte (by decide), slot, unicast]
  rfl

theorem stationSlot_held {t : StationTable} {i : StationIx} (held : locate a t = some i) :
    stationSlot a t = some (i, false) := by
  rw [stationSlot, held]

theorem stationSlot_free {t : StationTable} {i : StationIx} (new : locate a t = none) (free : freeIndex t = some i) :
    stationSlot a t = some (i, false) := by
  rw [stationSlot, new, free]

theorem stationSlot_full {t : StationTable} (new : locate a t = none) (full : freeIndex t = none) :
    stationSlot a t = (displaced t).map fun i => (i, true) := by
  rw [stationSlot, new, full]

/-! ### READ_STATIONS (R150) -/

theorem cmdReadStations_eq {first count : BitVec 16} (low : first.toNat ≤ 255) (s : State) :
    let all := occupiedFrom first.toNat 0 s.stations.entries.items
    let returned := all.take (min count.toNat 148)
    cmdReadStations first count 1486 s = answer (if returned.length = count.toNat then .ok else .truncated)
      (u16 returned.length ++ u16 (nextStationIndex returned (all.drop (min count.toNat 148)) s.draws) ++
        returned.flatMap stationItem) { s with draws := s.draws + 1 } := if_neg (Nat.not_lt.mpr low)

theorem nextStationIndex_end {returned : List (Nat × Station)} (draw : Nat) : nextStationIndex returned [] draw = 256 := rfl

theorem nextStationIndex_after {returned left : List (Nat × Station)} {p : Nat × Station} (more : left ≠ [])
    (last : returned.getLast? = some p) (draw : Nat) : nextStationIndex returned left draw = p.1 + 1 := by
  unfold nextStationIndex
  rw [if_neg (mt List.isEmpty_iff.mp more), last]

/-- Settles O54. -/
theorem stationRequestsAct : Obligations.StationRequestsAct := by
  refine ⟨fun a s high => ⟨fun n beyond => ?_, fun b => ⟨fun group => ⟨optU8 none, ?_⟩, fun unicast =>
    ⟨fun i held => ?_, fun i new free lowest => ?_, fun i e n new full here age top => ?_, fun new fixed => ⟨optU8 none, ?_⟩⟩⟩⟩,
    fun s high => ⟨fun a i held => ?_, fun a new => ?_, fun first count beyond =>
      ⟨u16 0 ++ u16 (Config.readStationsRefusedNext s.draws).toNat, ?_⟩, fun first count low => ?_⟩⟩
  · refine (gated_high high _).trans (congrArg Host.Outcome.next ?_)
    unfold cmdAddStation
    rw [toIx_of_le beyond]
    rfl
  · refine (gated_high high _).trans (congrArg Host.Outcome.next ?_)
    unfold cmdAddStation
    rw [toIx_byte (by decide)]
    exact if_pos group
  · refine (gated_high high _).trans (congrArg Host.Outcome.next ?_)
    rw [cmdAddStation_placed unicast (stationSlot_held held), Bool.not_false, Bool.and_true]
    rfl
  · refine (gated_high high _).trans (congrArg Host.Outcome.next ?_)
    rw [cmdAddStation_placed unicast (stationSlot_free new (freeIndex_some.mpr ⟨free, lowest⟩)), Bool.not_false,
      Bool.and_true]
    rfl
  · have bind : ∀ j m, (s.stations.entries.get j).bind Station.age = some m →
        ∃ x, s.stations.entries.get j = some x ∧ x.age = some m := fun j m h => Option.bind_eq_some_iff.mp h
    have slot := stationSlot_full new (freeIndex_none.mpr full)
    rw [displaced_some (i := i) (n := n) (by rw [here]; exact age) fun j m h => by
      obtain ⟨x, hx, hm⟩ := bind j m h
      exact top j x m hx hm] at slot
    refine ⟨_, (gated_high high _).trans (congrArg Host.Outcome.next (cmdAddStation_placed unicast slot b)), rfl, ?_⟩
    show StationTable.mk .. = StationTable.mk ..
    rw [Bool.not_true, Bool.and_false]
  · refine (gated_high high _).trans (congrArg Host.Outcome.next ?_)
    have slot := stationSlot_full new (freeIndex_none.mpr fun j => by
      obtain ⟨x, m, k, eq⟩ := fixed j
      rw [eq]
      exact nofun)
    rw [displaced_none fun j => by
      obtain ⟨x, m, k, eq⟩ := fixed j
      rw [eq]
      rfl] at slot
    unfold cmdAddStation
    rw [toIx_byte (by decide), slot, unicast]
    rfl
  · refine (gated_high high _).trans (congrArg Host.Outcome.next ?_)
    unfold cmdRemoveStation
    rw [held]
    rfl
  · refine (gated_high high _).trans (congrArg Host.Outcome.next ?_)
    unfold cmdRemoveStation
    rw [new]
    rfl
  · exact (gated_high high _).trans (congrArg Host.Outcome.next (if_pos beyond))
  · refine ⟨_, (gated_high high _).trans (congrArg Host.Outcome.next (cmdReadStations_eq low s)), fun all => ?_,
      fun p more last => ?_⟩
    · rw [List.length_take] at all
      rw [List.drop_eq_nil_of_le (Nat.le_trans all (Nat.min_le_left _ _)), nextStationIndex_end]
    · refine nextStationIndex_after (fun none => ?_) last _
      rw [List.length_take] at more
      have := List.drop_eq_nil_iff.mp none
      omega

end Sys2Proof.Machine

namespace Sys2Proof.Machine

variable {s t : State} {c : ControlFrame} {z : ZoneIx}

/-! ### Acceptance and the silence timer (R168 to R170) -/

theorem acceptable_iff : acceptable c s = true ↔ (s.uplink c.uplink).trusted = true ∧
    isGroup (frameSrc c.frame) = false ∧ (s.agent.managers = [] ∨ frameSrc c.frame ∈ s.agent.managers) ∧
    s.agent.queue.length < 4 := by
  simp [acceptable, and_assoc]

/-- The state that an acceptance leaves, but for the zones it updates: first contact raises MANAGER_RESTORED. -/
def accepted (c : ControlFrame) (s : State) : State :=
  contact c (s.countUplink c.uplink fun n => { n with controlAccepted := sat32 n.controlAccepted })

theorem acceptFrame_accepted (c : ControlFrame) (s : State) : acceptFrame c s =
    if s.agent.managed then accepted c s else enterManaged c.uplink (accepted c s) := acceptFrame_eq c s

theorem enterManaged_events (u : UplinkIx) (s : State) :
    (enterManaged u s).events = (raise .managerRestored (.uplink u) 0 (unmanagedSeconds s) s).events := by
  unfold enterManaged
  dsimp only
  rw [updateAllZones_frame]
  exact raise_events_congr (s := s) (t := { s with agent := { s.agent with managed := true } }) rfl rfl ..

theorem acceptFrame_agent (c : ControlFrame) (s : State) :
    (acceptFrame c s).agent = { (accepted c s).agent with managed := true } := by
  rw [acceptFrame_accepted]
  split
  · next managed =>
    have same : (accepted c s).agent.managed = true := managed
    rw [← same]
  · exact enterManaged_agent ..

theorem acceptFrame_uplinks (c : ControlFrame) (s : State) : (acceptFrame c s).uplinks = (accepted c s).uplinks := by
  rw [acceptFrame_accepted]
  split
  · rfl
  · exact enterManaged_uplinks ..

/-- An update of a healthy zone among others leaves its output at its floors. -/
theorem updateZones_floor (l : List ZoneIx) : ∀ s : State, zoneUnhealthy z s = false →
    z ∈ l ∨ outputFloor s.agent.managed (s.zone z).settings ≤ (s.zone z).output →
    outputFloor s.agent.managed (s.zone z).settings ≤ ((l.foldl (fun s z => updateZone z s) s).zone z).output := by
  induction l with
  | nil => exact fun s _ done => done.resolve_left nofun
  | cons y l ih =>
    intro s healthy found
    have settings : ((updateZone y s).zone z).settings = (s.zone z).settings := by
      rw [updateZone_only, State.modZone_zone]
      split
      · next e => subst e; rfl
      · rfl
    have later := ih (updateZone y s) healthy
    rw [updateZone_agent, settings] at later
    refine later ?_
    by_cases e : z = y
    · subst e
      exact .inr (updateZone_floor z s healthy)
    · rw [updateZone_zone_ne e]
      exact found.imp_left fun m => (List.mem_cons.mp m).resolve_left e

theorem enterUnmanaged_agent (s : State) : (enterUnmanaged s).agent =
    { s.agent with managed := false, manager := none, silenceTimer := none, unmanagedSince := s.now } := by
  rw [enterUnmanaged_eq, updateAllZones_frame]
  unfold loseManager
  dsimp only
  split
  · exact raise_agent ..
  · rfl

theorem enterUnmanaged_failsafe (healthy : zoneUnhealthy z s = false) :
    (s.zone z).settings.failsafe ≤ ((enterUnmanaged s).zone z).output := by
  obtain ⟨zones, fans⟩ := loseManager_frame s
  have zone : (loseManager s).zone z = s.zone z := congrArg (Tab.get · z) zones
  have healthy' : zoneUnhealthy z (loseManager s) = false := by
    unfold zoneUnhealthy
    rw [healthyCount_congr fans]
    exact healthy
  have managed : (loseManager s).agent.managed = false := by
    show (enterUnmanaged s).agent.managed = false
    rw [enterUnmanaged_agent]
  have floor := updateZones_floor allZones _ healthy' (.inl (mem_allZones z))
  rw [managed, zone] at floor
  exact Nat.le_trans ((outputFloor_bounds false _).2.1 rfl) floor

theorem enterUnmanaged_events {m : Manager} (h : s.agent.manager = some m) : (enterUnmanaged s).events =
    (raise .managerLost (.uplink m.uplink) 0 s.agent.silenceTimeout s).events := by
  rw [enterUnmanaged_eq, updateAllZones_frame]
  unfold loseManager
  rw [h]
  exact raise_events_congr (s := s) (t := { s with agent := { s.agent with
    managed := false, manager := none, silenceTimer := none, unmanagedSince := s.now } }) rfl rfl ..

/-- Settles O57. -/
theorem managementBeginsAndEnds : Obligations.ManagementBeginsAndEnds := by
  refine ⟨fun c s => ⟨fun bad => if_neg (mt acceptable_iff.mp bad), fun ok => ?_⟩, fun d m s high timer manager => ?_⟩
  · have accepts : judgeControl c s = acceptFrame c s := if_pos (acceptable_iff.mpr ok)
    rw [accepts, acceptFrame_agent, State.uplink, acceptFrame_uplinks]
    refine ⟨rfl, rfl, rfl, ?_, fun some_ => if_neg some_, rfl, rfl, fun managed => ?_, fun first room => ?_⟩
    · show ((s.countUplink c.uplink fun n => { n with controlAccepted := sat32 n.controlAccepted }).uplink
        c.uplink).counters.controlAccepted = _
      rw [State.countUplink, State.modUplink_uplink_self]
    · rw [acceptFrame_accepted, if_pos managed]
      rfl
    · rw [acceptFrame_accepted, first, if_neg Bool.false_ne_true, enterManaged_events,
        raise_room _ _ _ _ (accepted c s) room]
      exact ⟨_, rfl, rfl, rfl⟩
  · have expiry : silenceExpiry s = enterUnmanaged (s.reach d) := by
      unfold silenceExpiry
      rw [timer]
    dsimp only
    rw [enterUnmanaged_agent]
    refine ⟨(gated_high high _).trans (completes expiry), rfl, rfl, rfl, rfl, rfl,
      fun z healthy => enterUnmanaged_failsafe (s := s.reach d) healthy, fun room => ?_⟩
    rw [enterUnmanaged_events (s := s.reach d) manager, raise_room _ _ _ _ (s.reach d) room]
    exact ⟨_, rfl, rfl, rfl, BitVec.ofInt_natCast ..⟩

end Sys2Proof.Machine

namespace Sys2Proof.Machine

variable {s t v : State} {f : Frame} {i : CompIx} {m : BitVec 8}

/-! ### Units and composites against a frame (R155 to R158) -/

theorem WatchDir.names_iff (d : WatchDir) (up : Bool) :
    d.names up = true ↔ d = .both ∨ (d = .up ∧ up = true) ∨ (d = .down ∧ up = false) := by
  cases d <;> cases up <;> decide

theorem WatchUnit.hits_iff (w : WatchUnit) (v : WatchFields) : w.hits v = true ↔
    w.enabled = true ∧ (w.direction = .both ∨ (w.direction = .up ∧ v.up = true) ∨
      (w.direction = .down ∧ v.up = false)) ∧
    ∃ x, v.value w.selector = some x ∧ ((w.lo ≤ x ∧ x ≤ w.hi) ↔ w.negate = false) := by
  rw [← WatchDir.names_iff]
  unfold hits
  cases value : v.value w.selector with
  | none => simp
  | some x =>
    have inside : ((decide (w.lo ≤ x) && decide (x ≤ w.hi)) != w.negate) = true ↔
        ((w.lo ≤ x ∧ x ≤ w.hi) ↔ w.negate = false) := by
      rw [← Bool.decide_and]
      by_cases h : w.lo ≤ x ∧ x ≤ w.hi <;> cases w.negate <;> simp [h]
    simp only [Bool.and_eq_true, inside, Option.some.injEq, exists_eq_left', and_assoc]

theorem getLsbD_one_shift (i k : UnitIx) : (1#8 <<< i.val).getLsbD k.val = decide (i = k) := by
  revert i k
  decide

theorem foldl_unitBits (hits : UnitIx → Bool) (l : List UnitIx) (k : UnitIx) : ∀ m : BitVec 8,
    (l.foldl (fun m i => if hits i then m ||| (1#8 <<< i.val) else m) m).getLsbD k.val =
      (m.getLsbD k.val || l.any fun i => decide (i = k) && hits i) := by
  induction l with
  | nil => exact fun m => (Bool.or_false _).symm
  | cons i l ih =>
    intro m
    rw [List.foldl_cons, ih, List.any_cons]
    cases hit : hits i
    · simp
    · rw [if_pos rfl, BitVec.getLsbD_or, getLsbD_one_shift, Bool.or_assoc, Bool.and_true]

theorem unitMatches_bit (units : Tab WatchUnit 8) (v : WatchFields) (i : UnitIx) :
    (unitMatches units v).getLsbD i.val = (units.get i).hits v := by
  have found : (allUnits.any fun k => decide (k = i) && (units.get k).hits v) = (units.get i).hits v := by
    rw [Bool.eq_iff_iff, List.any_eq_true]
    simp [Sys2Proof.mem_allUnits]
  unfold unitMatches
  rw [foldl_unitBits, found]
  simp

theorem Composite.hit_iff (c : Composite) (m set : BitVec 8) : c.hit m = some set ↔
    set = c.mask &&& m ∧ set ≠ 0 ∧ (c.mode = .all → set = c.mask) := by
  unfold hit
  cases mode : c.mode with
  | any =>
    dsimp only
    split
    · next zero => exact iff_of_false nofun fun ⟨eq, some_, _⟩ => some_ (eq.trans zero)
    · next some_ => exact ⟨fun h => ⟨(Option.some.inj h).symm, fun zero => some_ ((Option.some.inj h).trans zero), nofun⟩,
        fun ⟨eq, _, _⟩ => congrArg some eq.symm⟩
  | all =>
    dsimp only
    split
    · next fails =>
      simp only [Bool.or_eq_true, decide_eq_true_eq] at fails
      refine iff_of_false nofun fun ⟨eq, some_, whole⟩ => ?_
      have same := whole rfl
      rcases fails with zero | other
      · exact some_ (same.trans zero)
      · exact other (eq.symm.trans same)
    · next holds =>
      simp only [Bool.or_eq_true, decide_eq_true_eq, not_or, Classical.not_not] at holds
      obtain ⟨mask, whole⟩ := holds
      refine ⟨fun h => ?_, fun ⟨eq, _, _⟩ => congrArg some eq.symm⟩
      have eq := Option.some.inj h
      exact ⟨eq.symm, fun zero => mask (whole.symm.trans (eq.trans zero)), fun _ => eq.symm.trans whole⟩

/-! ### The fields of a frame (Table 7-3) -/

theorem upstreamFields_value (b : BayIx) (u : UplinkIx) (f : Frame) (x : Selector) (s : State) :
    (upstreamFields b u f s).value x ≠ none := by cases x <;> exact nofun

theorem destEntry_none_iff : destEntry f s = none ↔ isGroup (frameDst f) = true ∨ stationOf (frameDst f) s = none := by
  refine ⟨fun h => ?_, destEntry_none⟩
  cases group : isGroup (frameDst f) with
  | true => exact .inl rfl
  | false => exact .inr ((destEntry_unicast group).symm.trans h)

theorem downstreamFields_value (u : UplinkIx) (f : Frame) (set : List GroupIx) (x : Selector) (s : State) :
    (downstreamFields u f set s).value x = none ↔
      x = .bay ∧ (isGroup (frameDst f) = true ∨ stationOf (frameDst f) s = none) := by
  cases x
  case bay =>
    show (destEntry f s).map _ = none ↔ _
    rw [Option.map_eq_none_iff, destEntry_none_iff]
    simp
  all_goals exact iff_of_false nofun fun h => nomatch h.1

theorem frameType_eq (f : Frame) : frameType f = wordAt f (if wordAt f 12 = 0x8100#16 then 16 else 12) := by
  unfold frameType frameTagged
  simp only [beq_iff_eq]

theorem allGroups_eq : allGroups = List.finRange 16 := rfl

/-- The first of the groups that pass a test is the lowest. -/
theorem head_groups {p : GroupIx → Bool} {g : GroupIx} (passes : p g = true) (lowest : ∀ h, p h = true → g ≤ h) :
    (allGroups.filter p).head? = some g := by
  rw [List.head?_filter, allGroups_eq, List.find?_eq_some_iff_getElem]
  refine ⟨passes, g.val, by simp, by simp, fun j before => ?_⟩
  have fails : p ⟨j, by omega⟩ ≠ true := fun h => absurd (lowest _ h) (Nat.not_le.mpr before)
  simpa using fails

theorem downstreamFields_group {u : UplinkIx} {p : GroupIx → Bool} {g : GroupIx} (passes : p g = true)
    (lowest : ∀ h, p h = true → g ≤ h) :
    (downstreamFields u f (allGroups.filter p) s).value .group = some g.val := by
  show some (((allGroups.filter p).head?.map (·.val)).getD 0) = _
  rw [head_groups passes lowest]
  rfl

/-! ### What a judgement makes of the composites (R159) -/

/-- A composite after the judgement of a frame. -/
def Composite.judgedBy (m : BitVec 8) (c : Composite) : Composite :=
  match c.hit m with
  | some set => c.hitBy set
  | none => c

theorem Composite.judgedBy_none {c : Composite} (h : c.hit m = none) : c.judgedBy m = c := by rw [judgedBy, h]

theorem Composite.judgedBy_some {c : Composite} {set : BitVec 8} (h : c.hit m = some set) :
    c.judgedBy m = c.hitBy set := by rw [judgedBy, h]

theorem judgeComposite_some {set : BitVec 8} (h : (s.composites.get i).hit m = some set) :
    judgeComposite m f i s = applyHit i set f s := by rw [judgeComposite, h]

theorem judgeComposite_none (h : (s.composites.get i).hit m = none) : judgeComposite m f i s = s := by
  rw [judgeComposite, h]

theorem judgeComposite_composites (m : BitVec 8) (f : Frame) (i : CompIx) (s : State) :
    (judgeComposite m f i s).composites = s.composites.set i ((s.composites.get i).judgedBy m) := by
  cases h : (s.composites.get i).hit m with
  | none => rw [judgeComposite_none h, Composite.judgedBy_none h, Tab.set_get]
  | some set => rw [judgeComposite_some h, Composite.judgedBy_some h, applyHit_composites]

/-- What a hit leaves of a composite, in full. -/
theorem Composite.hitBy_eq (set : BitVec 8) (c : Composite) : c.hitBy set = { c with
    totalHits := min (c.totalHits + 1) 4294967295, lastMatch := set
    hitCounter := if c.threshold ≤ c.hitCounter + 1 then 0 else c.hitCounter + 1
    latched := c.latched || decide (c.threshold ≤ c.hitCounter + 1) } := by
  unfold hitBy crossed
  show (if c.threshold ≤ c.hitCounter + 1 then _ else _) = _
  by_cases crosses : c.threshold ≤ c.hitCounter + 1
  · simp only [crosses, decide_true, Bool.or_true]
    rfl
  · simp only [crosses, decide_false, Bool.or_false]
    rfl

/-- Both composites are judged, C0 first. -/
theorem watch_eq (v : WatchFields) (f : Frame) (s : State) : watch v f s =
    (watchDrops (unitMatches s.units v) s,
      judgeComposite (unitMatches s.units v) f 1 (judgeComposite (unitMatches s.units v) f 0 s)) := rfl

theorem watch_composite (v : WatchFields) (f : Frame) (s : State) (i : CompIx) :
    (watch v f s).2.composites.get i = (s.composites.get i).judgedBy (unitMatches s.units v) := by
  have cases_ : i = 0 ∨ i = 1 := by revert i; decide
  rw [watch_eq]
  dsimp only
  rw [judgeComposite_composites, judgeComposite_composites]
  rcases cases_ with rfl | rfl
  · rw [Tab.get_set_ne _ (by decide), Tab.get_set_self]
  · rw [Tab.get_set_self, Tab.get_set_ne _ (by decide)]

theorem watchDrops_iff : watchDrops m s = true ↔
    ∃ i, ((s.composites.get i).hit m).isSome = true ∧ (s.composites.get i).drop = true := by
  simp [watchDrops, Sys2Proof.mem_allComps, and_comm]

theorem watch_nothing (v : WatchFields) (f : Frame) (s : State)
    (none : ∀ i, (s.composites.get i).hit (unitMatches s.units v) = none) : watch v f s = (false, s) := by
  have keeps : watchDrops (unitMatches s.units v) s = false := by
    rw [Bool.eq_false_iff]
    rintro drops
    obtain ⟨i, hit, -⟩ := watchDrops_iff.mp drops
    rw [none i] at hit
    cases hit
  rw [watch_eq, keeps, judgeComposite_none (none 0), judgeComposite_none (none 1)]

/-! ### Copies (R161) -/

/-- A frame has been sent `n` times to the current manager's uplink, where that is UP. -/
def Copies (f : Frame) (n : Nat) (s t : State) : Prop :=
  (∀ g, s.agent.managed = true → s.agent.manager = some g → (s.uplink g.uplink).up = true →
    t.sent = s.sent ++ List.replicate n (.uplink g.uplink f) ∧
    ∀ w, t.uplink w = if w = g.uplink ∧ 0 < n then
        { s.uplink w with counters := { (s.uplink w).counters with
          framesOut := min ((s.uplink w).counters.framesOut + n) 4294967295 } }
      else s.uplink w) ∧
  (s.agent.managed = false ∨ s.agent.manager = none ∨
    (∃ g, s.agent.manager = some g ∧ (s.uplink g.uplink).up = false) → t.sent = s.sent ∧ t.uplinks = s.uplinks)

theorem Copies.zero (sent : t.sent = s.sent) (uplinks : t.uplinks = s.uplinks) : Copies f 0 s t := by
  refine ⟨fun g _ _ _ => ⟨by rw [sent]; exact (List.append_nil _).symm, fun w => ?_⟩, fun _ => ⟨sent, uplinks⟩⟩
  rw [if_neg fun h => Nat.lt_irrefl 0 h.2]
  exact congrArg (Tab.get · w) uplinks

theorem Copies.trans {n k : Nat} (h : Copies f n s t) (agent : t.agent = s.agent) (j : Copies f k t v) :
    Copies f (n + k) s v := by
  obtain ⟨first, idle⟩ := h
  obtain ⟨second, idle'⟩ := j
  rw [agent] at second idle'
  refine ⟨fun g managed manager up => ?_, fun none => ?_⟩
  · obtain ⟨sent, uplinks⟩ := first g managed manager up
    have up' : (t.uplink g.uplink).up = true := by
      rw [uplinks]
      split <;> exact up
    obtain ⟨sent', uplinks'⟩ := second g managed manager up'
    refine ⟨by rw [sent', sent, List.append_assoc, List.replicate_append_replicate], fun w => ?_⟩
    rw [uplinks', uplinks]
    by_cases here : w = g.uplink
    · rcases Nat.eq_zero_or_pos n with rfl | some_ <;> rcases Nat.eq_zero_or_pos k with rfl | some_'
      · simp
      · simp [here, some_']
      · simp [here, some_]
      · simp only [here, some_, some_', and_self, if_true, Nat.add_pos_left some_ k]
        have : min (min ((s.uplink g.uplink).counters.framesOut + n) 4294967295 + k) 4294967295 =
            min ((s.uplink g.uplink).counters.framesOut + (n + k)) 4294967295 := by omega
        rw [this]
    · simp [here]
  · obtain ⟨sent, uplinks⟩ := idle none
    have none' : s.agent.managed = false ∨ s.agent.manager = .none ∨
        (∃ g, s.agent.manager = some g ∧ (t.uplink g.uplink).up = false) := by
      unfold State.uplink
      rw [uplinks]
      exact none
    obtain ⟨sent', uplinks'⟩ := idle' none'
    exact ⟨sent'.trans sent, uplinks'.trans uplinks⟩

theorem copies_copyFrame (f : Frame) (s : State) : Copies f 1 s (copyFrame f s) := by
  refine ⟨fun g managed manager up => ?_, fun none => ?_⟩
  · have eq : copyFrame f s = transmit g.uplink f s := by
      unfold copyFrame
      rw [managed, manager]
      rfl
    rw [eq, transmit_up _ _ _ up]
    refine ⟨rfl, fun w => ?_⟩
    show (s.countUplink g.uplink fun c => { c with framesOut := sat32 c.framesOut }).uplink w = _
    rw [State.countUplink, State.modUplink_uplink]
    by_cases here : w = g.uplink
    · subst here
      rw [if_pos rfl, if_pos ⟨rfl, Nat.one_pos⟩]
      rfl
    · rw [if_neg here, if_neg fun h => here h.1]
  · have eq : copyFrame f s = s := by
      unfold copyFrame
      split
      · next managed =>
        rcases none with off | none | ⟨g, manager, down⟩
        · rw [off] at managed
          cases managed
        · rw [none]
        · rw [manager]
          exact transmit_down _ _ _ down
      · rfl
    rw [eq]
    exact ⟨rfl, rfl⟩

end Sys2Proof.Machine

namespace Sys2Proof.Machine

variable {s t v : State} {f : Frame} {i : CompIx} {m : BitVec 8}

/-! ### The events and copies of a judgement (R159, R161) -/

/-- The composite's hit brings its counter to the threshold. -/
def Composite.crosses (c : Composite) : Bool := decide (c.threshold ≤ c.hitCounter + 1)

/-- The WATCH_HIT event of a composite's hit. -/
def watchEvent (i : CompIx) (set : BitVec 8) (s : State) : Event :=
  ⟨.watchHit, .composite i, set, s.seconds,
    BitVec.ofNat 32 (min ((s.composites.get i).totalHits + 1) 4294967295)⟩

/-- The events a composite's judgement of a frame raises. -/
def watchEvents (m : BitVec 8) (i : CompIx) (s : State) : List Event :=
  match (s.composites.get i).hit m with
  | some set => if (s.composites.get i).crosses && !(s.composites.get i).latched then [watchEvent i set s] else []
  | none => []

theorem mem_watchEvents {e : Event} : e ∈ watchEvents m i s ↔ ∃ set, (s.composites.get i).crosses = true ∧
    (s.composites.get i).latched = false ∧ (s.composites.get i).hit m = some set ∧ e = watchEvent i set s := by
  unfold watchEvents
  cases hit : (s.composites.get i).hit m with
  | none => simp
  | some set =>
    by_cases tells : ((s.composites.get i).crosses && !(s.composites.get i).latched) = true
    · simp only [if_pos tells, List.mem_singleton, Option.some.injEq]
      simp only [Bool.and_eq_true, Bool.not_eq_true'] at tells
      exact ⟨fun h => ⟨set, tells.1, tells.2, rfl, h⟩, fun ⟨_, _, _, same, h⟩ => same ▸ h⟩
    · simp only [if_neg tells, List.not_mem_nil, false_iff]
      rintro ⟨_, crosses, clear, -⟩
      exact tells (by rw [crosses, clear]; rfl)

theorem watchEvents_length (m : BitVec 8) (i : CompIx) (s : State) : (watchEvents m i s).length ≤ 1 := by
  unfold watchEvents
  split
  · split <;> simp
  · simp

/-- The state that the judgement of a threshold meets. -/
def hitCounted (i : CompIx) (set : BitVec 8) (f : Frame) (s : State) : State :=
  let t := s.modComposite i (Composite.count set)
  if (t.composites.get i).copy then copyFrame f t else t

theorem applyHit_eq (i : CompIx) (set : BitVec 8) (f : Frame) (s : State) :
    applyHit i set f s = crossThreshold i (hitCounted i set f s) := rfl

theorem hitCounted_composite (i : CompIx) (set : BitVec 8) (f : Frame) (s : State) :
    (hitCounted i set f s).composites.get i = (s.composites.get i).count set := by
  unfold hitCounted
  dsimp only
  split
  · rw [copyFrame_composites, State.modComposite_get_self]
  · exact State.modComposite_get_self ..

theorem hitCounted_kept (i : CompIx) (set : BitVec 8) (f : Frame) (s : State) :
    (hitCounted i set f s).events = s.events ∧ (hitCounted i set f s).now = s.now ∧
    (hitCounted i set f s).agent = s.agent := by
  have frame : ∀ t : State, (copyFrame f t).events = t.events ∧ (copyFrame f t).now = t.now ∧
      (copyFrame f t).agent = t.agent := by
    intro t
    unfold copyFrame
    split
    · split
      · exact ⟨transmit_events .., transmit_now .., transmit_agent ..⟩
      · exact ⟨rfl, rfl, rfl⟩
    · exact ⟨rfl, rfl, rfl⟩
  unfold hitCounted
  dsimp only
  split
  · exact frame _
  · exact ⟨rfl, rfl, rfl⟩

theorem hitCounted_copies (i : CompIx) (set : BitVec 8) (f : Frame) (s : State) :
    Copies f (s.composites.get i).copy.toNat s (hitCounted i set f s) := by
  have copy : ((s.modComposite i (Composite.count set)).composites.get i).copy = (s.composites.get i).copy := by
    rw [State.modComposite_get_self]
    rfl
  unfold hitCounted
  dsimp only
  rw [copy]
  cases (s.composites.get i).copy with
  | true => exact copies_copyFrame f (s.modComposite i (Composite.count set))
  | false => exact .zero rfl rfl

theorem crossThreshold_sends (i : CompIx) (s : State) : (crossThreshold i s).sent = s.sent ∧
    (crossThreshold i s).uplinks = s.uplinks := by
  unfold crossThreshold
  dsimp only
  split
  · split
    · exact ⟨rfl, rfl⟩
    · exact ⟨raise_sent .., raise_uplinks ..⟩
  · exact ⟨rfl, rfl⟩

theorem crossThreshold_events (i : CompIx) (s : State) : (crossThreshold i s).events =
    if (s.composites.get i).threshold ≤ (s.composites.get i).hitCounter ∧ (s.composites.get i).latched = false then
      (raise .watchHit (.composite i) (s.composites.get i).lastMatch.toNat (s.composites.get i).totalHits s).events
    else s.events := by
  unfold crossThreshold
  dsimp only
  split
  · next crosses =>
    split
    · next latched => rw [if_neg fun h => by rw [h.2] at latched; cases latched]; rfl
    · next clear =>
      rw [if_pos ⟨crosses, Bool.eq_false_iff.mpr clear⟩]
      exact raise_events_congr (s := s) (t := s.modComposite i fun c => { c with hitCounter := 0 }) rfl rfl ..
  · next below => rw [if_neg fun h => below h.1]

theorem judgeComposite_told {set : BitVec 8} (hit : (s.composites.get i).hit m = some set) :
    (judgeComposite m f i s).events =
      if (s.composites.get i).crosses && !(s.composites.get i).latched then
        (raise .watchHit (.composite i) set.toNat (min ((s.composites.get i).totalHits + 1) 4294967295 : Nat) s).events
      else s.events := by
  obtain ⟨events, now, -⟩ := hitCounted_kept i set f s
  rw [judgeComposite_some hit, applyHit_eq, crossThreshold_events, hitCounted_composite, events,
    raise_events_congr events now]
  refine ite_congr_of_iff ?_ rfl rfl
  simp [Composite.crosses, Composite.count]

/-- A judgement with room for its event. -/
theorem judgeComposite_events (m : BitVec 8) (f : Frame) (i : CompIx) (room : s.events.queue.length < s.events.limit) :
    (judgeComposite m f i s).events.queue = s.events.queue ++ watchEvents m i s ∧
    (judgeComposite m f i s).events.limit = s.events.limit := by
  unfold watchEvents
  cases hit : (s.composites.get i).hit m with
  | none =>
    rw [judgeComposite_none hit]
    exact ⟨(List.append_nil _).symm, rfl⟩
  | some set =>
    rw [judgeComposite_told hit]
    by_cases tells : ((s.composites.get i).crosses && !(s.composites.get i).latched) = true
    · rw [if_pos tells, raise_room _ _ _ _ _ room]
      refine ⟨?_, rfl⟩
      dsimp only
      rw [if_pos tells, watchEvent, BitVec.ofInt_natCast, BitVec.ofNat_toNat, BitVec.setWidth_eq]
    · rw [if_neg tells]
      dsimp only
      rw [if_neg tells]
      exact ⟨(List.append_nil _).symm, rfl⟩

/-- A composite's hit is copied. -/
def copiesHit (m : BitVec 8) (s : State) (i : CompIx) : Bool :=
  ((s.composites.get i).hit m).isSome && (s.composites.get i).copy

theorem judgeComposite_copies (m : BitVec 8) (f : Frame) (i : CompIx) (s : State) :
    Copies f (copiesHit m s i).toNat s (judgeComposite m f i s) := by
  unfold copiesHit
  cases hit : (s.composites.get i).hit m with
  | none =>
    rw [judgeComposite_none hit]
    exact .zero rfl rfl
  | some set =>
    obtain ⟨sent, uplinks⟩ := crossThreshold_sends i (hitCounted i set f s)
    rw [judgeComposite_some hit, applyHit_eq]
    obtain ⟨-, -, agent⟩ := hitCounted_kept i set f s
    exact (hitCounted_copies i set f s).trans agent (.zero sent uplinks)

theorem judgeComposite_kept (m : BitVec 8) (f : Frame) (i : CompIx) (s : State) :
    (judgeComposite m f i s).now = s.now ∧ (judgeComposite m f i s).agent = s.agent := by
  cases hit : (s.composites.get i).hit m with
  | none =>
    rw [judgeComposite_none hit]
    exact ⟨rfl, rfl⟩
  | some set =>
    have frame : Watched s (judgeComposite m f i s) := by
      rw [judgeComposite_some hit]
      exact .applyHit i set f
    rw [frame]
    exact ⟨rfl, rfl⟩

/-- What stands of C1 once C0 has been judged. -/
theorem judgeComposite_other (m : BitVec 8) (f : Frame) (s : State) :
    (judgeComposite m f 0 s).composites.get 1 = s.composites.get 1 := by
  rw [judgeComposite_composites, Tab.get_set_ne _ (by decide)]

theorem watchEvents_later (m : BitVec 8) (f : Frame) (s : State) :
    watchEvents m 1 (judgeComposite m f 0 s) = watchEvents m 1 s := by
  unfold watchEvents watchEvent State.seconds
  rw [judgeComposite_other, (judgeComposite_kept m f 0 s).1]

theorem copiesHit_later (m : BitVec 8) (f : Frame) (s : State) :
    copiesHit m (judgeComposite m f 0 s) 1 = copiesHit m s 1 := by
  unfold copiesHit
  rw [judgeComposite_other]

theorem watch_copies (v : WatchFields) (f : Frame) (s : State) :
    Copies f ((List.finRange 2).filter (copiesHit (unitMatches s.units v) s)).length s (watch v f s).2 := by
  have both := (judgeComposite_copies (unitMatches s.units v) f 0 s).trans (judgeComposite_kept _ f 0 s).2
    (judgeComposite_copies (unitMatches s.units v) f 1 (judgeComposite (unitMatches s.units v) f 0 s))
  rw [copiesHit_later] at both
  have number : ((List.finRange 2).filter (copiesHit (unitMatches s.units v) s)).length =
      (copiesHit (unitMatches s.units v) s 0).toNat + (copiesHit (unitMatches s.units v) s 1).toNat := by
    rw [show List.finRange 2 = [0, 1] from rfl]
    cases zero : copiesHit (unitMatches s.units v) s 0 <;> cases one : copiesHit (unitMatches s.units v) s 1 <;>
      simp [zero, one]
  rw [number]
  exact both

theorem watch_events (v : WatchFields) (f : Frame) (s : State) (room : s.events.queue.length + 2 ≤ s.events.limit) :
    (watch v f s).2.events.queue = s.events.queue ++
      (watchEvents (unitMatches s.units v) 0 s ++ watchEvents (unitMatches s.units v) 1 s) := by
  obtain ⟨queue, limit⟩ := judgeComposite_events (unitMatches s.units v) f 0 (s := s) (by omega)
  have few := watchEvents_length (unitMatches s.units v) 0 s
  obtain ⟨queue', -⟩ := judgeComposite_events (unitMatches s.units v) f 1
    (s := judgeComposite (unitMatches s.units v) f 0 s) (by
      rw [queue, limit, List.length_append]
      omega)
  rw [watch_eq]
  dsimp only
  rw [queue', queue, watchEvents_later, List.append_assoc]

theorem watchEvents_nodup (m : BitVec 8) (s : State) : (watchEvents m 0 s ++ watchEvents m 1 s).Nodup := by
  have once : ∀ i, (watchEvents m i s).Nodup := by
    intro i
    unfold watchEvents
    split
    · split
      · exact List.pairwise_singleton _ _
      · exact List.nodup_nil
    · exact List.nodup_nil
  refine List.nodup_append.mpr ⟨once 0, once 1, fun a ha b hb same => ?_⟩
  obtain ⟨_, -, -, -, rfl⟩ := mem_watchEvents.mp ha
  obtain ⟨_, -, -, -, rfl⟩ := mem_watchEvents.mp hb
  exact absurd (congrArg Event.subject same) (by simp [watchEvent])

/-- Settles O55. -/
theorem unitsMatchAndCompositesHit : Obligations.UnitsMatchAndCompositesHit := by
  refine ⟨WatchUnit.hits_iff, fun b u f set x s => ⟨upstreamFields_value b u f x s, downstreamFields_value u f set x s⟩,
    fun u f s => ⟨fun b => ?_, ?_⟩, unitMatches_bit, Composite.hit_iff, fun v f s => ⟨watch_nothing v f s, fun i => ?_⟩,
    fun v f s => ?_⟩
  · exact ⟨rfl, rfl, rfl, rfl, rfl, congrArg (fun x : BitVec 16 => some x.toNat) (frameType_eq f), rfl, rfl⟩
  · refine ⟨rfl, rfl, rfl, fun g inSet lowest => ?_, rfl,
      congrArg (fun x : BitVec 16 => some x.toNat) (frameType_eq f), rfl, fun i e unicast entry => ?_⟩
    · exact downstreamFields_group (by simpa using inSet) fun h inside => lowest h (by simpa using inside)
    · show (destEntry f s).map _ = _
      rw [destEntry_unicast unicast, entry]
      rfl
  · rw [watch_composite]
    cases hit : (s.composites.get i).hit (unitMatches s.units v) with
    | none => rw [Composite.judgedBy_none hit, if_pos rfl]
    | some set => rw [Composite.judgedBy_some hit, Composite.hitBy_eq, if_neg (Option.some_ne_none set)]
  · obtain ⟨copies, idle⟩ := watch_copies v f s
    refine ⟨watchDrops_iff, fun i => ⟨fun none => ?_, fun set hit => ?_⟩, copies, idle, fun room =>
      ⟨_, watch_events v f s room, watchEvents_nodup _ s, fun e => ?_⟩, Watched.watch v f⟩
    · rw [watch_composite, Composite.judgedBy_none none]
    · rw [watch_composite, Composite.judgedBy_some hit, Composite.hitBy_eq]
      simp only [hit, Option.isSome_some, Bool.true_and, decide_eq_true_eq]
    · have both : ∀ p : CompIx → Prop, (p 0 ∨ p 1) ↔ ∃ i, p i := fun p => (Fin.exists_fin_two).symm
      rw [List.mem_append, mem_watchEvents, mem_watchEvents, both fun i => ∃ set, (s.composites.get i).crosses = true ∧
        (s.composites.get i).latched = false ∧ (s.composites.get i).hit (unitMatches s.units v) = some set ∧
        e = watchEvent i set s]
      refine exists_congr fun i => exists_congr fun set => ?_
      dsimp only
      constructor
      · rintro ⟨crosses, clear, hit, rfl⟩
        exact ⟨by rw [hit]; exact crosses, clear, hit, rfl⟩
      · rintro ⟨crosses, clear, hit, rfl⟩
        rw [hit] at crosses
        exact ⟨crosses, clear, hit, rfl⟩

end Sys2Proof.Machine

namespace Sys2Proof.Machine

variable {s t u : State}

/-! ### Requests that are made whole by their answer -/

/-- A request with no work after it is answered as its command answers. -/
theorem answers {f : State → State} {st : Status} {body : List Byte} (high : s.porstLow = false)
    (h : f s = answer st body t) : gated s f = answered t st body :=
  (gated_high high f).trans (congrArg Host.Outcome.next h)

theorem clampStatus_eq {c : Bool} {p : Prop} [Decidable p] (h : c = true ↔ p) :
    clampStatus c = if p then .clamped else .ok := by
  unfold clampStatus
  simp only [h]

/-- A setting, carried or kept, where the code carried is one of its own. -/
theorem carried_or_kept {α : Type} {f : Option α} {p : Prop} {a old : α} {selected : Bool} (code : p → f = some a)
    (chosen : if selected = true then p else a = old) : (if selected = true then f else some old) = some a := by
  cases selected with
  | true => exact code (by simpa using chosen)
  | false => exact congrArg some (by simpa using chosen.symm)

theorem byte_eq_ofNat (x : Byte) : x = BitVec.ofNat 8 x.toNat := by simp

/-! ### SET_WATCH, SET_COMPOSITE and ARM_COMPOSITE (R163 to R166) -/

theorem Selector.ofCode_none {x : Byte} (h : 6 < x.toNat) : Selector.ofCode x = none := by
  unfold Selector.ofCode
  repeat rw [if_neg (by rintro rfl; simp at h)]

theorem Selector.ofCode_code (x : Selector) : Selector.ofCode (BitVec.ofNat 8 x.code) = some x := by
  cases x <;> decide

theorem WatchDir.ofCode_none {x : Byte} (h : 2 < x.toNat) : WatchDir.ofCode x = none := by
  unfold WatchDir.ofCode
  repeat rw [if_neg (by rintro rfl; simp at h)]

theorem WatchDir.ofCode_code (d : WatchDir) : WatchDir.ofCode (BitVec.ofNat 8 d.code) = some d := by
  cases d <;> decide

theorem CompositeMode.ofCode_none {x : Byte} (h : 1 < x.toNat) : CompositeMode.ofCode x = none := by
  unfold CompositeMode.ofCode
  repeat rw [if_neg (by rintro rfl; simp at h)]

theorem CompositeMode.ofCode_code (m : CompositeMode) : CompositeMode.ofCode (BitVec.ofNat 8 m.code) = some m := by
  cases m <;> decide

theorem cmdSetWatch_refused {sel neg dir on : Byte}
    (bad : 6 < sel.toNat ∨ 1 < neg.toNat ∨ 2 < dir.toNat ∨ 1 < on.toNat) (i : UnitIx) (lo hi : BitVec 48) (s : State) :
    cmdSetWatch (BitVec.ofNat 8 i.val) sel neg dir on lo hi s = answer .badValue (s.units.get i).bytes s := by
  unfold cmdSetWatch
  rw [toIx_byte (by decide)]
  dsimp only
  split
  next selKnown negKnown dirKnown onKnown =>
    rcases bad with bad | bad | bad | bad
    · rw [Selector.ofCode_none bad] at selKnown
      cases selKnown
    · rw [onOff_none bad] at negKnown
      cases negKnown
    · rw [WatchDir.ofCode_none bad] at dirKnown
      cases dirKnown
    · rw [onOff_none bad] at onKnown
      cases onKnown
  next => rfl

theorem cmdSetComposite_refused {mode drop copy : Byte} (bad : 1 < mode.toNat ∨ 1 < drop.toNat ∨ 1 < copy.toNat)
    (i : CompIx) (mask : Byte) (threshold : BitVec 16) (s : State) :
    cmdSetComposite (BitVec.ofNat 8 i.val) mask mode drop copy threshold s =
      answer .badValue (s.composites.get i).bytes s := by
  unfold cmdSetComposite
  rw [toIx_byte (by decide)]
  dsimp only
  split
  next modeKnown dropKnown copyKnown =>
    rcases bad with bad | bad | bad
    · rw [CompositeMode.ofCode_none bad] at modeKnown
      cases modeKnown
    · rw [onOff_none bad] at dropKnown
      cases dropKnown
    · rw [onOff_none bad] at copyKnown
      cases copyKnown
  next => rfl

/-- A threshold of 0 is clamped to 1. -/
theorem threshold_clamped (x : BitVec 16) : max x.toNat 1 = if x = 0 then 1 else x.toNat := by
  split
  next zero =>
    subst zero
    rfl
  next nonzero =>
    have : x.toNat ≠ 0 := fun h => nonzero (BitVec.eq_of_toNat_eq h)
    omega

/-- Settles O56. -/
theorem watchSettingsApply : Obligations.WatchSettingsApply := by
  refine fun s high => ⟨fun n sel neg dir on lo hi beyond => answers high ?_, fun i sel neg dir on lo hi bad =>
      answers high (cmdSetWatch_refused bad i lo hi s), fun i x neg on d lo hi => answers high ?_,
    fun n mask mode drop copy threshold beyond => ⟨answers high ?_, answers high ?_⟩,
    fun i mask mode drop copy threshold bad => answers high (cmdSetComposite_refused bad i mask threshold s),
    fun i mask m drop copy threshold => answers high ?_, fun i => answers high ?_⟩
  · unfold cmdSetWatch
    rw [toIx_of_le beyond]
  · unfold cmdSetWatch
    rw [toIx_byte (by decide), Selector.ofCode_code, onOff_flag, WatchDir.ofCode_code, onOff_flag]
    dsimp only
    rw [clampStatus_eq (p := x.highest < lo.toNat ∨ x.highest < hi.toNat) (by simp)]
  · unfold cmdSetComposite
    rw [toIx_of_le beyond]
  · unfold cmdArmComposite
    rw [toIx_of_le beyond]
  · unfold cmdSetComposite
    rw [toIx_byte (by decide), CompositeMode.ofCode_code, onOff_flag, onOff_flag]
    dsimp only
    rw [threshold_clamped, clampStatus_eq (p := threshold = 0) decide_eq_true_iff]
  · unfold cmdArmComposite
    rw [toIx_byte (by decide)]
    dsimp only
    unfold State.modComposite
    rw [Tab.get_set_self]

/-! ### SET_MANAGERS (R180) -/

theorem clampSilence_eq (x : Nat) : clampSilence x = if x = 0 then 0 else max 5 (min 600 x) := rfl

/-- Settles O59. -/
theorem setManagersChecksThenChanges : Obligations.SetManagersChecksThenChanges := by
  refine fun count timeout addrs s high => ⟨fun sel disagree => answers high (if_pos disagree),
    fun sel agree chosen bad => answers high ?_, fun sel agree good => answers high ?_⟩
  · unfold cmdSetManagers
    rw [if_neg (Classical.not_not.mpr agree), if_pos]
    rw [chosen, Bool.true_and, Bool.or_eq_true, decide_eq_true_iff, List.any_eq_true]
    exact bad.imp_left fun h => BitVec.lt_def.mpr h
  · unfold cmdSetManagers
    rw [if_neg (Classical.not_not.mpr agree), if_neg]
    · dsimp only
      rw [clampStatus_eq (p := sel.getLsbD 1 = true ∧ clampSilence timeout.toNat ≠ timeout.toNat) (by simp)]
      rfl
    · rw [Bool.and_eq_true, Bool.or_eq_true, decide_eq_true_iff, List.any_eq_true]
      rintro ⟨chosen, many | ⟨a, here, group⟩⟩
      · exact absurd (BitVec.lt_def.mp many) (Nat.not_lt.mpr (good chosen).1)
      · rw [(good chosen).2 a here] at group
        cases group

end Sys2Proof.Machine

namespace Sys2Proof.Machine

variable {s t u : State}

theorem clampStatus_ok {c : Bool} : clampStatus c = .ok ↔ c = false := by cases c <;> decide

theorem clampStatus_either (c : Bool) : clampStatus c = .ok ∨ clampStatus c = .clamped := by cases c <;> decide

/-! ### LOAD_CURVE (R126) -/

theorem clampInt_eq {lo hi : Int} (le : lo ≤ hi) (x : Int) :
    clampInt lo hi x = if x < lo then lo else if hi < x then hi else x := by
  unfold clampInt
  split
  · omega
  · split <;> omega

theorem clampPoint_eq (p : BitVec 16 × BitVec 16) : clampPoint p =
    ⟨if p.1.toInt < -400 then -400 else if 1500 < p.1.toInt then 1500 else p.1.toInt, min 1000 p.2.toNat⟩ := by
  unfold clampPoint
  rw [clampInt_eq (by decide), Nat.min_comm]

/-- Neighbours in strict order are the whole list in strict order. -/
theorem increasing_iff : ∀ l : List CurvePoint, increasing l = true ↔ l.Pairwise fun p q => p.temp < q.temp
  | [] => by simp [increasing]
  | [p] => by simp [increasing]
  | p :: q :: rest => by
    unfold increasing
    rw [Bool.and_eq_true, decide_eq_true_iff, increasing_iff (q :: rest), List.pairwise_cons (a := p)]
    refine and_congr_left fun sorted => ⟨fun first r here => ?_, fun all => all q List.mem_cons_self⟩
    rcases List.mem_cons.mp here with rfl | later
    · exact first
    · exact Int.lt_trans first ((List.pairwise_cons.mp sorted).1 r later)

/-- Settles O46. -/
theorem loadCurveChecksThenReplaces : Obligations.LoadCurveChecksThenReplaces := by
  refine fun count points s high => ⟨fun n disagree => answers high (if_pos disagree),
    fun n agree beyond => answers high ?_, fun z agree => ?_⟩
  · unfold cmdLoadCurve
    rw [if_neg (Classical.not_not.mpr agree), toIx_of_le beyond]
  · dsimp only
    simp only [← clampPoint_eq]
    have checked : cmdLoadCurve (BitVec.ofNat 8 z.val) count points s =
        if count.toNat = 0 ∨ 8 < count.toNat ∨ ¬ (points.map clampPoint).Pairwise fun p q => p.temp < q.temp then
          answer .badValue (curveBytes (s.zone z).curve) s
        else answer (clampStatus (points.any fun p => (clampPoint p).temp ≠ p.1.toInt || (clampPoint p).duty ≠ p.2.toNat))
          (curveBytes (points.map clampPoint)) (s.modZone z fun x => { x with curve := points.map clampPoint }) := by
      unfold cmdLoadCurve
      rw [if_neg (Classical.not_not.mpr agree), toIx_byte (by decide)]
      refine ite_congr_of_iff ?_ rfl rfl
      rw [Bool.or_eq_true, Bool.or_eq_true, decide_eq_true_iff, decide_eq_true_iff, Bool.not_eq_true',
        ← Bool.not_eq_true, increasing_iff, or_assoc, BitVec.lt_def]
      exact or_congr_left ⟨fun h => congrArg BitVec.toNat h, fun h => BitVec.eq_of_toNat_eq h⟩
    refine ⟨fun bad => answers high (checked.trans (if_pos bad)), fun some few sorted =>
      ⟨_, (gated_high high _).trans (congrArg Host.Outcome.next (checked.trans (if_neg ?_))), rfl, _, rfl, ?_, ?_⟩⟩
    · rintro (none | many | unsorted)
      · omega
      · omega
      · exact unsorted sorted
    · rw [clampStatus_ok, List.any_eq_false]
      refine forall₂_congr fun p _ => ?_
      rw [clampPoint_eq, Bool.or_eq_true, decide_eq_true_iff, decide_eq_true_iff, not_or, Classical.not_not, Classical.not_not]
      exact and_congr_right fun _ => by dsimp only; omega
    · exact clampStatus_either _

end Sys2Proof.Machine

namespace Sys2Proof.Machine

variable {s t u : State}

/-! ### SET_ZONE (R124, R125) -/

/-- A request with work after it is made whole as its command answers. -/
theorem answersWhole {f : State → State} (high : s.porstLow = false) (h : f s = t) :
    gated s (change f) = completed s t := (gated_high high _).trans (completes h)

theorem answer_congr {st st' : Status} (body : State → List Byte) (status : st = st') (after : t = u) :
    answer st (body t) t = answer st' (body u) u := by rw [status, after]

theorem clampNat_ne {lo hi : Nat} (le : lo ≤ hi) (x : Nat) : clampNat lo hi x ≠ x ↔ x < lo ∨ hi < x := by
  unfold clampNat
  omega

theorem floorAbove_iff {z : ZoneIx} {watts : Nat} : floorAbove z watts s = true ↔
    ∃ b h, (s.bay b).settings.zone = z ∧ (s.bay b).header = some h ∧ watts < h.floorWatts := by
  unfold floorAbove
  rw [List.any_eq_true]
  refine exists_congr fun b => ?_
  simp [mem_allBays, Option.any_eq_true]

/-- Value `i` of Table 6-4 is selected and outside its range. -/
def outside (sel : BitVec 16) (v : ZoneValues) (i : Nat) : Prop :=
  sel.getLsbD (zoneRow i) = true ∧ ((zoneValueList v).getD i 0 < (zoneRanges.getD i (0, 0)).1 ∨
    (zoneRanges.getD i (0, 0)).2 < (zoneValueList v).getD i 0)

theorem zoneRanges_le {i : Nat} (h : i < 13) : (zoneRanges.getD i (0, 0)).1 ≤ (zoneRanges.getD i (0, 0)).2 := by
  revert i
  decide

theorem outside_iff {sel : BitVec 16} {v : ZoneValues} {i : Nat} (below : i < 13) :
    (sel.getLsbD (zoneRow i) && clampedValue v i ≠ (zoneValueList v).getD i 0) = true ↔ outside sel v i := by
  rw [Bool.and_eq_true, decide_eq_true_iff]
  exact and_congr_right fun _ => clampNat_ne (zoneRanges_le below) _

theorem anyClamped_iff {sel : BitVec 16} {v : ZoneValues} : anyClamped sel v = true ↔
    outside sel v 0 ∨ outside sel v 1 ∨ outside sel v 2 ∨ outside sel v 3 ∨ outside sel v 4 ∨ outside sel v 5 ∨
    outside sel v 6 ∨ outside sel v 7 ∨ outside sel v 8 ∨ outside sel v 9 ∨ outside sel v 10 ∨ outside sel v 11 ∨
    outside sel v 12 := by
  rw [anyClamped, show List.range 13 = [0, 1, 2, 3, 4, 5, 6, 7, 8, 9, 10, 11, 12] from rfl]
  simp only [List.any_cons, List.any_nil, Bool.or_false, Bool.or_eq_true (_ && _)]
  rw [outside_iff (by decide), outside_iff (by decide), outside_iff (by decide), outside_iff (by decide),
    outside_iff (by decide), outside_iff (by decide), outside_iff (by decide), outside_iff (by decide),
    outside_iff (by decide), outside_iff (by decide), outside_iff (by decide), outside_iff (by decide),
    outside_iff (by decide)]

theorem raisedFloor_eq (managed : Bool) (old new : ZoneSettings) : raisedFloor managed old new =
    max (if old.minDuty < new.minDuty then new.minDuty else 0)
      (if managed = false ∧ old.failsafe < new.failsafe then new.failsafe else 0) := by
  unfold raisedFloor
  simp

theorem applyZone_eq (z : ZoneIx) (new : ZoneSettings) (s : State) : applyZone z new s =
    let old := (s.zone z).settings
    let out := max (s.zone z).output (max (if old.minDuty < new.minDuty then new.minDuty else 0)
      (if s.agent.managed = false ∧ old.failsafe < new.failsafe then new.failsafe else 0))
    recomputeLimit z (s.modZone z fun x =>
      { x with settings := new, output := out, compare := (out * new.period + 500) / 1000 }) := by
  dsimp only
  rw [← raisedFloor_eq]
  rfl

/-- Settles O45. -/
theorem setZoneChecksThenChanges : Obligations.SetZoneChecksThenChanges := by
  refine fun sel v s high => ⟨fun n beyond => answersWhole high ?_, fun z => ⟨fun chosen low => answersWhole high ?_,
    fun fits => answersWhole high ?_⟩⟩
  · unfold cmdSetZone
    rw [toIx_of_le beyond]
    rfl
  · unfold cmdSetZone
    rw [toIx_byte (by decide)]
    refine if_pos ?_
    rw [chosen, Bool.true_and, floorAbove_iff]
    exact low
  · unfold cmdSetZone
    rw [toIx_byte (by decide)]
    refine (if_neg ?_).trans ?_
    · rw [Bool.and_eq_true, floorAbove_iff]
      rintro ⟨chosen, low⟩
      rcases fits with unchosen | high
      · rw [chosen] at unchosen
        cases unchosen
      · exact high low
    · refine answer_congr (zoneBody z) (clampStatus_eq ?_) (applyZone_eq z ((s.zone z).settings.select sel v) s)
      exact anyClamped_iff

end Sys2Proof.Machine

namespace Sys2Proof.Machine

variable {s t u : State} {c d : ChanIx}

/-! ### SET_SENSOR (R105, R127) -/

/-- A sensor turned off. -/
def Sensor.off (x : Sensor) : Sensor :=
  { x with enabled := false, status := .disabled, reading := 0, railRun := 0, inRangeRun := 0 }

/-- A channel turned off, before its condition ends. -/
def turnedOff (c : ChanIx) (s : State) : State :=
  if s.converter.converting = some c then
    { s.modSensor c Sensor.off with converter := { s.converter with discarded := true } }
  else s.modSensor c Sensor.off

theorem disableSensor_eq (c : ChanIx) (s : State) : disableSensor c s =
    if (s.sensor c).status = .faulted then endCondition (.sensorFault c) (turnedOff c s) else turnedOff c s := rfl

theorem turnedOff_sensor (c : ChanIx) (s : State) : (turnedOff c s).sensor c = (s.sensor c).off := by
  unfold turnedOff
  split <;> exact State.modSensor_sensor_self ..

theorem turnedOff_events (c : ChanIx) (s : State) : (turnedOff c s).events = s.events := by
  unfold turnedOff
  split <;> rfl

/-- Ending a condition leaves the converter, the sensors and the events. -/
theorem disableSensor_frame (c : ChanIx) (s : State) : (disableSensor c s).sensor c = (s.sensor c).off ∧
    (disableSensor c s).converter = (turnedOff c s).converter ∧ (disableSensor c s).events = s.events := by
  rw [disableSensor_eq, ← turnedOff_sensor, ← turnedOff_events c s]
  split
  · exact ⟨setConditions_sensor .., setConditions_converter .., setConditions_events ..⟩
  · exact ⟨rfl, rfl, rfl⟩

theorem disableSensor_sensor (c : ChanIx) (s : State) : (disableSensor c s).sensor c = (s.sensor c).off :=
  (disableSensor_frame c s).1

theorem disableSensor_discards (converting : s.converter.converting = some c) :
    (disableSensor c s).converter.discarded = true := by
  obtain ⟨-, converter, -⟩ := disableSensor_frame c s
  rw [converter, turnedOff, if_pos converting]

theorem disableSensor_ends (faulted : (s.sensor c).status = .faulted) {e : Condition}
    (here : e ∈ (disableSensor c s).conditions) (key : e.key = .sensorFault c) : e.active = false := by
  rw [disableSensor_eq, if_pos faulted] at here
  exact endCondition_inactive here key

theorem setEnabled_sensor (c : ChanIx) (on : Bool) (s : State) :
    ((setEnabled c on s).sensor c).zone = (s.sensor c).zone ∧ ((setEnabled c on s).sensor c).warn = (s.sensor c).warn ∧
    ((setEnabled c on s).sensor c).crit = (s.sensor c).crit ∧ ((setEnabled c on s).sensor c).enabled = on := by
  unfold setEnabled
  split
  next same => exact ⟨rfl, rfl, rfl, same.symm⟩
  next =>
    cases on with
    | true =>
      rw [if_pos rfl, enableSensor, State.modSensor_sensor_self]
      exact ⟨rfl, rfl, rfl, rfl⟩
    | false =>
      rw [if_neg nofun, disableSensor_sensor]
      exact ⟨rfl, rfl, rfl, rfl⟩

theorem clampInt_ne {lo hi : Int} (le : lo ≤ hi) (x : Int) : clampInt lo hi x ≠ x ↔ x < lo ∨ hi < x := by
  unfold clampInt
  omega

theorem onOff_of {x : Byte} {on : Bool} (h : x.toNat = on.toNat) : onOff x = some on := by
  rw [byte_eq_ofNat x, h, onOff_flag]

/-- The enabled code, carried or kept, once it is a code. -/
theorem onOff_picked {x : Byte} {selected on old : Bool} (low : x.toNat ≤ 1)
    (chosen : if selected = true then x.toNat = on.toNat else on = old) :
    ∃ code, onOff x = some code ∧ pick selected code old = on := by
  cases selected with
  | true => exact ⟨on, onOff_of (by simpa using chosen), rfl⟩
  | false =>
    have kept : on = old := by simpa using chosen
    refine ⟨decide (x.toNat = 1), onOff_of ?_, kept.symm⟩
    obtain h | h : x.toNat = 0 ∨ x.toNat = 1 := by omega
    all_goals simp [h]

/-- Settles O47. -/
theorem setSensorChecksThenChanges : Obligations.SetSensorChecksThenChanges := by
  refine fun sel zone enabled gain offset warn crit s high => ⟨fun n beyond => answersWhole high ?_,
    fun c => ⟨fun bad => answersWhole high ?_, fun z on named low chosen => answersWhole high ?_,
      ?_, ?_, ?_, ?_, disableSensor_discards, fun e here faulted key => disableSensor_ends faulted here key,
      (disableSensor_frame c s).2.2⟩⟩
  · unfold cmdSetSensor
    rw [toIx_of_le beyond]
    rfl
  · unfold cmdSetSensor
    rw [toIx_byte (by decide)]
    dsimp only
    split
    next z code zoneKnown onKnown =>
      rcases bad with ⟨selected, beyond⟩ | beyond
      · rw [if_pos selected, toIx_of_le beyond] at zoneKnown
        cases zoneKnown
      · rw [onOff_none beyond] at onKnown
        cases onKnown
    next => rfl
  · obtain ⟨code, onKnown, picked⟩ := onOff_picked low chosen
    unfold cmdSetSensor
    rw [toIx_byte (by decide)]
    dsimp only
    rw [carried_or_kept toIx_eq_some.mpr named, onKnown]
    dsimp only
    rw [picked]
    refine answer_congr (sensorBody c) (clampStatus_eq ?_) ?_
    · simp only [Bool.or_eq_true, Bool.and_eq_true, decide_eq_true_iff]
      rw [clampInt_ne (by decide), clampInt_ne (by decide), clampInt_ne (by decide), or_assoc]
    · rw [reevaluate]
      obtain ⟨zone, warnKept, critKept, enabledKept⟩ := setEnabled_sensor c on (s.modSensor c fun x =>
        { x with gain := pick (sel.getLsbD 0) gain.toNat x.gain
                 offset := pick (sel.getLsbD 1) (clampInt (-2000) 2000 offset.toInt) x.offset
                 zone := z
                 warn := pick (sel.getLsbD 3) (clampInt (-400) 1500 warn.toInt) x.warn
                 crit := pick (sel.getLsbD 4) (clampInt (-400) 1500 crit.toInt) x.crit })
      rw [State.modSensor_sensor_self] at zone warnKept critKept
      rw [zone, warnKept, critKept, enabledKept]
      have turned : ∀ u : State, (u.sensor c).enabled = (s.sensor c).enabled → setEnabled c on u =
          if on = (s.sensor c).enabled then u
          else if on = true then u.modSensor c fun x =>
            { x with enabled := true, status := .initial, railRun := 0, inRangeRun := 0 }
          else disableSensor c u := fun u same => by
        rw [← same]
        rfl
      rw [turned _ (by rw [State.modSensor_sensor_self])]
      refine ite_congr_of_iff ne_comm rfl (ite_congr_of_iff ?_ rfl rfl)
      rw [Bool.or_eq_true, Bool.or_eq_true, decide_eq_true_iff, decide_eq_true_iff, decide_eq_true_iff, or_assoc]
      exact or_congr ne_comm (or_congr ne_comm ne_comm)
  all_goals
    rw [disableSensor_sensor]
    rfl

end Sys2Proof.Machine

namespace Sys2Proof.Machine

variable {s t u : State}

/-! ### SET_UPLINK and SET_GROUP (R151, R152) -/

theorem lastTrusted_iff {w : UplinkIx} : lastTrusted w s = true ↔ ∀ v, v ≠ w → (s.uplink v).trusted = false := by
  unfold lastTrusted
  rw [List.all_eq_true]
  refine forall_congr' fun v => ?_
  simp [mem_allUplinks, Classical.or_iff_not_imp_left]

/-- SET_UPLINK with an index and a code that it knows. -/
theorem cmdSetUplink_known {w : UplinkIx} {sel on : Byte} {trusted : Bool}
    (known : (if sel.getLsbD 0 = true then onOff on else some (s.uplink w).trusted) = some trusted)
    (hold aging : BitVec 16) : cmdSetUplink (BitVec.ofNat 8 w.val) sel on hold aging s =
      if sel.getLsbD 0 && !trusted && lastTrusted w s then answer .badValue (setUplinkBody w s) s
      else
        let t := { s.modUplink w (fun x => { x with
            trusted := trusted, hold := if sel.getLsbD 1 then min 600 hold.toNat else x.hold }) with
          stations := { s.stations with
            agingInterval := if sel.getLsbD 2 then max 10 (min 3600 aging.toNat) else s.stations.agingInterval } }
        answer (if sel.getLsbD 1 = true ∧ 600 < hold.toNat ∨
          sel.getLsbD 2 = true ∧ (aging.toNat < 10 ∨ 3600 < aging.toNat) then .clamped else .ok) (setUplinkBody w t) t := by
  unfold cmdSetUplink
  rw [toIx_byte (by decide)]
  dsimp only
  rw [known]
  dsimp only
  refine ite_congr_of_iff Iff.rfl rfl (answer_congr (setUplinkBody w) (clampStatus_eq ?_) ?_)
  · simp only [Bool.or_eq_true, Bool.and_eq_true, decide_eq_true_iff]
    rw [clampNat_ne (by decide), clampNat_ne (by decide)]
    simp
  · rw [show clampNat 0 600 hold.toNat = min 600 hold.toNat from Nat.zero_max ..]
    rfl

/-- Settles O53. -/
theorem forwardingSettingsApply : Obligations.ForwardingSettingsApply := by
  refine fun s high => ⟨fun n sel on hold aging beyond => answers high ?_,
    fun w sel on hold aging selected bad => answers high ?_, fun w sel hold aging selected others => answers high ?_,
    fun w sel on hold aging trusted chosen keeps => answers high ?_, fun n tag beyond => answers high ?_,
    fun g tag big => answers high ?_, fun g tag fits => answers high ?_⟩
  · unfold cmdSetUplink
    rw [toIx_of_le beyond]
  · unfold cmdSetUplink
    rw [toIx_byte (by decide)]
    dsimp only
    rw [if_pos selected, onOff_none bad]
  · refine (cmdSetUplink_known (trusted := false) (if_pos selected) hold aging).trans (if_pos ?_)
    rw [selected, lastTrusted_iff.mpr others]
    rfl
  · refine (cmdSetUplink_known (carried_or_kept onOff_of chosen) hold aging).trans (if_neg ?_)
    rw [Bool.and_eq_true, Bool.and_eq_true, Bool.not_eq_true', lastTrusted_iff]
    rintro ⟨⟨selected, untrusted⟩, others⟩
    rcases keeps with unselected | on | ⟨v, other, on⟩
    · rw [selected] at unselected
      cases unselected
    · rw [untrusted] at on
      cases on
    · rw [others v other] at on
      cases on
  · unfold cmdSetGroup
    rw [toIx_of_le beyond]
  · unfold cmdSetGroup
    rw [toIx_byte (by decide)]
    exact if_pos big
  · unfold cmdSetGroup
    rw [toIx_byte (by decide)]
    exact if_neg (Nat.not_lt.mpr fits)

/-! ### SET_SUPPLY, SET_POWER_POLICY and SET_RAMP (R85, R86, R104) -/

theorem RedundancyMode.ofCode_none {x : Byte} (h : 2 < x.toNat) : RedundancyMode.ofCode x = Option.none := by
  unfold RedundancyMode.ofCode
  rw [if_neg (by rintro rfl; simp at h), if_neg (by rintro rfl; simp at h), if_neg (by rintro rfl; simp at h)]

theorem RedundancyMode.ofCode_code (m : RedundancyMode) : RedundancyMode.ofCode (BitVec.ofNat 8 m.code) = some m := by
  cases m <;> decide

theorem RedundancyMode.ofCode_of {x : Byte} {m : RedundancyMode} (h : x.toNat = m.code) :
    RedundancyMode.ofCode x = some m := by
  rw [byte_eq_ofNat x, h, RedundancyMode.ofCode_code]

/-- Value `i` of SET_RAMP is selected and outside its range. -/
def rampOutside (sel : Byte) (i : Nat) (v : BitVec 16 × Nat × Nat) : Prop :=
  sel.getLsbD i = true ∧ (v.1.toNat < v.2.1 ∨ v.2.2 < v.1.toNat)

theorem rampOutside_iff {sel : Byte} {i lo hi : Nat} (le : lo ≤ hi) (v : BitVec 16) :
    (sel.getLsbD i && clampNat lo hi v.toNat ≠ v.toNat) = true ↔ rampOutside sel i (v, lo, hi) := by
  rw [Bool.and_eq_true, decide_eq_true_iff]
  exact and_congr_right fun _ => clampNat_ne le _

theorem rampClamped_iff {sel : Byte} {c0 c1 c2 c3 ramp settle stop grace : BitVec 16} :
    rampClamped sel (rampRanges c0 c1 c2 c3 ramp settle stop grace) = true ↔
      rampOutside sel 0 (c0, 0, 255) ∨ rampOutside sel 1 (c1, 0, 255) ∨ rampOutside sel 2 (c2, 0, 255) ∨
      rampOutside sel 3 (c3, 0, 255) ∨ rampOutside sel 4 (ramp, 100, 5000) ∨ rampOutside sel 5 (settle, 0, 2000) ∨
      rampOutside sel 6 (stop, 10, 600) ∨ rampOutside sel 7 (grace, 5, 300) := by
  rw [rampClamped, show List.range 8 = [0, 1, 2, 3, 4, 5, 6, 7] from rfl]
  simp only [List.any_cons, List.any_nil, Bool.or_false, Bool.or_eq_true (_ && _), rampRanges, List.getD_cons_zero,
    List.getD_cons_succ]
  rw [rampOutside_iff (by decide), rampOutside_iff (by decide), rampOutside_iff (by decide),
    rampOutside_iff (by decide), rampOutside_iff (by decide), rampOutside_iff (by decide),
    rampOutside_iff (by decide), rampOutside_iff (by decide)]

/-- The part after a SET_RAMP. -/
def setRampTo (sel : Byte) (c0 c1 c2 c3 ramp settle stop grace : BitVec 16) (s : State) : State :=
  let code := fun (i : ClassIx) (c : BitVec 16) =>
    pick (sel.getLsbD i.val) (min c.toNat 255) (s.ramp.classCodes.get i)
  { s with ramp := { s.ramp with
    classCodes := ⟨[code 0 c0, code 1 c1, code 2 c2, code 3 c3], rfl⟩
    rampTimeout := pick (sel.getLsbD 4) (clampNat 100 5000 ramp.toNat) s.ramp.rampTimeout
    settleTime := pick (sel.getLsbD 5) (clampNat 0 2000 settle.toNat) s.ramp.settleTime
    stopTimeout := pick (sel.getLsbD 6) (clampNat 10 600 stop.toNat) s.ramp.stopTimeout
    shedGrace := pick (sel.getLsbD 7) (clampNat 5 300 grace.toNat) s.ramp.shedGrace } }

theorem classCode_chosen (selected : Bool) (c : BitVec 16) (old : Nat) :
    pick selected (min c.toNat 255) old = if selected = true then max 0 (min 255 c.toNat) else old := by
  unfold pick
  rw [Nat.zero_max, Nat.min_comm]

/-- Settles O32. -/
theorem powerSettingsApply : Obligations.PowerSettingsApply := by
  refine fun s high => ⟨fun n w beyond => answersWhole high ?_, fun i w => answersWhole high ?_,
    fun sel mode overhead timeout selected bad => answersWhole high ?_,
    fun sel mode overhead timeout m chosen => answersWhole high ?_,
    fun sel c0 c1 c2 c3 ramp settle stop grace =>
      ⟨setRampTo sel c0 c1 c2 c3 ramp settle stop grace s, (gated_high high _).trans (congrArg Host.Outcome.next ?_),
        rfl, classCode_chosen .., classCode_chosen .., classCode_chosen .., classCode_chosen ..⟩⟩
  · unfold cmdSetSupply
    rw [toIx_of_le beyond]
    rfl
  · unfold cmdSetSupply
    rw [toIx_byte (by decide)]
    exact answer_congr (supplyBody i) (clampStatus_eq decide_eq_true_iff) rfl
  · unfold cmdSetPowerPolicy
    rw [if_pos selected, RedundancyMode.ofCode_none bad]
  · unfold cmdSetPowerPolicy
    rw [carried_or_kept RedundancyMode.ofCode_of chosen]
    dsimp only
    refine answer_congr policyBody (clampStatus_eq ?_) (ite_congr_of_iff ?_ rfl rfl)
    · simp only [Bool.or_eq_true, Bool.and_eq_true, decide_eq_true_iff]
      rw [clampNat_ne (by decide)]
      refine or_congr (and_congr_right fun _ => ?_) (and_congr_right fun _ => ?_) <;> omega
    · rw [Bool.or_eq_true, decide_eq_true_iff, decide_eq_true_iff]
      rfl
  · refine answer_congr (t := setRampTo sel c0 c1 c2 c3 ramp settle stop grace s) rampBody (clampStatus_eq ?_) rfl
    exact rampClamped_iff

end Sys2Proof.Machine

namespace Sys2Proof.Machine

variable {s t u : State} {b : BayIx}

/-! ### SET_BAY (R20, R21) -/

theorem alternateCode_of {x : Byte} {a : Option UplinkIx} (h : x.toNat = a.elim 255 (·.val)) :
    alternateCode x = some a := by
  unfold alternateCode
  cases a with
  | none => exact if_pos (BitVec.eq_of_toNat_eq h)
  | some w =>
    have small := w.isLt
    have named : x.toNat = w.val := h
    rw [if_neg (by rintro rfl; simp at named; omega), toIx_eq_some.mpr named]
    rfl

theorem alternateCode_none {x : Byte} (beyond : 3 < x.toNat) (other : x.toNat ≠ 255) : alternateCode x = none := by
  unfold alternateCode
  rw [if_neg (by rintro rfl; exact other rfl), toIx_of_le beyond]
  rfl

variable {old new : BaySettings} {sel priority auto press zone primary alternate group : Byte}

theorem ite_bind {α β : Type} {p : Prop} [Decidable p] (x y : Option α) (f : α → Option β) :
    (if p then x >>= f else y >>= f) = (if p then x else y).bind f := by
  split <;> rfl

/-- The members of a SET_BAY, each carried or kept, in the order of their checks. -/
theorem selectBay_eq : selectBay old sel priority auto press zone primary alternate group =
    (if sel.getLsbD 1 = true then onOff auto else some old.autoPower).bind fun a =>
    (if sel.getLsbD 2 = true then onOff press else some old.pressToStart).bind fun p =>
    (if sel.getLsbD 3 = true then toIx 3 zone.toNat else some old.zone).bind fun z =>
    (if sel.getLsbD 4 = true then toIx 4 primary.toNat else some old.primary).bind fun u =>
    (if sel.getLsbD 5 = true then alternateCode alternate else some old.alternate).bind fun v =>
    (if sel.getLsbD 6 = true then toIx 16 group.toNat else some old.group).bind fun g =>
      some ⟨pick (sel.getLsbD 0) (min priority.toNat 7) old.priority, a, p, z, u, v, g⟩ := by
  simp only [← ite_bind]
  rfl

theorem selectBay_none (bad : (sel.getLsbD 1 && 1 < auto.toNat || sel.getLsbD 2 && 1 < press.toNat ||
      sel.getLsbD 3 && 2 < zone.toNat || sel.getLsbD 4 && 3 < primary.toNat ||
      sel.getLsbD 5 && 3 < alternate.toNat && alternate.toNat ≠ 255 || sel.getLsbD 6 && 15 < group.toNat) = true) :
    selectBay old sel priority auto press zone primary alternate group = none := by
  rw [Option.eq_none_iff_forall_ne_some]
  intro new taken
  simp only [selectBay_eq, Option.bind_eq_some_iff] at taken
  obtain ⟨_, autoKnown, _, pressKnown, _, zoneKnown, _, primaryKnown, _, alternateKnown, _, groupKnown, -⟩ := taken
  simp only [Bool.or_eq_true, Bool.and_eq_true, decide_eq_true_iff] at bad
  rcases bad with ((((⟨on, beyond⟩ | ⟨on, beyond⟩) | ⟨on, beyond⟩) | ⟨on, beyond⟩) | ⟨⟨on, beyond⟩, other⟩) | ⟨on, beyond⟩
  · rw [if_pos on, onOff_none beyond] at autoKnown
    cases autoKnown
  · rw [if_pos on, onOff_none beyond] at pressKnown
    cases pressKnown
  · rw [if_pos on, toIx_of_le beyond] at zoneKnown
    cases zoneKnown
  · rw [if_pos on, toIx_of_le beyond] at primaryKnown
    cases primaryKnown
  · rw [if_pos on, alternateCode_none beyond other] at alternateKnown
    cases alternateKnown
  · rw [if_pos on, toIx_of_le beyond] at groupKnown
    cases groupKnown

theorem zoneRefusal_eq {b : BayIx} {z : ZoneIx} : zoneRefusal b z s =
    if (s.bay b).state.zoneChangeable = false then some .wrongState
    else if ∃ h, (s.bay b).header = some h ∧ (s.zone z).settings.cooling2 < h.floorWatts then some .badValue
    else none := by
  unfold zoneRefusal
  simp only [Bool.not_eq_true', Option.any_eq_true, decide_eq_true_iff]

/-- SET_BAY with an index and members that it knows, and a zone that is refused. -/
theorem cmdSetBay_refused {st : Status}
    (known : selectBay (s.bay b).settings sel priority auto press zone primary alternate group = some new)
    (refusal : (if new.zone ≠ (s.bay b).settings.zone then zoneRefusal b new.zone s else none) = some st) :
    cmdSetBay (BitVec.ofNat 8 b.val) sel priority auto press zone primary alternate group s =
      answer st (s.bay b).settings.bytes s := by
  unfold cmdSetBay
  simp only [toIx_byte, Nat.reduceLeDiff, known, refusal]

/-- SET_BAY with nothing to refuse. -/
theorem cmdSetBay_applied
    (known : selectBay (s.bay b).settings sel priority auto press zone primary alternate group = some new)
    (free : (if new.zone ≠ (s.bay b).settings.zone then zoneRefusal b new.zone s else none) = none) :
    cmdSetBay (BitVec.ofNat 8 b.val) sel priority auto press zone primary alternate group s =
      answer (clampStatus (sel.getLsbD 0 && 7 < priority.toNat)) new.bytes (applyBay b new s) := by
  unfold cmdSetBay
  simp only [toIx_byte, Nat.reduceLeDiff, known, free]

theorem rebay_selects (b : BayIx) (new : BaySettings) (s : State) :
    (if (new.primary ≠ (s.bay b).settings.primary ∨ new.alternate ≠ (s.bay b).settings.alternate) ∧
        (s.bay b).state.forwarding = true then
      selectUplink b (s.modBay b fun y => { y with settings := new })
    else s.modBay b fun y => { y with settings := new }) = rebay b new s := by
  unfold rebay resettled
  simp only [Bool.and_eq_true, Bool.or_eq_true, decide_eq_true_iff]
  split
  · rw [selectUplink, State.modBay_modBay]
  · exact State.modBay_congr rfl

/-- Settles O24. -/
theorem setBayChecksThenChanges : Obligations.SetBayChecksThenChanges := by
  refine fun s sel priority auto press zone primary alternate group high =>
    ⟨fun n beyond => answersWhole high ?_, fun b => ⟨fun bad => answersWhole high ?_,
      fun new priorityChosen autoChosen pressChosen zoneChosen primaryChosen alternateChosen groupChosen => ?_⟩⟩
  · unfold cmdSetBay
    rw [toIx_of_le beyond]
    rfl
  · unfold cmdSetBay
    rw [toIx_byte (by decide)]
    dsimp only
    rw [selectBay_none bad]
    rfl
  · have known : selectBay (s.bay b).settings sel priority auto press zone primary alternate group = some new := by
      rw [selectBay_eq, carried_or_kept onOff_of autoChosen, carried_or_kept onOff_of pressChosen,
        carried_or_kept toIx_eq_some.mpr zoneChosen, carried_or_kept toIx_eq_some.mpr primaryChosen,
        carried_or_kept alternateCode_of alternateChosen, carried_or_kept toIx_eq_some.mpr groupChosen, pick,
        ← priorityChosen]
      rfl
    refine ⟨fun changed fixed => answersWhole high ?_, fun changed free low => answersWhole high ?_,
      fun fits => answersWhole high ?_⟩
    · refine cmdSetBay_refused known ?_
      rw [if_pos changed, zoneRefusal_eq, if_pos fixed]
    · refine cmdSetBay_refused known ?_
      rw [if_pos changed, zoneRefusal_eq, if_neg (by rw [free]; exact nofun), if_pos low]
    · have unrefused : (if new.zone ≠ (s.bay b).settings.zone then zoneRefusal b new.zone s else none) = none := by
        split
        next changed =>
          obtain same | ⟨free, high⟩ := fits
          · exact absurd same changed
          · rw [zoneRefusal_eq, if_neg (by rw [free]; exact nofun), if_neg high]
        next => rfl
      rw [cmdSetBay_applied known unrefused, applyBay_eq, ← rebay_selects, clampStatus_eq (p := sel.getLsbD 0 = true ∧ 7 < priority.toNat) (by simp)]
      rfl

/-! ### READ_IDENTITY (R55, R56) -/

/-- The 1486 bytes of a record standing alone hold a whole record of at most 12 blocks. -/
theorem take_room {α : Type} {l : List α} (short : l.length ≤ 12) (count : Nat) :
    l.take (min count ((1486 - 4) / 18)) = l.take count := by
  by_cases few : count ≤ 82
  · rw [Nat.min_eq_left few]
  · rw [List.take_of_length_le, List.take_of_length_le] <;> omega

theorem blockItem_eq : blockItem = fun x =>
    u8 x.block ++ u8 (if x.content = .valid then 1 else 0) ++ x.data := by
  funext x
  unfold blockItem flag
  by_cases valid : x.content = .valid <;> simp [valid]

/-- Settles O28. -/
theorem readIdentityByCase : Obligations.ReadIdentityByCase := by
  refine fun cls index first count s high => ⟨fun notBay notSupply => answers high ?_, fun beyond => answers high ?_,
    fun o named => ⟨fun past => answers high ?_, fun inside reading => answers high ?_,
      fun inside idle absent => answers high ?_, fun inside idle unstored => answers high ?_,
      fun st start slots inside idle stored whole here short => answers high ?_⟩⟩
  all_goals unfold cmdReadIdentity
  · rw [ownerOf, if_neg notBay, if_neg notSupply]
  · have unnamed : ownerOf cls index = some none := by
      rcases beyond with ⟨rfl, beyond⟩ | ⟨rfl, beyond⟩
      · rw [ownerOf, if_pos rfl, toIx_of_le beyond]
        rfl
      · rw [ownerOf, if_neg (by decide), if_pos rfl, toIx_of_le beyond]
        rfl
    rw [unnamed]
  · rw [named]
    exact if_pos (BitVec.lt_def.mpr (show (11#8).toNat < first.toNat from past))
  all_goals
    rw [named]
    refine (if_neg (fun past : (11#8) < first => absurd (BitVec.lt_def.mp past) (Nat.not_lt.mpr inside))).trans ?_
  · exact if_pos reading
  all_goals refine (if_neg (by rw [idle]; exact nofun)).trans ?_
  · rw [absent]
  · rw [unstored]
    rfl
  · rw [stored]
    have drop : (slots.drop first.toNat).length ≤ 12 := by rw [List.length_drop]; omega
    rcases whole with rfl | rfl
    all_goals
      dsimp only
      unfold readRecord
      rw [here]
      dsimp only
      rw [take_room drop, blockItem_eq]
      rfl

/-! ### The power timers at their expiry (R83, R93, R95, R98, R102) -/

/-- Settles O36. -/
theorem powerTimersAct : Obligations.PowerTimersAct := by
  refine fun s high => ⟨fun b d ramping timer powering => answersWhole high ?_, fun d timer => answersWhole high ?_,
    fun b d stopping deadline => answersWhole high ?_, fun b d shedding deadline => answersWhole high ?_,
    fun b d timer => answersWhole high ?_⟩
  · unfold rampExpiry
    rw [timer, ramping]
    exact if_pos powering
  · unfold settleExpiry
    rw [timer]
    rfl
  · unfold stopExpiry
    rw [stopping, deadline]
    exact if_pos stopping
  · unfold shedExpiry
    rw [shedding, deadline]
    refine (if_pos shedding).trans (ite_congr_of_iff ?_ rfl rfl)
    rw [Bool.and_eq_true, Bool.not_eq_true']
    rfl
  · unfold capExpiry
    rw [timer]
    refine ite_congr_of_iff ?_ rfl rfl
    rw [State.modBay_bay_self]
    rfl

end Sys2Proof.Machine

namespace Sys2Proof.Machine

variable {s t u : State} {l : Link} {c : LinkChar} {e e' : Engine} {now : Nat}

/-! ### What a character leads to (R26 to R28) -/

theorem character_goOn (h : (engineOf l s).onChar s.now c = .goOn e') : character l c s = setEngine l e' s := by
  cases l with
  | bay b =>
    replace h : (s.bay b).link.engine.onChar s.now c = .goOn e' := h
    unfold character bayChar
    simp only [h]
    rfl
  | supply =>
    replace h : s.supplyLink.engine.onChar s.now c = .goOn e' := h
    unfold character supplyChar
    simp only [h]
    rfl

theorem character_failed {k : FailKind} (h : (engineOf l s).onChar s.now c = .failed k) :
    character l c s = failTxn l k (Engine.quiet s.now) s := by
  cases l with
  | bay b =>
    replace h : (s.bay b).link.engine.onChar s.now c = .failed k := h
    unfold character bayChar
    simp only [h]
    rfl
  | supply =>
    replace h : s.supplyLink.engine.onChar s.now c = .failed k := h
    unfold character supplyChar
    simp only [h]
    rfl

theorem charFault_stopless (h : c.stop = false) : charFault c = some .framing := by
  unfold charFault
  rw [h]
  rfl

theorem charFault_odd (stop : c.stop = true) (odd : c.parity ≠ parityBit c.data) : charFault c = some .parity := by
  unfold charFault
  rw [stop, if_neg (by decide), if_pos odd]

theorem charFault_even (stop : c.stop = true) (even : c.parity = parityBit c.data) : charFault c = none := by
  unfold charFault
  rw [stop, if_neg (by decide), if_neg (Classical.not_not.mpr even)]

theorem onChar_faulty {k : FailKind} (awaits : e.state = .awaitStart ∨ e.state = .receiving)
    (fault : charFault c = some k) : e.onChar now c = .failed k := by
  unfold Engine.onChar
  rcases awaits with h | h
  all_goals
    simp only [h, fault]

theorem onChar_start (awaits : e.state = .awaitStart) (good : charFault c = none) : e.onChar now c =
    if c.data = 0x5A then .goOn { e with state := .receiving, timer := some (now + 50), rxLength := none, rx := [] }
    else .goOn e := by
  unfold Engine.onChar
  simp only [awaits, good]

theorem onChar_length {x : Txn} (receives : e.state = .receiving) (good : charFault c = none)
    (first : e.rxLength = none) (flight : e.inFlight = some x) : e.onChar now c =
    if x.responseLength < c.data.toNat then .failed .overrun else .goOn { e with rxLength := some c.data } := by
  unfold Engine.onChar
  simp only [receives, good, first, flight, Option.any_some, decide_eq_true_iff]

theorem onChar_payload {len : Byte} (receives : e.state = .receiving) (good : charFault c = none)
    (later : e.rxLength = some len) : e.onChar now c =
    if e.rx.length < len.toNat then .goOn { e with rx := e.rx ++ [c.data] }
    else judgeFrame e.inFlight len e.rx c.data := by
  unfold Engine.onChar
  simp only [receives, good, later]

theorem sum8_cons (len : Byte) (p : List Byte) : sum8 (len :: p) = p.foldl (· + ·) len := by
  unfold sum8
  rw [List.foldl_cons]
  exact congrArg (fun x => List.foldl (· + ·) x p) (BitVec.zero_add len)

theorem judgeFrame_eq (x : Txn) (len : Byte) (p : List Byte) (check : Byte) : judgeFrame (some x) len p check =
    if sum8 (len :: p) + check = 0 ∧ fits x p = true then .done p else .failed .badCheck := by
  unfold judgeFrame
  by_cases sum : sum8 (len :: p) + check = 0
  · rw [if_neg (Classical.not_not.mpr sum)]
    exact ite_congr_of_iff (by simp [sum]) rfl rfl
  · rw [if_pos sum, if_neg (fun h => sum h.1)]

/-- A transaction that has succeeded goes to its owner. -/
def handedOn (l : Link) (x : Txn) (stale : Bool) (p : List Byte) (s : State) : State :=
  match l with
  | .bay b => bayTxnDone b x stale p s
  | .supply => supplyTxnDone x p s

theorem character_done {x : Txn} {p : List Byte} (h : (engineOf l s).onChar s.now c = .done p)
    (flight : (engineOf l s).inFlight = some x) :
    character l c s = handedOn l x (engineOf l s).stale p (setEngine l Engine.reset s) := by
  cases l with
  | bay b =>
    replace h : (s.bay b).link.engine.onChar s.now c = .done p := h
    replace flight : (s.bay b).link.engine.inFlight = some x := flight
    unfold character bayChar
    simp only [h, flight]
    rfl
  | supply =>
    replace h : s.supplyLink.engine.onChar s.now c = .done p := h
    replace flight : s.supplyLink.engine.inFlight = some x := flight
    unfold character supplyChar
    simp only [h, flight]
    rfl

/-! ### A well-formed response (R27, R195) -/

theorem RunState.ofCode_isSome {x : Byte} : (RunState.ofCode x).isSome = true ↔ x.toNat ≤ 2 := by
  unfold RunState.ofCode
  by_cases zero : x = 0
  · subst zero
    decide
  by_cases one : x = 1
  · subst one
    decide
  by_cases two : x = 2
  · subst two
    decide
  rw [if_neg zero, if_neg one, if_neg two]
  refine ⟨nofun, fun low => ?_⟩
  obtain h | h | h : x.toNat = 0 ∨ x.toNat = 1 ∨ x.toNat = 2 := by omega
  · exact absurd (BitVec.eq_of_toNat_eq h) zero
  · exact absurd (BitVec.eq_of_toNat_eq h) one
  · exact absurd (BitVec.eq_of_toNat_eq h) two

/-- The next character of a frame, while the engine goes on. -/
def hear (now : Nat) (r : CharResult) (d : Byte) : CharResult :=
  match r with
  | .goOn e => e.onChar now ⟨d, parityBit d, true⟩
  | other => other

theorem hear_goOn (d : Byte) : hear now (.goOn e) d = e.onChar now ⟨d, parityBit d, true⟩ := rfl

/-- The payload fills the receive fields as far as the length allows. -/
theorem hear_payload {len : Byte} : ∀ (p : List Byte) (e : Engine), e.state = .receiving → e.rxLength = some len →
    e.rx.length + p.length ≤ len.toNat →
    p.foldl (hear now) (.goOn e) = .goOn { e with rx := e.rx ++ p }
  | [], e, _, _, _ => by
    rw [List.append_nil]
    rfl
  | d :: p, e, receives, later, room => by
    rw [List.length_cons] at room
    rw [List.foldl_cons, hear_goOn, onChar_payload receives (charFault_good d) later, if_pos (by omega),
      hear_payload p { e with rx := e.rx ++ [d] } receives later (by rw [List.length_append, List.length_singleton]; omega), List.append_assoc]
    rfl

/-- Fed its start byte, length and payload, an engine in AWAIT_START holds them all. -/
theorem hear_response {x : Txn} {p : List Byte} (awaits : e.state = .awaitStart) (flight : e.inFlight = some x)
    (whole : p.length = x.responseLength) : ([0x5A] ++ u8 p.length ++ p).foldl (hear now) (.goOn e) =
      .goOn { e with state := .receiving, timer := some (now + 50), rxLength := some (BitVec.ofNat 8 p.length), rx := p } := by
  have short := responseLength_lt x
  have length : (BitVec.ofNat 8 p.length).toNat = p.length := by
    rw [BitVec.toNat_ofNat]
    omega
  rw [List.foldl_append, List.foldl_append]
  have start : [0x5A].foldl (hear now) (.goOn e) =
      .goOn { e with state := .receiving, timer := some (now + 50), rxLength := none, rx := [] } :=
    (onChar_start awaits (charFault_good _)).trans (if_pos rfl)
  have sized : (u8 p.length).foldl (hear now)
      (.goOn { e with state := .receiving, timer := some (now + 50), rxLength := none, rx := [] }) =
      .goOn { e with state := .receiving, timer := some (now + 50), rxLength := some (BitVec.ofNat 8 p.length), rx := [] } :=
    (onChar_length (now := now) (e := { e with state := .receiving, timer := some (now + 50), rxLength := none, rx := [] }) rfl
      (charFault_good (BitVec.ofNat 8 p.length)) rfl flight).trans (if_neg (by dsimp only; omega))
  rw [start, sized, hear_payload p _ rfl rfl (by rw [length]; exact Nat.le_of_eq (Nat.zero_add _))]
  rfl

/-- Settles O25. -/
theorem responsesAreReceivedAndJudged : Obligations.ResponsesAreReceivedAndJudged := by
  refine ⟨fun x p => ?_, fun now x e p fit awaits flight => ?_, fun l c s high => ⟨fun awaits stopless => ?_,
    fun awaits stop odd => ?_, fun x receives first flight stop even long => ?_,
    fun x receives first flight stop even fit => ?_, fun x len receives later flight stop even =>
      ⟨fun more => ?_, fun full bad => ?_, fun full sum fit => ?_⟩, fun awaits stop even other => ?_,
    fun awaits stop even start => ?_, fun silent => ?_, fun quiet => ?_⟩⟩
  · unfold fits
    rw [Bool.and_eq_true, decide_eq_true_iff]
    cases x
    all_goals simp only [Bool.and_eq_true, decide_eq_true_iff, RunState.ofCode_isSome, and_assoc, Txn.responseLength]
  · refine ⟨_, hear_response awaits flight (fits_length fit), ?_⟩
    have short := responseLength_lt x
    have sums : sum8 (BitVec.ofNat 8 p.length :: p) + frameCheck p = 0 := frameCheck_sums p
    refine (onChar_payload rfl (charFault_good _) rfl).trans ?_
    rw [if_neg (by rw [BitVec.toNat_ofNat, fits_length fit, Nat.mod_eq_of_lt short]; exact Nat.lt_irrefl _)]
    dsimp only
    rw [flight, judgeFrame_eq, if_pos ⟨sums, fit⟩]
  · exact answersWhole high (character_failed (onChar_faulty awaits (charFault_stopless stopless)))
  · exact answersWhole high (character_failed (onChar_faulty awaits (charFault_odd stop odd)))
  · exact answersWhole high (character_failed
      ((onChar_length receives (charFault_even stop even) first flight).trans (if_pos long)))
  · exact answersWhole high (character_goOn
      ((onChar_length receives (charFault_even stop even) first flight).trans (if_neg (Nat.not_lt.mpr fit))))
  · exact answersWhole high (character_goOn
      ((onChar_payload receives (charFault_even stop even) later).trans (if_pos more)))
  · refine answersWhole high (character_failed
      ((onChar_payload receives (charFault_even stop even) later).trans ((if_neg (Nat.not_lt.mpr full)).trans ?_)))
    rw [flight, judgeFrame_eq, if_neg]
    rintro ⟨sum, fit⟩
    rcases bad with wrong | misfit
    · exact wrong ((sum8_cons ..).symm ▸ sum)
    · rw [fit] at misfit
      cases misfit
  · have done : (engineOf l s).onChar s.now c = .done (engineOf l s).rx := by
      refine (onChar_payload receives (charFault_even stop even) later).trans ((if_neg (Nat.not_lt.mpr full)).trans ?_)
      rw [flight, judgeFrame_eq, if_pos ⟨(sum8_cons ..).symm ▸ sum, fit⟩]
    refine answersWhole high ((character_done done flight).trans ?_)
    cases l <;> rfl
  · exact answersWhole high (character_goOn
      ((onChar_start awaits (charFault_even stop even)).trans (if_neg other)))
  · exact answersWhole high (character_goOn
      ((onChar_start awaits (charFault_even stop even)).trans (if_pos start)))
  · refine answersWhole high (character_goOn ?_)
    unfold Engine.onChar
    rcases silent with h | h
    all_goals simp only [h]
  · refine answersWhole high (character_goOn ?_)
    unfold Engine.onChar
    simp only [quiet]

end Sys2Proof.Machine

namespace Sys2Proof.Machine

variable {s t u : State} {o : Owner} {r : IdRead} {res : Except FailKind (List Byte × Byte)} {d : List Byte}
  {k : FailKind} {blade : Bool}

/-! ### The header checks (R44, Table 3-2) -/

/-- Check `i` of Table 3-2. -/
def headerTest (blade : Bool) (d : List Byte) : Nat → Bool
  | 1 => byteAt d 0 = 1
  | 2 => byteAt d 1 = if blade then 1 else 2
  | 3 => 1 ≤ headerCount d && headerCount d ≤ 12
  | 4 => xor8 d = 0
  | 5 => powerFieldsOk blade (headerPowerA d) (headerPowerB d)
  | 6 => !blade || headerCappable d || headerPowerB d = headerPowerA d
  | _ => true

/-- The header checks in their order. -/
theorem headerCheck_eq (blade : Bool) (d : List Byte) : headerCheck blade d =
    if !headerTest blade d 1 then some 1 else if !headerTest blade d 2 then some 2
    else if !headerTest blade d 3 then some 3 else if !headerTest blade d 4 then some 4
    else if !headerTest blade d 5 then some 5 else if !headerTest blade d 6 then some 6 else none := by
  unfold headerCheck headerTest
  refine ite_congr_of_iff (by simp) rfl (ite_congr_of_iff (by simp) rfl (ite_congr_of_iff ?_ rfl (ite_congr_of_iff (by simp) rfl
    (ite_congr_of_iff Iff.rfl rfl (ite_congr_of_iff ?_ rfl rfl)))))
  · simp only [Bool.or_eq_true, Bool.not_eq_true', Bool.and_eq_false_iff, decide_eq_true_iff, decide_eq_false_iff_not]
    omega
  · simp [Bool.and_eq_true, and_assoc]

theorem headerCheck_some {i : Nat} (fails : headerTest blade d i = false) (first : ∀ j < i, headerTest blade d j = true) :
    headerCheck blade d = some i := by
  rw [headerCheck_eq]
  match i with
  | 0 | _ + 7 => cases fails
  | 1 => rw [fails]; rfl
  | 2 => rw [fails, first 1 (by decide)]; rfl
  | 3 => rw [fails, first 1 (by decide), first 2 (by decide)]; rfl
  | 4 => rw [fails, first 1 (by decide), first 2 (by decide), first 3 (by decide)]; rfl
  | 5 => rw [fails, first 1 (by decide), first 2 (by decide), first 3 (by decide), first 4 (by decide)]; rfl
  | 6 =>
    rw [fails, first 1 (by decide), first 2 (by decide), first 3 (by decide), first 4 (by decide), first 5 (by decide)]
    rfl

theorem headerCheck_none (all : ∀ i, headerTest blade d i = true) : headerCheck blade d = none := by
  rw [headerCheck_eq, all, all, all, all, all, all]
  rfl

/-! ### The outcome of a block by the phase of the read (R45, R48, R49) -/

theorem blockOutcome_header (reads : readOf o s = some r) (phase : r.phase = .header) :
    blockOutcome o res s = headerOutcome o r (judgeBlock res) s := by
  unfold blockOutcome
  simp only [reads, phase]

theorem blockOutcome_pass1 (reads : readOf o s = some r) (phase : r.phase = .pass1) :
    blockOutcome o res s = pass1Outcome o r (judgeBlock res) s := by
  unfold blockOutcome
  simp only [reads, phase]

theorem blockOutcome_pass2 (reads : readOf o s = some r) (phase : r.phase = .pass2) :
    blockOutcome o res s = pass2Outcome o r (judgeBlock res) s := by
  unfold blockOutcome
  simp only [reads, phase]

/-- A read asks for a block. -/
def asks (o : Owner) (i : Nat) (r : IdRead) (s : State) : State := placeRequest o (some i) (setRead o (some r) s)

/-- What follows a block of pass 1: the next block, else the retry list, else the end. -/
def pass1Next (o : Owner) (r : IdRead) (retry : List Nat) (invalid : Nat) (s : State) : State :=
  let r := { r with nextBlock := r.nextBlock + 1, retry := retry, invalidCount := invalid }
  if r.nextBlock < r.blockCount.getD 0 then asks o r.nextBlock r s
  else match retry with
    | [] => readEnded o (storedState invalid) invalid s
    | j :: _ => asks o j { r with phase := .pass2 } s

theorem pass1Next_cases {n : Nat} (count : r.blockCount = some n) (retry : List Nat) (invalid : Nat) (s : State) :
    (r.nextBlock + 1 < n → pass1Next o r retry invalid s = asks o (r.nextBlock + 1)
      { r with nextBlock := r.nextBlock + 1, retry := retry, invalidCount := invalid } s) ∧
    (n ≤ r.nextBlock + 1 →
      (retry = [] → pass1Next o r retry invalid s = readEnded o (storedState invalid) invalid s) ∧
      (∀ j rest, retry = j :: rest → pass1Next o r retry invalid s = asks o j
        { r with phase := .pass2, nextBlock := r.nextBlock + 1, retry := retry, invalidCount := invalid } s)) := by
  unfold pass1Next
  simp only [count, Option.getD_some]
  refine ⟨fun more => if_pos more, fun last => ?_⟩
  rw [if_neg (Nat.not_lt.mpr last)]
  refine ⟨?_, ?_⟩
  · rintro rfl
    rfl
  · rintro j rest rfl
    rfl

theorem pass1Outcome_good : pass1Outcome o r (.ok d) s =
    pass1Next o r r.retry r.invalidCount (writeBlock o r.nextBlock (some d) s) := by
  unfold pass1Outcome
  rfl

theorem pass1Outcome_listed (room : r.retry.length < 8) :
    pass1Outcome o r (.error k) s = pass1Next o r (r.retry ++ [r.nextBlock]) r.invalidCount s := by
  unfold pass1Outcome
  simp only [if_pos room]
  rfl

theorem pass1Outcome_lost (full : 8 ≤ r.retry.length) :
    pass1Outcome o r (.error k) s =
      pass1Next o r r.retry (r.invalidCount + 1) (writeBlock o r.nextBlock none s) := by
  unfold pass1Outcome
  simp only [if_neg (Nat.not_lt.mpr full)]
  rfl

/-- What follows a block of pass 2: the rest of the retry list, else the end. -/
def pass2Next (o : Owner) (r : IdRead) (rest : List Nat) (invalid : Nat) (s : State) : State :=
  match rest with
  | [] => readEnded o (storedState invalid) invalid s
  | j :: _ => asks o j { r with retry := rest, invalidCount := invalid } s

theorem pass2Next_cases (rest : List Nat) (invalid : Nat) (s : State) :
    (rest = [] → pass2Next o r rest invalid s = readEnded o (storedState invalid) invalid s) ∧
    (∀ j more, rest = j :: more →
      pass2Next o r rest invalid s = asks o j { r with retry := rest, invalidCount := invalid } s) := by
  unfold pass2Next
  refine ⟨?_, ?_⟩
  · rintro rfl
    rfl
  · rintro j more rfl
    rfl

theorem pass2Outcome_good {i : Nat} {rest : List Nat} (retry : r.retry = i :: rest) :
    pass2Outcome o r (.ok d) s = pass2Next o r rest r.invalidCount (writeBlock o i (some d) s) := by
  unfold pass2Outcome
  simp only [retry]
  cases rest <;> rfl

theorem pass2Outcome_bad {i : Nat} {rest : List Nat} (retry : r.retry = i :: rest) :
    pass2Outcome o r (.error k) s = pass2Next o r rest (r.invalidCount + 1) (writeBlock o i none s) := by
  unfold pass2Outcome
  simp only [retry]
  cases rest <;> rfl

/-! ### A good header (R44, R46, R47) -/

/-- The owner is a blade. -/
def Owner.isBlade : Owner → Bool
  | .bay _ => true
  | .supply _ => false

theorem Owner.isBlade_iff : (∃ b, o = .bay b) ↔ o.isBlade = true := by
  cases o with
  | bay b => exact ⟨fun _ => rfl, fun _ => ⟨b, rfl⟩⟩
  | supply i => exact ⟨nofun, nofun⟩

/-- A header passes check `i`, as Table 3-2 states it. -/
def HeaderPasses (blade : Prop) (d : List Byte) (i : Nat) : Prop :=
  (i = 1 → byteAt d 0 = 1) ∧
  (i = 2 → (blade → byteAt d 1 = 1) ∧ (¬ blade → byteAt d 1 = 2)) ∧
  (i = 3 → 1 ≤ headerCount d ∧ headerCount d ≤ 12) ∧
  (i = 4 → xor8 d = 0) ∧
  (i = 5 → (blade → 50 ≤ headerPowerA d ∧ headerPowerA d ≤ 2000 ∧ 50 ≤ headerPowerB d ∧ headerPowerB d ≤ headerPowerA d) ∧
    (¬ blade → 100 ≤ headerPowerA d ∧ headerPowerA d ≤ 4000 ∧ 100 ≤ headerPowerB d ∧ headerPowerB d ≤ 4000)) ∧
  (i = 6 → blade → headerCappable d = false → headerPowerB d = headerPowerA d)

theorem headerTest_iff {p : Prop} (h : p ↔ blade = true) {i : Nat} : HeaderPasses p d i ↔ headerTest blade d i = true := by
  unfold HeaderPasses
  rw [h]
  match i with
  | 0 | 1 | 3 | 4 | _ + 7 => simp [headerTest]
  | 2 => cases blade <;> simp [headerTest]
  | 5 => cases blade <;> simp [headerTest, powerFieldsOk, and_assoc]
  | 6 =>
    simp only [headerTest]
    cases blade <;> cases headerCappable d <;> simp

theorem judgeHeader_failed {i : Nat} (fails : headerCheck o.isBlade d = some i) :
    judgeHeader o r d s = readFailed o .identFormat i s := by
  cases o with
  | bay b =>
    unfold judgeHeader
    simp only [show headerCheck true d = some i from fails]
  | supply j =>
    unfold judgeHeader
    simp only [show headerCheck false d = some i from fails]

theorem judgeHeader_hot {b : BayIx} (passes : headerCheck true d = none)
    (hot : (s.zone (s.bay b).settings.zone).settings.cooling2 < headerPowerB d) :
    judgeHeader (.bay b) r d s = readFailed (.bay b) .cannotFit (headerPowerB d) s := by
  unfold judgeHeader
  simp only [passes, if_pos hot]

theorem judgeHeader_accepted (passes : headerCheck o.isBlade d = none)
    (cool : ∀ b, o = .bay b → ¬ (s.zone (s.bay b).settings.zone).settings.cooling2 < headerPowerB d) :
    judgeHeader o r d s = acceptHeader o r d s := by
  cases o with
  | bay b =>
    unfold judgeHeader
    simp only [show headerCheck true d = none from passes, if_neg (cool b rfl)]
  | supply i =>
    unfold judgeHeader
    simp only [show headerCheck false d = none from passes]

theorem acceptHeader_refused (full : reserve o (headerCount d) (copyPowerFields o d s) = none) :
    acceptHeader o r d s = readEnded o .notStored r.invalidCount
      (raise .inventoryFull o.subject 0 (headerCount d) (copyPowerFields o d s)) := by
  unfold acceptHeader
  simp only [full]

theorem acceptHeader_stored (room : reserve o (headerCount d) (copyPowerFields o d s) = some u) :
    acceptHeader o r d s =
      if headerCount d = 1 then readEnded o .complete 0 (writeBlock o 0 (some d) u)
      else asks o 1 { r with phase := .pass1, blockCount := some (headerCount d), nextBlock := 1, stored := true }
        (writeBlock o 0 (some d) u) := by
  unfold acceptHeader
  simp only [room]
  rfl

/-- A header that passes every check and fits is accepted. -/
theorem blockOutcome_accepted (reads : readOf o s = some r) (phase : r.phase = .header) (good : judgeBlock res = .ok d)
    (all : ∀ i, HeaderPasses (∃ b, o = .bay b) d i)
    (fits : ¬ ∃ b, o = .bay b ∧ (s.zone (s.bay b).settings.zone).settings.cooling2 < headerPowerB d) :
    blockOutcome o res s = acceptHeader o { r with attempts := r.attempts + 1 } d s := by
  rw [blockOutcome_header reads phase, good]
  exact judgeHeader_accepted (headerCheck_none fun i => (headerTest_iff Owner.isBlade_iff).mp (all i))
    fun b owner hot => fits ⟨b, owner, hot⟩

/-! ### The ends of a read (R50) -/

theorem readFailed_bay {b : BayIx} (ident : (s.bay b).state = .ident) (cause : FaultCause) (data : Int) :
    readFailed (.bay b) cause data s =
      enterFault b cause (raise .bayIdentFailed (.bay b) cause.code data (setRead (.bay b) none s)) := by
  unfold readFailed
  refine if_pos ?_
  rw [State.bay, raise_bays]
  show ((s.modBay b fun y => { y with read := none }).bay b).state = .ident
  rw [State.modBay_bay_self]
  exact ident

theorem readEnded_bay {b : BayIx} (ident : (s.bay b).state = .ident) (st : RecordState) (invalid : Nat) :
    let told := raise .bayIdentified (.bay b) st.code invalid (setRecord (.bay b) (some st) (setRead (.bay b) none s))
    readEnded (.bay b) st invalid s =
      if (s.bay b).settings.autoPower = true then admissionPass (enterWaiting b told) else setState b .off told := by
  have kept : ((raise .bayIdentified (.bay b) st.code invalid
      (setRecord (.bay b) (some st) (setRead (.bay b) none s))).bay b) = { s.bay b with read := none, record := some st } := by
    rw [State.bay, raise_bays]
    show (((s.modBay b fun y => { y with read := none }).modBay b fun y => { y with record := some st }).bay b) = _
    rw [State.modBay_bay_self, State.modBay_bay_self]
  unfold readEnded
  dsimp only
  rw [kept]
  exact if_pos ident

/-- Settles O29. -/
theorem identityReadGoesBlockByBlock : Obligations.IdentityReadGoesBlockByBlock := by
  refine ⟨fun d check => ⟨fun good => if_pos good, fun bad => if_neg bad⟩, fun k => rfl, fun f => rfl, fun o res s =>
    ⟨fun idle => ?_, fun r k reads phase bad => ⟨fun zero => ?_, fun one => ?_⟩,
     fun r d reads phase good => ⟨fun i fails first => ?_, fun all low => ?_, fun all fits =>
      ⟨fun b owner => ?_, fun i owner => ?_, fun full => ?_, fun u room => ⟨fun single => ?_, fun several => ?_⟩⟩⟩,
     fun r n reads phase count => ⟨fun d good => ?_, fun k bad room => ?_, fun k bad full => ?_⟩,
     fun r i rest reads phase retry => ⟨fun d good => ?_, fun k bad => ?_⟩,
     fun cause data => ⟨fun b owner ident => ?_, fun i owner => ?_⟩,
     fun st invalid => ⟨fun b owner ident => ?_, fun i owner => ?_⟩⟩⟩
  · unfold blockOutcome
    rw [idle]
  · rw [blockOutcome_header reads phase, bad]
    unfold headerOutcome
    simp only [zero]
    rfl
  · rw [blockOutcome_header reads phase, bad]
    unfold headerOutcome
    simp only [one]
    rfl
  · rw [blockOutcome_header reads phase, good]
    refine judgeHeader_failed (headerCheck_some (i := i) ?_ fun j before => ?_)
    · exact Bool.not_eq_true _ ▸ mt (headerTest_iff Owner.isBlade_iff).mpr fails
    · exact (headerTest_iff Owner.isBlade_iff).mp (first j before)
  · rw [blockOutcome_header reads phase, good]
    obtain ⟨b, rfl, hot⟩ := low
    exact judgeHeader_hot (headerCheck_none fun i => (headerTest_iff Owner.isBlade_iff).mp (all i)) hot
  · subst owner
    rfl
  · subst owner
    rfl
  · exact (blockOutcome_accepted reads phase good all fits).trans (acceptHeader_refused full)
  · exact (blockOutcome_accepted reads phase good all fits).trans ((acceptHeader_stored room).trans (if_pos single))
  · exact (blockOutcome_accepted reads phase good all fits).trans
      ((acceptHeader_stored room).trans (if_neg (Nat.ne_of_gt several)))
  · rw [blockOutcome_pass1 reads phase, good, pass1Outcome_good]
    exact pass1Next_cases count ..
  · rw [blockOutcome_pass1 reads phase, bad, pass1Outcome_listed room]
    exact pass1Next_cases count ..
  · rw [blockOutcome_pass1 reads phase, bad, pass1Outcome_lost full]
    exact pass1Next_cases count ..
  · rw [blockOutcome_pass2 reads phase, good, pass2Outcome_good retry]
    exact pass2Next_cases ..
  · rw [blockOutcome_pass2 reads phase, bad, pass2Outcome_bad retry]
    exact pass2Next_cases ..
  · subst owner
    exact readFailed_bay ident cause data
  · subst owner
    rfl
  · subst owner
    exact readEnded_bay ident st invalid
  · subst owner
    unfold readEnded
    dsimp only
    refine congrArg (fun x => changeSupply i (if x = true then .active else .failed) _) ?_
    show (((s.modSupply i fun p => { p with read := none }).modSupply i fun p => { p with record := some st }).supply i).dcOk = _
    rw [State.modSupply_supply_self, State.modSupply_supply_self]

end Sys2Proof.Machine

namespace Sys2Proof.Machine

variable {s t u : State}

/-! ### Reading a record's body back (R174) -/

/-- A two-byte operand as a body gives it back. -/
def reread (x : BitVec 16) : BitVec 16 := wordAt (u16 x.toNat ++ []) 0

/-- A six-byte operand as a body gives it back. -/
def rereadAddr (a : Addr) : Addr := addrAt (u48 a.toNat ++ []) 0

theorem wordAt_u16_toNat (x : BitVec 16) (l : List Byte) : wordAt (u16 x.toNat ++ l) 0 = x :=
  (wordAt_u16 ..).trans (BitVec.ofNat_toNat ..)

theorem reread_eq (x : BitVec 16) : reread x = x := wordAt_u16_toNat ..

theorem rereadAddr_eq (a : Addr) : rereadAddr a = a := addrAt_u48 ..

theorem addrsAt_append_right {p : List Byte} {k : Nat} (h : p.length = k) (l : List Byte) (n : Nat) :
    ∀ i, addrsAt (p ++ l) (k + i) n = addrsAt l i n := by
  induction n with
  | zero => exact fun _ => rfl
  | succ n ih =>
    intro i
    rw [addrsAt, addrsAt, addrAt_append_right h, Nat.add_assoc, ih]

theorem addrsAt_flatMap : ∀ addrs : List Addr, addrsAt (addrs.flatMap fun a => u48 a.toNat) 0 addrs.length = addrs
  | [] => rfl
  | a :: rest => by
    rw [List.flatMap_cons, List.length_cons, addrsAt, addrAt_u48]
    exact congrArg (a :: ·) ((addrsAt_append_right (u48_length _) _ _ 0).trans (addrsAt_flatMap rest))

theorem pointsAt_append_right {p : List Byte} {k : Nat} (h : p.length = k) (l : List Byte) (n : Nat) :
    ∀ i, pointsAt (p ++ l) (k + i) n = pointsAt l i n := by
  induction n with
  | zero => exact fun _ => rfl
  | succ n ih =>
    intro i
    rw [pointsAt, pointsAt, wordAt_append_right h, Nat.add_assoc, Nat.add_assoc, wordAt_append_right h, ih]

/-- A point as a LOAD_CURVE body carries it. -/
def pointBytes (p : BitVec 16 × BitVec 16) : List Byte := u16 p.1.toNat ++ u16 p.2.toNat

theorem pointsAt_flatMap : ∀ points, pointsAt (points.flatMap pointBytes) 0 points.length = points
  | [] => rfl
  | p :: rest => by
    rw [List.flatMap_cons, List.length_cons, pointsAt]
    refine congr (congrArg _ (Prod.ext ?_ ?_)) ?_
    · exact (congrArg (wordAt · 0) (List.append_assoc ..)).trans (wordAt_u16_toNat ..)
    · refine (congrArg (wordAt · 2) (List.append_assoc ..)).trans ?_
      exact (wordAt_append_right (u16_length _) _ 0).trans (wordAt_u16_toNat ..)
    · exact (pointsAt_append_right (k := 4) rfl _ _ 0).trans (pointsAt_flatMap rest)

/-! ### The kinds and their bodies (Table 11-4) -/

/-- The code of a kind. -/
def Kind.code : Kind → Nat
  | .queryChassis => 0x01 | .setManagers => 0x02 | .clear => 0x03 | .queryBay => 0x10 | .setBay => 0x11
  | .bayAction => 0x12 | .readIdentity => 0x18 | .setSupply => 0x20 | .setPowerPolicy => 0x21
  | .queryPower => 0x22 | .setRamp => 0x28 | .setZone => 0x30 | .loadCurve => 0x31 | .setSensor => 0x32
  | .queryThermal => 0x33 | .setUplink => 0x40 | .setGroup => 0x41 | .addStation => 0x42
  | .removeStation => 0x43 | .readStations => 0x44 | .queryTraffic => 0x45 | .setWatch => 0x50
  | .setComposite => 0x51 | .armComposite => 0x52 | .queryWatch => 0x53 | .readEvents => 0x60
  | .readConditions => 0x61 | .ackCondition => 0x62 | .setEventLimit => 0x63

theorem kindCodes_code : ∀ p ∈ kindCodes, p.1 = p.2.code := by decide

theorem Kind.ofCode_code (k : Kind) : Kind.ofCode (BitVec.ofNat 8 k.code) = some k := by cases k <;> decide

theorem Kind.ofCode_iff {x : Byte} {k : Kind} : Kind.ofCode x = some k ↔ x.toNat = k.code := by
  constructor
  · intro h
    obtain ⟨p, found, rfl⟩ := Option.map_eq_some_iff.mp h
    have same := List.find?_some found
    rw [← kindCodes_code p (List.mem_of_find?_eq_some found)]
    exact (of_decide_eq_true same).symm
  · intro h
    rw [byte_eq_ofNat x, h, Kind.ofCode_code]

/-- The correct body length of a kind whose body carries a count. -/
def Kind.lengthAt (count : Nat) : Kind → Nat
  | .queryChassis | .queryPower | .queryThermal | .queryTraffic | .queryWatch | .readConditions => 0
  | .clear | .queryBay | .armComposite | .readEvents | .setEventLimit => 1
  | .bayAction | .ackCondition => 2
  | .readIdentity | .setSupply | .setGroup | .readStations => 4
  | .setPowerPolicy | .removeStation => 6
  | .setUplink | .addStation | .setComposite => 8
  | .setBay => 9
  | .setSensor => 12
  | .setRamp | .setWatch => 18
  | .setZone => 30
  | .setManagers => 4 + 6 * count
  | .loadCurve => 2 + 4 * count

theorem Kind.bodyLength_eq (k : Kind) (body : List Byte) : k.bodyLength body = k.lengthAt (byteAt body 1).toNat := by
  cases k <;> rfl

/-- The body length that Table 11-4 gives for a code. -/
def tableLength (count : Nat) (code : Nat) : Option Nat :=
  match code with
  | 0x01 | 0x22 | 0x33 | 0x45 | 0x53 | 0x61 => some 0
  | 0x03 | 0x10 | 0x52 | 0x60 | 0x63 => some 1
  | 0x12 | 0x62 => some 2
  | 0x18 | 0x20 | 0x41 | 0x44 => some 4
  | 0x21 | 0x43 => some 6
  | 0x40 | 0x42 | 0x51 => some 8
  | 0x11 => some 9
  | 0x32 => some 12
  | 0x28 | 0x50 => some 18
  | 0x30 => some 30
  | 0x02 => some (4 + 6 * count)
  | 0x31 => some (2 + 4 * count)
  | _ => none

theorem tableLength_code (count : Nat) (k : Kind) : tableLength count k.code = some (k.lengthAt count) := by
  cases k <;> rfl

/-- The table names no code but those of the kinds. -/
theorem tableLength_known {count code n : Nat} (h : tableLength count code = some n) :
    (kindCodes.find? fun p => p.1 = code).isSome = true := by
  unfold tableLength at h
  split at h
  case h_30 => cases h
  all_goals rfl

theorem Kind.tableLength_eq (x : Byte) (body : List Byte) : tableLength (byteAt body 1).toNat x.toNat =
    (Kind.ofCode x).map fun k => k.bodyLength body := by
  cases known : Kind.ofCode x with
  | some k => rw [Kind.ofCode_iff.mp known, tableLength_code, Option.map_some, Kind.bodyLength_eq]
  | none =>
    refine Option.eq_none_iff_forall_ne_some.mpr fun n listed => ?_
    have found := tableLength_known listed
    rw [Option.map_eq_none_iff.mp known] at found
    cases found

/-! ### A record executed (R174) -/

variable {r : Record} {room : Nat} {k : Kind}

theorem execute_unknown (unknown : Kind.ofCode r.kind = none) : r.execute room s = answer .badKind [] s := by
  unfold Record.execute
  simp only [unknown]

theorem execute_known (known : Kind.ofCode r.kind = some k) : r.execute room s =
    if r.body.length = k.bodyLength r.body then k.run r.body room s else answer .badLength [] s := by
  unfold Record.execute
  simp only [known]

theorem execute_misfit (known : Kind.ofCode r.kind = some k) (misfit : r.body.length ≠ k.bodyLength r.body) :
    r.execute room s = answer .badLength [] s := (execute_known known).trans (if_neg misfit)

theorem execute_run (known : Kind.ofCode r.kind = some k) (whole : r.body.length = k.bodyLength r.body) :
    r.execute room s = k.run r.body room s := (execute_known known).trans (if_pos whole)

variable {f : State → State} {code : Byte} {body : List Byte} {tag : BitVec 16}

/-- A record does what its kind's command does. -/
theorem record_does (k : Kind) (known : Kind.ofCode code = some k) (whole : body.length = k.bodyLength body)
    (does : k.run body room s = f s) : (⟨code, tag, body⟩ : Record).execute room s = f s :=
  (execute_run (r := ⟨code, tag, body⟩) known whole).trans does

/-- A command that its record gives. -/
theorem command_is (high : s.porstLow = false) (does : (⟨code, tag, body⟩ : Record).execute room s = f s) :
    gated s f = .next ((⟨code, tag, body⟩ : Record).execute room s) :=
  (gated_high high f).trans (congrArg Host.Outcome.next does.symm)

/-- A command that makes the change of its record whole. -/
theorem command_changes (high : s.porstLow = false) (does : (⟨code, tag, body⟩ : Record).execute room s = f s) :
    gated s (change f) = .next (change ((⟨code, tag, body⟩ : Record).execute room) s) :=
  (gated_high high _).trans (congrArg (fun u => Host.Outcome.next (promptAttention s (settle u))) does.symm)

end Sys2Proof.Machine

namespace Sys2Proof.Machine

variable {s t u : State} {tag : BitVec 16} {room : Nat}

/-! ### What each record does (Table 11-4) -/

theorem setSupply_record (supply reserved : Byte) (w : BitVec 16) :
    (⟨0x20, tag, [supply, reserved] ++ u16 w.toNat⟩ : Record).execute room s = cmdSetSupply supply w s := by
  refine record_does (f := cmdSetSupply supply w) .setSupply rfl rfl ?_
  show cmdSetSupply supply (reread w) s = _
  rw [reread_eq]

theorem setPowerPolicy_record (sel mode : Byte) (overhead time : BitVec 16) :
    (⟨0x21, tag, [sel, mode] ++ u16 overhead.toNat ++ u16 time.toNat⟩ : Record).execute room s =
      cmdSetPowerPolicy sel mode overhead time s := by
  refine record_does (f := cmdSetPowerPolicy sel mode overhead time) .setPowerPolicy rfl rfl ?_
  show cmdSetPowerPolicy sel mode (reread overhead) (reread time) s = _
  rw [reread_eq, reread_eq]

theorem setRamp_record (sel reserved : Byte) (c0 c1 c2 c3 ramp settle stop grace : BitVec 16) :
    (⟨0x28, tag, [sel, reserved] ++ u16 c0.toNat ++ u16 c1.toNat ++ u16 c2.toNat ++ u16 c3.toNat ++ u16 ramp.toNat ++
      u16 settle.toNat ++ u16 stop.toNat ++ u16 grace.toNat⟩ : Record).execute room s =
      cmdSetRamp sel c0 c1 c2 c3 ramp settle stop grace s := by
  refine record_does (f := cmdSetRamp sel c0 c1 c2 c3 ramp settle stop grace) .setRamp rfl rfl ?_
  show cmdSetRamp sel (reread c0) (reread c1) (reread c2) (reread c3) (reread ramp) (reread settle) (reread stop)
    (reread grace) s = _
  simp only [reread_eq]

theorem wordAt_flatMap (words : List (BitVec 16)) : ∀ i,
    wordAt (words.flatMap fun w => u16 w.toNat) (2 * i) = words.getD i 0 := by
  induction words with
  | nil =>
    intro i
    simp [wordAt, byteAt]
  | cons w words ih =>
    intro i
    rw [List.flatMap_cons]
    cases i with
    | zero => exact wordAt_u16_toNat ..
    | succ i =>
      rw [Nat.mul_succ, Nat.add_comm, wordAt_append_right (u16_length _), ih]
      rfl

/-- Word `i` of a body of words after its first two bytes. -/
theorem operand_eq (x y : Byte) (words : List (BitVec 16)) (i : Nat) :
    wordAt ([x, y] ++ words.flatMap fun w => u16 w.toNat) (2 + 2 * i) = words.getD i 0 :=
  (wordAt_append_right (p := [x, y]) rfl _ _).trans (wordAt_flatMap ..)

/-- The operands of SET_ZONE after its index, in the order of its body. -/
def zoneOperands (sel : BitVec 16) (v : ZoneValues) : List (BitVec 16) :=
  [sel, v.cooling0, v.cooling1, v.cooling2, v.critLimit, v.minDuty, v.failsafe, v.missingDuty, v.feedforward,
   v.slewUp, v.slewDown, v.period, v.controlPeriod, v.stall]

theorem zoneOperands_read (zone reserved : Byte) (sel : BitVec 16) (v : ZoneValues) :
    wordAt ([zone, reserved] ++ (zoneOperands sel v).flatMap fun w => u16 w.toNat) 2 = sel ∧
    zoneValuesAt ([zone, reserved] ++ (zoneOperands sel v).flatMap fun w => u16 w.toNat) 4 = v := by
  have read := operand_eq zone reserved (zoneOperands sel v)
  refine ⟨read 0, ?_⟩
  rw [zoneValuesAt, read 1, read 2, read 3, read 4, read 5, read 6, read 7, read 8, read 9, read 10, read 11, read 12,
    read 13]
  rfl

theorem setZone_record (zone reserved : Byte) (sel : BitVec 16) (v : ZoneValues) :
    (⟨0x30, tag, [zone, reserved] ++ u16 sel.toNat ++ u16 v.cooling0.toNat ++ u16 v.cooling1.toNat ++
      u16 v.cooling2.toNat ++ u16 v.critLimit.toNat ++ u16 v.minDuty.toNat ++ u16 v.failsafe.toNat ++
      u16 v.missingDuty.toNat ++ u16 v.feedforward.toNat ++ u16 v.slewUp.toNat ++ u16 v.slewDown.toNat ++
      u16 v.period.toNat ++ u16 v.controlPeriod.toNat ++ u16 v.stall.toNat⟩ : Record).execute room s =
      cmdSetZone zone sel v s := by
  obtain ⟨selRead, valuesRead⟩ := zoneOperands_read zone reserved sel v
  refine (congrArg (fun body => (⟨0x30, tag, body⟩ : Record).execute room s) ?_).trans
    (record_does (f := cmdSetZone zone sel v) (body := [zone, reserved] ++ (zoneOperands sel v).flatMap fun w =>
      u16 w.toNat) .setZone rfl rfl ?_)
  · simp only [zoneOperands, List.flatMap_cons, List.flatMap_nil, List.append_assoc, List.append_nil]
  · rw [Kind.run, selRead, valuesRead]
    rfl

theorem setSensor_record (chan sel zone enabled : Byte) (gain offset warn crit : BitVec 16) :
    (⟨0x32, tag, [chan, sel] ++ u16 gain.toNat ++ u16 offset.toNat ++ [zone] ++ u16 warn.toNat ++ u16 crit.toNat ++
      [enabled]⟩ : Record).execute room s = cmdSetSensor chan sel gain offset zone warn crit enabled s := by
  refine record_does (f := cmdSetSensor chan sel gain offset zone warn crit enabled) .setSensor rfl rfl ?_
  show cmdSetSensor chan sel (reread gain) (reread offset) zone (reread warn) (reread crit) enabled s = _
  simp only [reread_eq]

theorem setUplink_record (uplink sel trusted reserved : Byte) (hold aging : BitVec 16) :
    (⟨0x40, tag, [uplink, sel, trusted, reserved] ++ u16 hold.toNat ++ u16 aging.toNat⟩ : Record).execute room s =
      cmdSetUplink uplink sel trusted hold aging s := by
  refine record_does (f := cmdSetUplink uplink sel trusted hold aging) .setUplink rfl rfl ?_
  show cmdSetUplink uplink sel trusted (reread hold) (reread aging) s = _
  rw [reread_eq, reread_eq]

theorem setGroup_record (group reserved : Byte) (value : BitVec 16) :
    (⟨0x41, tag, [group, reserved] ++ u16 value.toNat⟩ : Record).execute room s = cmdSetGroup group value s := by
  refine record_does (f := cmdSetGroup group value) .setGroup rfl rfl ?_
  show cmdSetGroup group (reread value) s = _
  rw [reread_eq]

theorem addStation_record (a : Addr) (bay reserved : Byte) :
    (⟨0x42, tag, u48 a.toNat ++ [bay, reserved]⟩ : Record).execute room s = cmdAddStation a bay s := by
  refine record_does (f := cmdAddStation a bay) .addStation rfl rfl ?_
  show cmdAddStation (rereadAddr a) bay s = _
  rw [rereadAddr_eq]

theorem removeStation_record (a : Addr) :
    (⟨0x43, tag, u48 a.toNat⟩ : Record).execute room s = cmdRemoveStation a s := by
  refine record_does (f := cmdRemoveStation a) .removeStation rfl rfl ?_
  show cmdRemoveStation (rereadAddr a) s = _
  rw [rereadAddr_eq]

theorem readStations_record (first count : BitVec 16) :
    (⟨0x44, tag, u16 first.toNat ++ u16 count.toNat⟩ : Record).execute room s = cmdReadStations first count room s := by
  refine record_does (f := cmdReadStations first count room) .readStations rfl rfl ?_
  show cmdReadStations (reread first) (reread count) room s = _
  rw [reread_eq, reread_eq]

theorem setWatch_record (unit selector negate direction enabled reserved : Byte) (lo hi : Addr) :
    (⟨0x50, tag, [unit, selector, negate, direction, enabled, reserved] ++ u48 lo.toNat ++ u48 hi.toNat⟩ :
      Record).execute room s = cmdSetWatch unit selector negate direction enabled lo hi s := by
  refine record_does (f := cmdSetWatch unit selector negate direction enabled lo hi) .setWatch rfl rfl ?_
  show cmdSetWatch unit selector negate direction enabled (rereadAddr lo) (rereadAddr hi) s = _
  rw [rereadAddr_eq, rereadAddr_eq]

theorem setComposite_record (comp mask mode drop copy reserved : Byte) (threshold : BitVec 16) :
    (⟨0x51, tag, [comp, mask, mode, drop, copy, reserved] ++ u16 threshold.toNat⟩ : Record).execute room s =
      cmdSetComposite comp mask mode drop copy threshold s := by
  refine record_does (f := cmdSetComposite comp mask mode drop copy threshold) .setComposite rfl rfl ?_
  show cmdSetComposite comp mask mode drop copy (reread threshold) s = _
  rw [reread_eq]

/-! ### The two kinds whose bodies are lists -/

theorem flatMap_length {α : Type} {f : α → List Byte} {n : Nat} (each : ∀ x, (f x).length = n) (l : List α) :
    (l.flatMap f).length = n * l.length := by
  rw [List.length_flatMap, List.map_congr_left fun x _ => each x, List.map_const', List.sum_replicate_nat, Nat.mul_comm]

/-- A list that disagrees with its count makes a body of the wrong length. -/
theorem setManagers_record (sel count : Byte) (timeout : BitVec 16) (addrs : List Addr) :
    (⟨0x02, tag, [sel, count] ++ u16 timeout.toNat ++ addrs.flatMap fun a => u48 a.toNat⟩ : Record).execute room s =
      cmdSetManagers sel count timeout addrs s := by
  have length : ([sel, count] ++ u16 timeout.toNat ++ addrs.flatMap fun a => u48 a.toNat).length =
      4 + 6 * addrs.length := by
    rw [List.length_append, flatMap_length fun a : Addr => u48_length a.toNat]
    rfl
  by_cases agree : addrs.length = count.toNat
  · refine record_does (f := cmdSetManagers sel count timeout addrs) .setManagers rfl ?_ ?_
    · rw [length, agree]
      rfl
    · show cmdSetManagers sel count (reread timeout) (addrsAt ([sel, count] ++ u16 timeout.toNat ++ addrs.flatMap _)
        (4 + 0) count.toNat) s = _
      rw [reread_eq, addrsAt_append_right (p := [sel, count] ++ u16 timeout.toNat) (k := 4) rfl, ← agree, addrsAt_flatMap]
  · refine (execute_misfit (k := .setManagers) rfl fun whole => agree ?_).trans (if_pos agree).symm
    have lengths := length.symm.trans whole
    exact Nat.eq_of_mul_eq_mul_left (by decide) (Nat.add_left_cancel lengths)

theorem loadCurve_record (zone count : Byte) (points : List (BitVec 16 × BitVec 16)) :
    (⟨0x31, tag, [zone, count] ++ points.flatMap pointBytes⟩ : Record).execute room s =
      cmdLoadCurve zone count points s := by
  have length : ([zone, count] ++ points.flatMap pointBytes).length = 2 + 4 * points.length := by
    rw [List.length_append, flatMap_length fun p => show (pointBytes p).length = 4 from rfl]
    rfl
  by_cases agree : points.length = count.toNat
  · refine record_does (f := cmdLoadCurve zone count points) .loadCurve rfl ?_ ?_
    · rw [length, agree]
      rfl
    · show cmdLoadCurve zone count (pointsAt ([zone, count] ++ points.flatMap pointBytes) (2 + 0) count.toNat) s = _
      rw [pointsAt_append_right (p := [zone, count]) (k := 2) rfl, ← agree, pointsAt_flatMap]
  · refine (execute_misfit (k := .loadCurve) rfl fun whole => agree ?_).trans (if_pos agree).symm
    have lengths := length.symm.trans whole
    exact Nat.eq_of_mul_eq_mul_left (by decide) (Nat.add_left_cancel lengths)

/-! ### CLEAR takes its scopes together (R181) -/

theorem scopes_masked (scopes : Byte) : u8 (scopes.toNat % 8) = [scopes &&& 7] := by
  refine congrArg (fun x => [x]) (BitVec.eq_of_toNat_eq ?_)
  rw [BitVec.toNat_ofNat, BitVec.toNat_and]
  have masked : scopes.toNat &&& 7 = scopes.toNat % 8 := Nat.and_two_pow_sub_one_eq_mod scopes.toNat 3
  have small := scopes.isLt
  show scopes.toNat % 8 % 256 = scopes.toNat &&& 7
  omega

theorem clear_record (scopes : Byte) : (⟨0x03, tag, [scopes]⟩ : Record).execute room s = cmdClear scopes s :=
  record_does (f := cmdClear scopes) .clear rfl rfl rfl

theorem cmdClear_eq (scopes : Byte) (s : State) : cmdClear scopes s =
    let stations := if scopes.getLsbD 0 then clearStations s else s
    let counters := if scopes.getLsbD 1 then clearCounters stations else stations
    answer .ok [scopes &&& 7] (if scopes.getLsbD 2 then clearEvents counters else counters) :=
  congrArg (fun body => answer .ok body _) (scopes_masked scopes)

end Sys2Proof.Machine

namespace Sys2Proof.Machine

variable {s t u : State} {c : ControlFrame} {x : Execution} {r : Record} {a : Answer}

/-! ### The header of a control frame (R172, R173) -/

theorem agentTurn_idle (idle : s.agent.execution = none) (empty : s.agent.queue = []) : agentTurn s = s := by
  unfold agentTurn
  simp only [idle, empty]

theorem agentTurn_begins (idle : s.agent.execution = none) {rest : List ControlFrame}
    (queue : s.agent.queue = c :: rest) :
    agentTurn s = beginFrame c { s with agent := { s.agent with queue := rest } } := by
  unfold agentTurn
  simp only [idle, queue]

theorem agentTurn_runs (executing : s.agent.execution = some x) : agentTurn s = runRecord x s := by
  unfold agentTurn
  simp only [executing]

theorem beginFrame_short (short : (framePayload c.frame).length < 8) : beginFrame c s = respond c true 0 0 [] s :=
  if_pos short

theorem beginFrame_long (long : 8 ≤ (framePayload c.frame).length) : beginFrame c s =
    if byteAt (framePayload c.frame) 0 ≠ 1 ∨ byteAt (framePayload c.frame) 6 = 0 ∨
        32 < (byteAt (framePayload c.frame) 6).toNat then
      respond c true (wordAt (framePayload c.frame) 4) 0 [] s
    else runRecord ⟨c, 8, 0, []⟩ { s with agent := { s.agent with execution := some ⟨c, 8, 0, []⟩ } } := by
  unfold beginFrame
  refine (if_neg (Nat.not_lt.mpr long)).trans (ite_congr_of_iff ?_ rfl rfl)
  rw [Bool.or_eq_true, Bool.or_eq_true, decide_eq_true_iff, decide_eq_true_iff, decide_eq_true_iff, or_assoc]
  exact or_congr_right (or_congr_left ⟨fun h => BitVec.eq_of_toNat_eq h, fun h => congrArg BitVec.toNat h⟩)

/-! ### The turn of a frame in execution (R172, R174, R176) -/

theorem runRecord_past (past : recordAt (framePayload x.control.frame) x.offset = none) : runRecord x s = finish x s := by
  unfold runRecord
  simp only [past]

theorem runRecord_cramped (here : recordAt (framePayload x.control.frame) x.offset = some r)
    (cramped : 1500 < x.records.length + r.smallest + 14) : runRecord x s = finish x s := by
  unfold runRecord
  simp only [here]
  exact if_pos (by omega)

/-- A record whose smallest response has room. -/
theorem runRecord_roomy (here : recordAt (framePayload x.control.frame) x.offset = some r)
    (answered : (change (r.execute (1500 - 8 - x.records.length - 6)) s).answer = some a)
    (roomy : x.records.length + r.smallest + 14 ≤ 1500) : runRecord x s =
      if 1500 < x.records.length + a.body.length + 14 then finish x s
      else afterRecord (x.next r a) a.status (change (r.execute (1500 - 8 - x.records.length - 6)) s) := by
  unfold runRecord
  simp only [here, answered]
  rw [if_neg (by omega)]
  exact ite_congr_of_iff (by omega) rfl rfl

theorem runRecord_overfull (here : recordAt (framePayload x.control.frame) x.offset = some r)
    (answered : (change (r.execute (1500 - 8 - x.records.length - 6)) s).answer = some a)
    (overfull : 1500 < x.records.length + a.body.length + 14) : runRecord x s = finish x s := by
  by_cases roomy : x.records.length + r.smallest + 14 ≤ 1500
  · exact (runRecord_roomy here answered roomy).trans (if_pos overfull)
  · exact runRecord_cramped here (Nat.not_le.mp roomy)

theorem Status.stops_iff (st : Status) : st.stops = true ↔ st ≠ .ok ∧ st ≠ .clamped ∧ st ≠ .truncated := by
  cases st <;> decide

theorem afterRecord_eq (x : Execution) (st : Status) (s : State) : afterRecord x st s =
    if x.answered = (byteAt (framePayload x.control.frame) 6).toNat ∨
        ((byteAt (framePayload x.control.frame) 2).getLsbD 0 = true ∧ st ≠ .ok ∧ st ≠ .clamped ∧ st ≠ .truncated) then
      finish x s
    else { s with agent := { s.agent with execution := some x } } := by
  refine ite_congr_of_iff ?_ rfl rfl
  rw [Bool.or_eq_true, Bool.and_eq_true, Status.stops_iff, decide_eq_true_iff]
  rfl

theorem Execution.next_eq (x : Execution) (r : Record) (a : Answer) : x.next r a =
    { x with
      offset := x.offset + 6 + r.body.length, answered := x.answered + 1
      records := x.records ++ [r.kind, BitVec.ofNat 8 a.status.code] ++ u16 r.tag.toNat ++
        u16 a.body.length ++ a.body } := by
  unfold Execution.next Record.response
  simp only [List.append_assoc, u8]
  rfl

/-! ### The response frame (R173, R177, R194) -/

theorem agentFrame_tagWord (dst src : Addr) (v : BitVec 12) (payload : List Byte) :
    wordAt (agentFrame dst src (some v) payload) 14 = v.setWidth 16 := by
  have word : wordAt (agentFrame dst src (some v) payload) 14 = BitVec.ofNat 16 v.toNat :=
    ((agentFrame_wordAt dst src (some v) payload 2).trans
      (wordAt_append_right (p := [0x81#8, 0x00#8]) (k := 2) rfl _ 0)).trans (wordAt_u16 ..)
  exact word.trans (BitVec.ofNat_toNat ..)

theorem stationAddr_eq (straps : BitVec 4) : stationAddr straps = 0x024F56000000#48 ||| straps.setWidth 48 := by
  revert straps
  decide

theorem respond_frame (c : ControlFrame) (bad : Bool) (sequence : BitVec 16) (n : Nat) (records : List Byte) (s : State) :
    respond c bad sequence n records s = transmit c.uplink
      (agentFrame (frameSrc c.frame) (stationAddr s.agent.straps) (frameTag c.frame)
        ([1, 1, 0] ++ flag bad ++ u16 sequence.toNat ++ u8 n ++ u8 0 ++ records))
      { s with agent := { s.agent with execution := none } } := rfl

/-- Settles O58. -/
theorem agentTakesItsTurn : Obligations.AgentTakesItsTurn := by
  refine ⟨fun s high idle => ⟨fun empty => ?_, fun c rest queue => ⟨fun short => ?_, fun long bad => ?_,
      fun long version one most => ?_⟩⟩,
    fun c bad sequence n records s => ⟨_, agentFrame_dst .., (agentFrame_src ..).trans (stationAddr_eq _),
      agentFrame_tag .., fun v tagged => ?_, agentFrame_type .., ?_, fun up => transmit_up _ _ _ up,
      fun down => transmit_down _ _ _ down⟩,
    fun p at_ => ?_, fun r room s => ⟨execute_unknown, fun k known misfit => execute_misfit known misfit,
      fun k known whole => execute_run known whole⟩,
    fun r room s => ⟨fun unlisted => execute_unknown ?_, fun n listed misfit => ?_⟩, ?_,
    fun scopes tag room s => (clear_record scopes).trans (cmdClear_eq scopes s), fun x s high executing => ?_⟩
  · exact (gated_high high _).trans (congrArg Host.Outcome.next (agentTurn_idle idle empty))
  · exact (gated_high high _).trans (congrArg Host.Outcome.next ((agentTurn_begins idle queue).trans
      (beginFrame_short short)))
  · exact (gated_high high _).trans (congrArg Host.Outcome.next ((agentTurn_begins idle queue).trans
      ((beginFrame_long long).trans (if_pos bad))))
  · refine (gated_high high _).trans (congrArg Host.Outcome.next ((agentTurn_begins idle queue).trans
      ((beginFrame_long long).trans (if_neg ?_))))
    rintro (other | none | many)
    · exact other version
    · rw [none] at one
      exact absurd one (by decide)
    · exact absurd many (Nat.not_lt.mpr most)
  · rw [tagged]
    exact agentFrame_tagWord ..
  · refine (agentFrame_payload ..).trans ?_
    have length : ([1, 1, 0] ++ flag bad ++ u16 sequence.toNat ++ u8 n ++ u8 0 ++ records).length = 8 + records.length := by
      rw [List.length_append]
      cases bad <;> rfl
    rw [length, show 46 - (8 + records.length) = 38 - records.length by omega]
    cases bad <;> rfl
  · unfold recordAt
    refine ite_congr_of_iff ?_ rfl rfl
    rw [Bool.and_eq_true, decide_eq_true_iff, decide_eq_true_iff]
  · exact Option.map_eq_none_iff.mp ((Kind.tableLength_eq r.kind r.body).symm.trans unlisted)
  · obtain ⟨k, known, rfl⟩ := Option.map_eq_some_iff.mp ((Kind.tableLength_eq r.kind r.body).symm.trans listed)
    exact execute_misfit known misfit
  · intro c tag reserved room s high
    cases c with
    | queryChassis => exact command_is high (record_does (f := cmdQueryChassis) .queryChassis rfl rfl rfl)
    | setManagers sel count timeout addrs => exact command_is high (setManagers_record sel count timeout addrs)
    | clearStations => exact command_is high (clear_record 1)
    | clearCounters => exact command_is high (clear_record 2)
    | clearEvents => exact command_is high (clear_record 4)
    | queryBay bay => exact command_is high (record_does (f := cmdQueryBay bay) .queryBay rfl rfl rfl)
    | setBay bay sel priority autoPower pressToStart zone primary alternate group =>
      exact command_changes high (record_does
        (f := cmdSetBay bay sel priority autoPower pressToStart zone primary alternate group) .setBay rfl rfl rfl)
    | bayActionOn bay => exact command_changes high (record_does (f := onBay bay actOn) .bayAction rfl rfl rfl)
    | bayActionStop bay => exact command_changes high (record_does (f := onBay bay actStop) .bayAction rfl rfl rfl)
    | bayActionForceOff bay => exact command_changes high (record_does (f := onBay bay actForceOff) .bayAction rfl rfl rfl)
    | bayActionClearFault bay =>
      exact command_changes high (record_does (f := onBay bay actClearFault) .bayAction rfl rfl rfl)
    | bayActionRecheck bay => exact command_changes high (record_does (f := onBay bay actRecheck) .bayAction rfl rfl rfl)
    | readIdentity cls index first count =>
      exact command_is high (record_does (f := cmdReadIdentity cls index first count 1486) .readIdentity rfl rfl rfl)
    | setSupply supply w => exact command_changes high (setSupply_record supply reserved w)
    | setPowerPolicy sel mode overhead time => exact command_changes high (setPowerPolicy_record sel mode overhead time)
    | queryPower => exact command_is high (record_does (f := cmdQueryPower) .queryPower rfl rfl rfl)
    | setRamp sel c0 c1 c2 c3 ramp settle stop grace =>
      exact command_is high (setRamp_record sel reserved c0 c1 c2 c3 ramp settle stop grace)
    | setZone zone sel v => exact command_changes high (setZone_record zone reserved sel v)
    | loadCurve zone count points => exact command_is high (loadCurve_record zone count points)
    | setSensor chan sel gain offset zone warn crit enabled =>
      exact command_changes high (setSensor_record chan sel zone enabled gain offset warn crit)
    | queryThermal => exact command_is high (record_does (f := cmdQueryThermal) .queryThermal rfl rfl rfl)
    | setUplink uplink sel trusted hold aging =>
      exact command_is high (setUplink_record uplink sel trusted reserved hold aging)
    | setGroup group value => exact command_is high (setGroup_record group reserved value)
    | addStation a bay => exact command_is high (addStation_record a bay reserved)
    | removeStation a => exact command_is high (removeStation_record a)
    | readStations first count => exact command_is high (readStations_record first count)
    | queryTraffic => exact command_is high (record_does (f := cmdQueryTraffic) .queryTraffic rfl rfl rfl)
    | setWatch unit selector negate direction enabled lo hi =>
      exact command_is high (setWatch_record unit selector negate direction enabled reserved lo hi)
    | setComposite comp mask mode drop copy threshold =>
      exact command_is high (setComposite_record comp mask mode drop copy reserved threshold)
    | armComposite comp => exact command_is high (record_does (f := cmdArmComposite comp) .armComposite rfl rfl rfl)
    | queryWatch => exact command_is high (record_does (f := cmdQueryWatch) .queryWatch rfl rfl rfl)
    | readEvents count => exact command_is high (record_does (f := cmdReadEvents count 1486) .readEvents rfl rfl rfl)
    | readConditions =>
      exact command_is high (record_does (f := cmdReadConditions 1486) .readConditions rfl rfl rfl)
    | ackCondition kind index =>
      exact command_is high (record_does (f := cmdAckCondition kind index) .ackCondition rfl rfl rfl)
    | setEventLimit limit => exact command_is high (record_does (f := cmdSetEventLimit limit) .setEventLimit rfl rfl rfl)
    | _ => trivial
  · have turn : exec .controlFrameExecution s = .next (runRecord x s) :=
      (gated_high high _).trans (congrArg Host.Outcome.next (agentTurn_runs executing))
    refine ⟨fun past => turn.trans (congrArg Host.Outcome.next (runRecord_past past)), fun r here =>
      ⟨fun cramped => turn.trans (congrArg Host.Outcome.next (runRecord_cramped here cramped)), fun a t did answered => ?_⟩⟩
    subst did
    refine ⟨fun overfull => turn.trans (congrArg Host.Outcome.next (runRecord_overfull here answered overfull)),
      fun roomy fits => ?_⟩
    have after := (runRecord_roomy here answered roomy).trans (if_neg (Nat.not_lt.mpr fits))
    rw [afterRecord_eq, Execution.next_eq] at after
    exact ⟨fun more => turn.trans (congrArg Host.Outcome.next (after.trans (if_neg more))),
      fun last => turn.trans (congrArg Host.Outcome.next (after.trans (if_pos last)))⟩

end Sys2Proof.Machine

namespace Sys2Proof.Machine

variable {s t u : State}

/-! ### The link timers (R25 to R28, R36, R40) -/

/-- Settles O26. -/
theorem linkTimersAct : Obligations.LinkTimersAct := by
  refine fun s high => ⟨fun l sending => ?_, fun l d awaits timer => answersWhole high ?_,
    fun l d receives timer => answersWhole high ?_, fun l d q quiet timer silence => answersWhole high ?_,
    fun b d forwards timer => answersWhole high ?_, answersWhole high rfl⟩
  · refine (gated_high high _).trans (congrArg Host.Outcome.next ?_)
    exact congrArg (setEngine l · s) (if_pos sending)
  · unfold responseExpiry
    simp only [awaits, timer]
  · unfold windowExpiry
    simp only [receives, timer]
    rfl
  · unfold quietOver
    dsimp only
    rw [if_pos quiet, timer, silence]
    rfl
  · unfold pollExpiry
    simp only [timer]
    exact if_pos forwards

/-! ### The tag of a frame that goes up (R134, R137) -/

variable {f : Frame} {v : Nat}

theorem frameWhole_addresses (whole : frameWhole f = true) : 12 ≤ f.length := by
  have long := of_decide_eq_true whole
  split at long <;> omega

theorem insertTag_eq (f : Frame) (v : Nat) : insertTag v f = f.take 12 ++ (tagBytes v ++ f.drop 12) :=
  List.append_assoc ..

theorem take_addresses (long : 12 ≤ f.length) : (f.take 12).length = 12 := by
  rw [List.length_take]
  omega

theorem insertTag_wordAt (long : 12 ≤ f.length) (v i : Nat) :
    wordAt (insertTag v f) (12 + i) = wordAt (tagBytes v ++ f.drop 12) i := by
  rw [insertTag_eq]
  exact wordAt_append_right (take_addresses long) _ i

theorem insertTag_tagged (long : 12 ≤ f.length) (v : Nat) : frameTagged (insertTag v f) = true := by
  rw [frameTagged, insertTag_wordAt long v 0]
  exact congrArg (· == 0x8100#16) (wordAt_u16 0x8100 (u16 v ++ f.drop 12))

theorem insertTag_tag (long : 12 ≤ f.length) (v : Nat) : frameTag (insertTag v f) = some (BitVec.ofNat 12 v) := by
  have word : wordAt (insertTag v f) 14 = BitVec.ofNat 16 v :=
    ((insertTag_wordAt long v 2).trans (wordAt_append_right (p := [0x81#8, 0x00#8]) (k := 2) rfl _ 0)).trans
      (wordAt_u16 ..)
  rw [frameTag, insertTag_tagged long, word, if_pos rfl]
  refine congrArg some (BitVec.eq_of_toNat_eq ?_)
  rw [BitVec.toNat_setWidth, BitVec.toNat_ofNat, BitVec.toNat_ofNat]
  omega

theorem insertTag_strip (long : 12 ≤ f.length) (v : Nat) : stripTag (insertTag v f) = f := by
  rw [stripTag, insertTag_tagged long, if_pos rfl, insertTag_eq, List.take_left' (take_addresses long),
    show (16 : Nat) = 12 + 4 from rfl, ← List.drop_drop, List.drop_left' (take_addresses long),
    List.drop_left' (show (tagBytes v).length = 4 from rfl), List.take_append_drop]

theorem insertTag_length (long : 12 ≤ f.length) (v : Nat) : (insertTag v f).length = f.length + 4 := by
  rw [insertTag_eq, List.length_append, take_addresses long, List.length_append, List.length_drop,
    show (tagBytes v).length = 4 from rfl]
  omega

/-! ### Upstream (R136) -/

variable {b : BayIx} {w : UplinkIx}

/-- A whole frame on a bay port, counted. -/
def countedUp (b : BayIx) (s : State) : State := s.countBay b fun c => { c with framesUp := sat32 c.framesUp }

theorem countedUp_bay (b : BayIx) (s : State) : ((countedUp b s).bay b).state = (s.bay b).state ∧
    ((countedUp b s).bay b).activeUplink = (s.bay b).activeUplink := by
  unfold countedUp State.countBay
  rw [State.modBay_bay_self]
  exact ⟨rfl, rfl⟩

theorem bayFrame_blocked (whole : frameWhole f = true) (blocked : (s.bay b).state.forwarding = false) :
    bayFrame b f s = (countedUp b s).countBay b fun c => { c with blocked := sat32 c.blocked } := by
  obtain ⟨state, -⟩ := countedUp_bay b s
  have barred : (!((countedUp b s).bay b).state.forwarding) = true := by rw [state, blocked]; rfl
  unfold countedUp at barred
  unfold bayFrame countedUp
  simp only [whole, barred]
  rfl

/-- A whole frame of a forwarding bay. -/
theorem bayFrame_forwarded (whole : frameWhole f = true) (forwards : (s.bay b).state.forwarding = true) :
    (((s.bay b).activeUplink = none →
      bayFrame b f s = (countedUp b s).countBay b fun c => { c with noUplink := sat32 c.noUplink })) ∧
    ((s.bay b).activeUplink = some w → bayFrame b f s =
      if frameTagged f = true then (countedUp b s).countBay b fun c => { c with tagViolation := sat32 c.tagViolation }
      else sendUp b w f (countedUp b s)) := by
  obtain ⟨state, active⟩ := countedUp_bay b s
  have unblocked : (!((countedUp b s).bay b).state.forwarding) = false := by rw [state, forwards]; rfl
  unfold countedUp at unblocked active
  unfold bayFrame countedUp
  refine ⟨fun none => ?_, fun some => ?_⟩
  · rw [none] at active
    simp only [whole, unblocked, active]
    rfl
  · rw [some] at active
    simp only [whole, unblocked, active]
    rfl

theorem sendUp_eq (b : BayIx) (w : UplinkIx) (f : Frame) (s : State) : sendUp b w f s =
    let v := watch (upstreamFields b w f s) f s
    let l := learn b (frameSrc f) v.2
    if v.1 then v.2.countBay b fun c => { c with watchDrop := sat32 c.watchDrop }
    else if l.1 then l.2.countBay b fun c => { c with stationConflict := sat32 c.stationConflict }
    else transmit w (upstreamFrame b f l.2) l.2 := by
  unfold sendUp
  dsimp only
  rcases watch (upstreamFields b w f s) f s with ⟨_ | _, t⟩
  · dsimp only
    rcases learn b (frameSrc f) t with ⟨_ | _, u⟩ <;> rfl
  · rfl

/-- Settles O48. -/
theorem upstreamChecksInOrder : Obligations.UpstreamChecksInOrder := by
  refine fun b f s high whole => ⟨fun blocked => answersWhole high (bayFrame_blocked whole blocked),
    fun forwards none => answersWhole high ((bayFrame_forwarded (w := 0) whole forwards).1 none),
    fun w forwards active tagged => answersWhole high (((bayFrame_forwarded whole forwards).2 active).trans (if_pos tagged)),
    fun w forwards active untagged => answersWhole high (((bayFrame_forwarded whole forwards).2 active).trans
      ((if_neg (by rw [untagged]; exact nofun)).trans (sendUp_eq ..))),
    ⟨fun zero => if_pos zero, fun nonzero low => ?_⟩,
    fun w g => ⟨transmit_up w g s, transmit_down w g s⟩⟩
  have long := frameWhole_addresses whole
  have tagged : upstreamFrame b f s = insertTag (s.groups.get (s.bay b).settings.group) f := if_neg nonzero
  rw [tagged]
  exact ⟨rfl, insertTag_length long _, insertTag_tag long _, insertTag_strip long _⟩

end Sys2Proof.Machine

namespace Sys2Proof.Machine

variable {s t u : State} {b : BayIx}

/-! ### BAY_ACTION (R15 to R19) -/

theorem onBay_known (act : BayIx → State → State) (b : BayIx) (s : State) :
    onBay (BitVec.ofNat 8 b.val) act s = act b s := by
  unfold onBay
  rw [toIx_byte (by decide)]

theorem onBay_beyond {n : Byte} (beyond : 13 < n.toNat) (act : BayIx → State → State) (s : State) :
    onBay n act s = answer .outOfRange [] s := by
  unfold onBay
  rw [toIx_of_le beyond]

theorem answerState_eq (st : Status) {was : BayState} (h : (s.bay b).state = was) :
    answerState st b s = answer st (u8 was.code) s := by
  rw [answerState, h]

/-- A blade identified anew answers IDENT. -/
theorem reidentify_answer (b : BayIx) (s : State) :
    answerState .ok b (reidentify b s) = answer .ok [2] (enterIdent b (releaseRecord (.bay b) s)) :=
  answerState_eq .ok (was := .ident) (by rw [reidentify, enterIdent_bay_self]; rfl)

theorem cmdBayAction_unknown {n code : Byte} (unknown : 4 < code.toNat) (index : n.toNat = b.val) :
    cmdBayAction n code s = answer .badValue (u8 (s.bay b).state.code) s := by
  have other : ∀ x : Byte, x.toNat ≤ 4 → code ≠ x := by
    rintro x low rfl
    omega
  unfold cmdBayAction
  rw [if_neg (other 0 (by decide)), if_neg (other 1 (by decide)), if_neg (other 2 (by decide)),
    if_neg (other 3 (by decide)), if_neg (other 4 (by decide)), onBay, toIx_eq_some.mpr index]
  rfl

theorem enterStopping_bay_self (b : BayIx) (s : State) : (enterStopping b s).bay b =
    { (s.bay b).enter .stopping s.now with
      deadline := some (s.now + s.ramp.stopTimeout * 1000), capTimer := none, lastDecided := none
      link := { (s.bay b).link with pendingStop := true } } := by
  unfold enterStopping
  rw [State.modBay_bay_self, setState_bay_self]
  rfl

theorem enterStopping_bay_ne {c : BayIx} (other : c ≠ b) (s : State) : (enterStopping b s).bay c = s.bay c := by
  unfold enterStopping
  rw [State.modBay_bay_ne _ other, setState_bay_ne _ other]

/-- Settles O23. -/
theorem bayActionByState : Obligations.BayActionByState := by
  refine ⟨fun s high => ⟨fun n beyond => ⟨answersWhole high (onBay_beyond beyond _ s),
      answersWhole high (onBay_beyond beyond _ s), answersWhole high (onBay_beyond beyond _ s)⟩, fun b => ⟨?_, ?_, ?_⟩⟩,
    fun s high => ⟨fun n beyond => ⟨answersWhole high (onBay_beyond beyond _ s),
      answersWhole high (onBay_beyond beyond _ s)⟩, fun b => ⟨?_, ?_⟩⟩,
    fun b s => ⟨⟨?_, ?_, fun c other => enterStopping_bay_ne other s, rfl⟩,
      ⟨⟨1, ?_⟩, (BayFrame.enterIdent b s).others, rfl⟩⟩,
    fun tag n room s high => ⟨?_, ?_, ?_, ?_, ?_, fun code b unknown index => ?_⟩⟩
  · refine answersWhole high ((onBay_known actOn b s).trans ?_)
    unfold actOn
    cases was : (s.bay b).state
    case off => simp only [answerState, turnOn, if_pos was]
    all_goals exact answerState_eq _ was
  · refine answersWhole high ((onBay_known actClearFault b s).trans ?_)
    unfold actClearFault
    cases was : (s.bay b).state
    case fault => exact reidentify_answer ..
    all_goals exact answerState_eq _ was
  · refine answersWhole high ((onBay_known actRecheck b s).trans ?_)
    unfold actRecheck
    cases was : (s.bay b).state
    case off | fault => exact reidentify_answer ..
    all_goals exact answerState_eq _ was
  · refine answersWhole high ((onBay_known actStop b s).trans ?_)
    unfold actStop
    cases was : (s.bay b).state
    case waiting | admitted | powering | online | shedding =>
      simp only [answerState, stopBay, was, waitingToOff, admittedToOff]
    all_goals exact answerState_eq _ was
  · refine answersWhole high ((onBay_known actForceOff b s).trans ?_)
    unfold actForceOff
    cases was : (s.bay b).state
    case waiting | admitted | powering | online | stopping | shedding =>
      simp only [answerState, forceOff, was, waitingToOff, admittedToOff]
    all_goals exact answerState_eq _ was
  · rw [enterStopping_bay_self]
    rfl
  · intro online
    rw [enterStopping_bay_self]
    refine if_neg ?_
    rw [online]
    decide
  · rw [enterIdent_bay_self]
    rfl
  · exact command_changes high (record_does (f := onBay n actOn) .bayAction rfl rfl rfl)
  · exact command_changes high (record_does (f := onBay n actStop) .bayAction rfl rfl rfl)
  · exact command_changes high (record_does (f := onBay n actForceOff) .bayAction rfl rfl rfl)
  · exact command_changes high (record_does (f := onBay n actClearFault) .bayAction rfl rfl rfl)
  · exact command_changes high (record_does (f := onBay n actRecheck) .bayAction rfl rfl rfl)
  · exact (record_does (f := cmdBayAction n code) .bayAction rfl rfl rfl).trans (cmdBayAction_unknown unknown index)

end Sys2Proof.Machine

namespace Sys2Proof.Machine

variable {s t u : State} {b : BayIx}

/-! ### Presence samples (R10 to R12) -/

theorem samplePresence_bay (b : BayIx) (p : Bool) (s : State) :
    (s.modBay b (Bay.samplePresence p)).bay b = (s.bay b).samplePresence p := State.modBay_bay_self ..

theorem presence_empty (was : (s.bay b).state = .empty) (p : Bool) : presence b p s =
    if p = true then setState b .settling ((s.modBay b (Bay.samplePresence p)).modBay b fun y => { y with presentRun := 1 })
    else s.modBay b (Bay.samplePresence p) := by
  unfold presence
  simp only [samplePresence_bay, Bay.samplePresence, was]

theorem presence_settling (was : (s.bay b).state = .settling) (p : Bool) : presence b p s =
    if p = true then
      if 20 ≤ ((s.bay b).samplePresence p).presentRun then
        raise .bayInserted (.bay b) 0 0 (enterIdent b (s.modBay b (Bay.samplePresence p)))
      else s.modBay b (Bay.samplePresence p)
    else enterEmpty b (s.modBay b (Bay.samplePresence p)) := by
  unfold presence
  dsimp only
  rw [samplePresence_bay]
  simp only [show ((s.bay b).samplePresence p).state = .settling from was]

theorem presence_later (notEmpty : (s.bay b).state ≠ .empty) (notSettling : (s.bay b).state ≠ .settling) (p : Bool) :
    presence b p s = if 2 ≤ ((s.bay b).samplePresence p).absentRun then removeBlade b (s.modBay b (Bay.samplePresence p))
      else s.modBay b (Bay.samplePresence p) := by
  have state : ((s.bay b).samplePresence p).state = (s.bay b).state := rfl
  unfold presence
  dsimp only
  rw [samplePresence_bay, state]
  cases was : (s.bay b).state
  case empty => exact absurd was notEmpty
  case settling => exact absurd was notSettling
  all_goals rfl

/-! ### The attention button (R13, R14) -/

/-- The part with a bay's attention button as given. -/
def attend (b : BayIx) (a : Attention) (s : State) : State := s.modBay b fun y => { y with attention := a }

theorem attend_bay_self (b : BayIx) (a : Attention) (s : State) :
    (attend b a s).bay b = { s.bay b with attention := a } := State.modBay_bay_self ..

theorem attend_attend (b : BayIx) (x y : Attention) (s : State) : attend b x (attend b y s) = attend b x s :=
  State.modBay_modBay ..

theorem attend_eq {a : Attention} (f : Attention → Attention) (h : (s.bay b).attention = a) :
    (s.modBay b fun y => { y with attention := f y.attention }) = attend b (f a) s := by
  subst h
  exact State.modBay_congr rfl

theorem holdDue_iff {held : Nat} : holdDue held = true ↔ ∃ k, held = 4000 + 2000 * k := by
  unfold holdDue
  rw [Bool.and_eq_true, decide_eq_true_iff, decide_eq_true_iff]
  exact ⟨fun ⟨late, whole⟩ => ⟨(held - 4000) / 2000, by omega⟩, fun ⟨k, at_⟩ => by omega⟩

theorem standby_iff {st : BayState} : st.standby = true ↔ st ≠ .empty ∧ st ≠ .settling := by
  cases st <;> decide

theorem attention_dark (dark : (s.bay b).state = .empty ∨ (s.bay b).state = .settling) (p : Bool) :
    attention b p s = s := by
  refine if_pos ?_
  rw [Bool.not_eq_true', ← Bool.not_eq_true, standby_iff]
  rintro ⟨notEmpty, notSettling⟩
  exact dark.elim notEmpty notSettling

/-- A sample in the released condition. -/
theorem attention_released (notEmpty : (s.bay b).state ≠ .empty) (notSettling : (s.bay b).state ≠ .settling)
    (released : (s.bay b).attention.pressed = false) (p : Bool) : attention b p s =
      let a := (s.bay b).attention.sample p
      if 3 ≤ a.pressedRun then attentionPress b (attend b a s) else attend b a s := by
  unfold attention
  rw [standby_iff.mpr ⟨notEmpty, notSettling⟩, attend_eq (Attention.sample p) rfl]
  dsimp only
  rw [attend_bay_self]
  dsimp only
  rw [show ((s.bay b).attention.sample p).pressed = false from released]
  rfl

/-- A sample in the pressed condition. -/
theorem attention_pressed (notEmpty : (s.bay b).state ≠ .empty) (notSettling : (s.bay b).state ≠ .settling)
    (pressed : (s.bay b).attention.pressed = true) (p : Bool) : attention b p s =
      let a := { (s.bay b).attention.sample p with timeHeld := (s.bay b).attention.timeHeld + 10 }
      let held := if holdDue a.timeHeld = true then attentionHold b (attend b a s) else attend b a s
      if 3 ≤ a.releasedRun then attentionRelease b held else held := by
  unfold attention
  rw [standby_iff.mpr ⟨notEmpty, notSettling⟩, attend_eq (Attention.sample p) rfl]
  dsimp only
  rw [attend_bay_self]
  dsimp only
  rw [attend_eq (b := b) (a := (s.bay b).attention.sample p) (fun a =>
      { a with timeHeld := ((s.bay b).attention.sample p).timeHeld + 10 }) (by rw [attend_bay_self]),
    attend_attend, show ((s.bay b).attention.sample p).pressed = true from pressed]
  rfl

theorem stopBay_online (online : (s.bay b).state = .online) : stopBay b s = enterStopping b s := by
  unfold stopBay
  rw [online]

theorem forceOff_forwarding (forwards : (s.bay b).state.forwarding = true) :
    forceOff b s = powerOffToOff b offForced s := by
  unfold forceOff
  cases was : (s.bay b).state
  case online | stopping | shedding => rfl
  all_goals exact absurd forwards (by rw [was]; decide)

/-- A press, from a button in the released condition. -/
theorem attentionPress_eq (a : Attention) (b : BayIx) (s : State) : attentionPress b (attend b a s) =
    let t := raise .attnPress (.bay b) 0 (s.bay b).state.code (attend b { a with pressed := true, timeHeld := 0 } s)
    if (s.bay b).state = .off ∧ (s.bay b).settings.pressToStart = true then admissionPass (enterWaiting b t) else t := by
  unfold attentionPress turnOn
  rw [attend_eq (b := b) (a := a) (fun a => { a with pressed := true, timeHeld := 0 }) (by rw [attend_bay_self]),
    attend_attend]
  dsimp only
  rw [raise_bay, attend_bay_self]
  dsimp only
  by_cases off : (s.bay b).state = .off
  · rw [if_pos off]
    exact ite_congr_of_iff (by simp [off]) rfl rfl
  · rw [if_neg off, ite_self, if_neg fun h => off h.1]

/-- A hold, from a button in the pressed condition. -/
theorem attentionHold_eq (a : Attention) (b : BayIx) (s : State) : attentionHold b (attend b a s) =
    let n := min (a.holdCount + 1) 255
    let t := raise .attnHold (.bay b) 0 n (attend b { a with holdCount := n } s)
    if n = 1 ∧ (s.bay b).state = .online then enterStopping b t
    else if n = 2 ∧ (s.bay b).state.forwarding = true then powerOffToOff b offForced t
    else t := by
  unfold attentionHold
  dsimp only
  rw [attend_bay_self]
  dsimp only
  rw [attend_eq (b := b) (a := a) (fun x => { x with holdCount := min (a.holdCount + 1) 255 }) (by rw [attend_bay_self]),
    attend_attend, raise_bay, attend_bay_self]
  dsimp only
  simp only [Bool.and_eq_true, decide_eq_true_iff]
  have bay : ∀ a : Attention, ∀ n : Nat, (raise .attnHold (.bay b) 0 n (attend b a s)).bay b = { s.bay b with attention := a } :=
    fun a n => by rw [raise_bay, attend_bay_self]
  split
  next first => rw [stopBay_online (by rw [bay]; exact first.2)]
  next =>
    split
    next second => rw [forceOff_forwarding (by rw [bay]; exact second.2)]
    next => rfl

theorem attentionRelease_eq {a : Attention} (h : (t.bay b).attention = a) : attentionRelease b t =
    attend b { a with pressed := false, timeHeld := 0, holdCount := 0 } t :=
  attend_eq (fun a => { a with pressed := false, timeHeld := 0, holdCount := 0 }) h

/-- What a hold does leaves the button. -/
theorem powerOffToOff_attention (b : BayIx) (detail : Nat) (s : State) :
    ((powerOffToOff b detail s).bay b).attention = (s.bay b).attention := by
  unfold powerOffToOff
  rw [((admissionPass_step _).kept b).attention, State.bay, raise_bays]
  show ((setState b .off (powerOff b s)).bay b).attention = _
  rw [setState_bay_self, powerOff_bay_self]
  rfl

theorem attentionHold_attention (a : Attention) (b : BayIx) (s : State) :
    ((attentionHold b (attend b a s)).bay b).attention = { a with holdCount := min (a.holdCount + 1) 255 } := by
  have told : ∀ n : Nat, ((raise .attnHold (.bay b) 0 n (attend b { a with holdCount := min (a.holdCount + 1) 255 } s)).bay
      b).attention = { a with holdCount := min (a.holdCount + 1) 255 } := fun n => by rw [raise_bay, attend_bay_self]
  rw [attentionHold_eq]
  dsimp only
  split
  · rw [enterStopping_bay_self]
    exact told _
  · split
    · rw [powerOffToOff_attention]
      exact told _
    · exact told _

theorem held_attention {a : Attention} (held : a.pressed = true) (p : Bool) (time count : Nat) :
    ({ a.sample p with timeHeld := time, holdCount := count } : Attention) =
      ⟨if p = true then a.pressedRun + 1 else 0, if p = true then 0 else a.releasedRun + 1, true, time, count⟩ := by
  simp only [held, Attention.sample]

theorem release_iff {a : Attention} {p : Bool} :
    3 ≤ (a.sample p).releasedRun ↔ p = false ∧ 3 ≤ if p = true then 0 else a.releasedRun + 1 := by
  cases p <;> simp [Attention.sample]

/-- Settles O21. -/
theorem baySamplesAct : Obligations.BaySamplesAct := by
  refine ⟨fun b s high => ⟨fun was => ⟨?_, ?_⟩, fun was => ⟨?_, fun few => ?_, fun many => ?_⟩,
      fun notEmpty notSettling => ⟨?_, fun first => ?_, fun again => ?_⟩⟩,
    fun b p s high => ⟨fun dark => answersWhole high (attention_dark dark p), fun notEmpty notSettling free =>
      ⟨fun short => ?_, fun down long => ?_⟩, fun notEmpty notSettling held =>
      ⟨fun early goesOn => ?_, fun early ends => ?_, fun due => ⟨fun goesOn => ?_, fun ends => ?_⟩⟩⟩⟩
  · refine answersWhole high ((presence_empty was true).trans ?_)
    rw [if_pos rfl, State.modBay_modBay]
    rfl
  · exact answersWhole high (presence_empty was false)
  · exact answersWhole high (presence_settling was false)
  · exact answersWhole high ((presence_settling was true).trans (if_neg (Nat.not_le.mpr few)))
  · exact answersWhole high ((presence_settling was true).trans (if_pos many))
  · exact answersWhole high ((presence_later notEmpty notSettling true).trans (if_neg (Nat.not_le.mpr Nat.two_pos)))
  · refine answersWhole high ((presence_later notEmpty notSettling false).trans (if_neg ?_))
    exact Nat.not_le.mpr (by rw [show ((s.bay b).samplePresence false).absentRun = (s.bay b).absentRun + 1 from rfl, first]; decide)
  · exact answersWhole high ((presence_later notEmpty notSettling false).trans (if_pos (Nat.succ_le_succ again)))
  · refine answersWhole high ((attention_released notEmpty notSettling free p).trans (if_neg ?_))
    rcases short with rfl | few
    · exact Nat.not_le.mpr (Nat.zero_lt_succ 2)
    · exact Nat.not_le.mpr few
  · exact answersWhole high ((attention_released notEmpty notSettling free p).trans
      ((if_pos long).trans (attentionPress_eq ..)))
  · refine answersWhole high ((attention_pressed notEmpty notSettling held p).trans ?_)
    dsimp only
    rw [if_neg (mt holdDue_iff.mp early), if_neg (mt release_iff.mp goesOn)]
    rfl
  · refine answersWhole high ((attention_pressed notEmpty notSettling held p).trans ?_)
    dsimp only
    rw [if_neg (mt holdDue_iff.mp early), if_pos (release_iff.mpr ends), attentionRelease_eq (by rw [attend_bay_self]),
      attend_attend]
    rfl
  · refine answersWhole high ((attention_pressed notEmpty notSettling held p).trans ?_)
    dsimp only
    rw [if_pos (holdDue_iff.mpr due), if_neg (mt release_iff.mp goesOn), attentionHold_eq]
    dsimp only
    rw [held_attention held]
    rfl
  · refine answersWhole high ((attention_pressed notEmpty notSettling held p).trans ?_)
    dsimp only
    rw [if_pos (holdDue_iff.mpr due), if_pos (release_iff.mpr ends),
      attentionRelease_eq (attentionHold_attention ..), attentionHold_eq]
    dsimp only
    rw [held_attention held]
    rfl

end Sys2Proof.Machine

namespace Sys2Proof.Machine

variable {s t u : State} {b : BayIx}

/-! ### What a failed transaction leads to (R28, R32, R38) -/

theorem Sticky.set_eq (f : Sticky) (k : FailKind) : f.set k = ⟨f.parity || decide (k = .parity),
    f.framing || decide (k = .framing), f.overrun || decide (k = .overrun), f.noResponse || decide (k = .noResponse),
    f.badCheck || decide (k = .badCheck)⟩ := by
  cases k <;> simp [Sticky.set]

theorem failBayTxn_eq {x : Txn} (flight : (s.bay b).link.engine.inFlight = some x) (k : FailKind) (next : Engine) :
    failBayTxn b k next s = bayTxnFailed b x (s.bay b).link.engine.stale k
      (s.modBay b fun y => { y with sticky := y.sticky.set k, link := { y.link with engine := next } }) := by
  unfold failBayTxn
  simp only [flight]

theorem modLink_bay_self (b : BayIx) (f : BayLink → BayLink) (s : State) :
    (s.modLink b f).bay b = { s.bay b with link := f (s.bay b).link } := State.modBay_bay_self ..

/-- A failed poll of the polled period: the count, and what it makes of the link. -/
theorem pollFailed_eq (b : BayIx) (k : FailKind) (s : State) : pollFailed b k s =
    let n := min ((s.bay b).link.failedPolls + 1) 3
    let counted := s.modLink b fun l => { l with failedPolls := n }
    if (s.bay b).linkLost = true then counted.modBay b fun y => { y with inlet := none }
    else if n = 3 then raise .linkLost (.bay b) k.code 0 (counted.modBay b fun y => { y with linkLost := true, inlet := none })
    else counted := by
  unfold pollFailed
  dsimp only
  rw [modLink_bay_self]

theorem capFailed_eq (b : BayIx) (level : Nat) (retried : Bool) (s : State) : capFailed b level retried s =
    if (s.bay b).state ≠ .online ∨ (s.bay b).link.slot ≠ none then s
    else if retried = true ∨ (s.bay b).linkLost = true then capFailure b level s
    else s.modLink b fun l => { l with slot := some ⟨level, true⟩ } := by
  unfold capFailed
  simp only [Bool.or_eq_true, decide_eq_true_iff, Option.isSome_iff_ne_none]

theorem bayTxnFailed_poll (b : BayIx) (stale : Bool) (k : FailKind) (s : State) : bayTxnFailed b .status stale k s =
    if stale = true ∨ (s.bay b).state.forwarding = false then s else pollFailed b k s :=
  ite_congr_of_iff (by rw [Bool.or_eq_true, Bool.not_eq_true']) rfl rfl

theorem capFailure_eq (b : BayIx) (level : Nat) (s : State) : capFailure b level s =
    if (s.bay b).lastDecided = some level ∧ (s.bay b).state = .online then shedPass (shedOnlineBay shedCapFailure b s)
    else s := by
  unfold capFailure shedForCap
  by_cases decided : (s.bay b).lastDecided = some level
  · rw [if_pos decided]
    exact ite_congr_of_iff (by simp [decided]) rfl rfl
  · rw [if_neg decided, if_neg fun h => decided h.1]

/-! ### What a successful transaction leads to (R32, R37, R38) -/

theorem powerOffToOff_state (b : BayIx) (detail : Nat) (s : State) :
    ((powerOffToOff b detail s).bay b).state = .off := by
  have state : ((toOff b detail s).bay b).state = .off := by rw [(toOff_exited b detail s).bay]
  have kept := (admissionPass_keeps (toOff b detail s) (b := b) (by rw [state]; decide) (by rw [state]; decide)).1
  exact (congrArg Bay.state kept).trans state

/-- READY_OFF ends a stop or a shed. -/
theorem readyOff_ends (b : BayIx) (s : State) : endShed b offReady (endStop b offReady s) =
    if (s.bay b).state = .stopping then powerOffToOff b offReady s else endShed b offReady s := by
  unfold endStop
  split
  · refine if_neg ?_
    rw [powerOffToOff_state]
    decide
  · rfl

/-- The part after a successful poll of the polled period, before READY_OFF is looked at. -/
def polled (b : BayIx) (s : State) : State :=
  let cleared := s.modLink b fun l => { l with failedPolls := 0 }
  if (s.bay b).linkLost = true then
    raise .linkRestored (.bay b) 0 0 (cleared.modBay b fun y => { y with linkLost := false })
  else cleared

/-- What a poll reports, stored. -/
def reported (b : BayIx) (run : RunState) (inlet : Option Int) (cap : Nat) (s : State) : State :=
  s.modBay b fun y => { y with runState := some run, inlet := inlet, applied := some cap }

theorem reported_bay_self (b : BayIx) (run : RunState) (inlet : Option Int) (cap : Nat) (s : State) :
    (reported b run inlet cap s).bay b = { s.bay b with runState := some run, inlet := inlet, applied := some cap } :=
  State.modBay_bay_self ..

theorem polled_bay_self (b : BayIx) (s : State) : (polled b s).bay b =
    { s.bay b with linkLost := false, link := { (s.bay b).link with failedPolls := 0 } } := by
  unfold polled
  dsimp only
  split
  · rw [raise_bay, State.modBay_bay_self, modLink_bay_self]
  next found =>
    rw [modLink_bay_self, ← eq_false_of_ne_true found]

theorem pollSucceeded_eq (notIdent : (s.bay b).state ≠ .ident) (stale : Bool) (run : RunState) (inlet : Option Int)
    (cap : Nat) : pollSucceeded b stale run inlet cap s =
    if stale = true ∨ (s.bay b).state.forwarding = false then reported b run inlet cap s
    else if run = .readyOff then endShed b offReady (endStop b offReady (polled b (reported b run inlet cap s)))
    else polled b (reported b run inlet cap s) := by
  unfold pollSucceeded
  rw [if_neg notIdent]
  have bay := reported_bay_self b run inlet cap s
  unfold reported at bay ⊢
  unfold polled
  dsimp only
  rw [modLink_bay_self, bay]
  exact ite_congr_of_iff (by rw [Bool.or_eq_true, Bool.not_eq_true']) rfl rfl

theorem capAcknowledged_eq (b : BayIx) (stale : Bool) (level applied : Nat) (s : State) :
    capAcknowledged b stale level applied s =
      let stored := s.modBay b fun y => { y with applied := some applied }
      if level < applied then if stale = true then stored else capFailure b level stored
      else if (s.bay b).lastDecided = some level then stored.modBay b fun y => { y with capTimer := none }
      else stored := by
  unfold capAcknowledged
  dsimp only
  rw [State.modBay_bay_self]

theorem RunState.ofCode_code (r : RunState) : RunState.ofCode (BitVec.ofNat 8 r.code) = some r := by
  cases r <;> decide

theorem bayTxnDone_poll {p : List Byte} {r : RunState} (code : byteAt p 1 = BitVec.ofNat 8 r.code) (b : BayIx) (stale : Bool)
    (s : State) : bayTxnDone b .status stale p s =
      pollSucceeded b stale r (inletReading (byteAt p 2)) (wordAt p 3).toNat s := by
  unfold bayTxnDone
  simp only [code, RunState.ofCode_code]

theorem polled_reported (b : BayIx) (run : RunState) (inlet : Option Int) (cap : Nat) (s : State) :
    polled b (reported b run inlet cap s) =
      let cleared := (reported b run inlet cap s).modLink b fun l => { l with failedPolls := 0 }
      if (s.bay b).linkLost = true then
        raise .linkRestored (.bay b) 0 0 (cleared.modBay b fun y => { y with linkLost := false })
      else cleared := by
  unfold polled
  rw [reported_bay_self]

/-- A poll of the polled period that is not stale. -/
theorem polls_on {stale forwarding : Bool} (fresh : stale = false) (forwards : forwarding = true) :
    ¬ (stale = true ∨ forwarding = false) := by
  rw [fresh, forwards]
  decide

theorem notIdent_of_forwarding {st : BayState} (forwards : st.forwarding = true) : st ≠ .ident := by
  rintro rfl
  cases forwards

/-- What READY_OFF makes of a bay that a poll of the polled period has reached. -/
theorem polled_readyOff (b : BayIx) (run : RunState) (inlet : Option Int) (cap : Nat) (s : State) :
    let kept := polled b (reported b run inlet cap s)
    endShed b offReady (endStop b offReady kept) =
      if (s.bay b).state = .stopping then powerOffToOff b offReady kept
      else if (s.bay b).state = .shedding then
        if (s.bay b).settings.autoPower = true ∧ (s.bay b).stopRequested = false then
          admissionPass (enterWaiting b (powerOff b kept))
        else powerOffToOff b offReady kept
      else kept := by
  dsimp only
  rw [readyOff_ends, endShed, polled_bay_self, reported_bay_self]
  refine ite_congr_of_iff Iff.rfl rfl (ite_congr_of_iff Iff.rfl (ite_congr_of_iff ?_ rfl rfl) rfl)
  rw [Bool.and_eq_true, Bool.not_eq_true']

theorem bayTxnDone_polled {p : List Byte} {r : RunState} {stale : Bool} (code : byteAt p 1 = BitVec.ofNat 8 r.code)
    (fresh : stale = false) (forwards : (s.bay b).state.forwarding = true) : bayTxnDone b .status stale p s =
      let kept := polled b (reported b r (inletReading (byteAt p 2)) (wordAt p 3).toNat s)
      if r = .readyOff then endShed b offReady (endStop b offReady kept) else kept :=
  (bayTxnDone_poll code b stale s).trans
    ((pollSucceeded_eq (notIdent_of_forwarding forwards) ..).trans (if_neg (polls_on fresh forwards)))

/-- Settles O27. -/
theorem bayLinkOutcomesAct : Obligations.BayLinkOutcomesAct := by
  refine ⟨fun b c p x s high done flight => answersWhole high (character_done (l := .bay b) done flight), Sticky.set_eq,
    fun b s => ⟨fun x k next flight => failBayTxn_eq flight k next,
      fun stale k => ⟨fun out => ?_, fun fresh forwards => ⟨fun linked few => ?_, fun linked three => ?_, fun lost => ?_⟩⟩,
      fun level retried stale k => ⟨fun out => ?_, fun fresh online free => ⟨fun first linked => ?_, fun last => ?_⟩⟩,
      fun stale k => rfl, fun stale p => rfl, fun i stale k => rfl, fun i stale p => rfl,
      fun stale p r code => ⟨fun ident => ?_, fun notIdent out => ?_, fun fresh forwards =>
        ⟨fun stays => ?_, fun ready stopping => ?_, fun ready shedding auto wanted => ?_, fun ready shedding off => ?_⟩⟩,
      fun level retried stale p => ⟨fun low decided => ?_, fun low other => ?_, fun above fresh => ?_, fun above old => ?_⟩,
      fun c lost => if_pos lost, fun level => ⟨fun decided online => ?_, fun other => ?_⟩⟩⟩
  · exact (bayTxnFailed_poll ..).trans (if_pos out)
  · refine (bayTxnFailed_poll ..).trans ((if_neg (polls_on fresh forwards)).trans ((pollFailed_eq ..).trans ?_))
    exact (if_neg (by rw [linked]; exact nofun)).trans (if_neg (Nat.ne_of_lt few))
  · refine (bayTxnFailed_poll ..).trans ((if_neg (polls_on fresh forwards)).trans ((pollFailed_eq ..).trans ?_))
    exact (if_neg (by rw [linked]; exact nofun)).trans (if_pos three)
  · refine (bayTxnFailed_poll ..).trans ((if_neg (polls_on fresh forwards)).trans ((pollFailed_eq ..).trans ?_))
    exact if_pos lost
  · by_cases old : stale = true
    · exact if_pos old
    · exact (if_neg old).trans ((capFailed_eq ..).trans (if_pos (out.resolve_left old)))
  · refine (if_neg (by rw [fresh]; exact nofun)).trans ((capFailed_eq ..).trans ((if_neg ?_).trans (if_neg ?_)))
    · exact not_or.mpr ⟨Classical.not_not.mpr online, Classical.not_not.mpr free⟩
    · rw [first, linked]
      decide
  · refine (if_neg (by rw [fresh]; exact nofun)).trans ((capFailed_eq ..).trans ((if_neg ?_).trans (if_pos last)))
    exact not_or.mpr ⟨Classical.not_not.mpr online, Classical.not_not.mpr free⟩
  · exact (bayTxnDone_poll code b stale s).trans (if_pos ident)
  · exact (bayTxnDone_poll code b stale s).trans ((pollSucceeded_eq notIdent ..).trans (if_pos out))
  · refine (bayTxnDone_polled code fresh forwards).trans ((?_ : _ = polled b _).trans (polled_reported ..))
    by_cases ready : r = .readyOff
    · have online := stays.resolve_left (Classical.not_not.mpr ready)
      refine (if_pos ready).trans ((polled_readyOff ..).trans ?_)
      rw [online]
      rfl
    · exact if_neg ready
  · refine (bayTxnDone_polled code fresh forwards).trans ((if_pos ready).trans ((polled_readyOff ..).trans ?_))
    rw [polled_reported]
    exact if_pos stopping
  · refine (bayTxnDone_polled code fresh forwards).trans ((if_pos ready).trans ((polled_readyOff ..).trans ?_))
    rw [polled_reported]
    exact (if_neg (by rw [shedding]; decide)).trans ((if_pos shedding).trans (if_pos ⟨auto, wanted⟩))
  · refine (bayTxnDone_polled code fresh forwards).trans ((if_pos ready).trans ((polled_readyOff ..).trans ?_))
    rw [polled_reported]
    refine (if_neg (by rw [shedding]; decide)).trans ((if_pos shedding).trans (if_neg ?_))
    rintro ⟨auto, wanted⟩
    rcases off with unauto | stopped
    · rw [auto] at unauto
      cases unauto
    · rw [wanted] at stopped
      cases stopped
  · exact (capAcknowledged_eq ..).trans ((if_neg (Nat.not_lt.mpr low)).trans (if_pos decided))
  · exact (capAcknowledged_eq ..).trans ((if_neg (Nat.not_lt.mpr low)).trans (if_neg other))
  · exact (capAcknowledged_eq ..).trans ((if_pos above).trans (if_neg (by rw [fresh]; exact nofun)))
  · exact (capAcknowledged_eq ..).trans ((if_pos above).trans (if_pos old))
  · exact (capFailure_eq ..).trans (if_pos ⟨decided, online⟩)
  · refine (capFailure_eq ..).trans (if_neg ?_)
    rintro ⟨decided, online⟩
    exact other.elim (· decided) (· online)

end Sys2Proof.Machine

namespace Sys2Proof.Machine

variable {s t u : State} {i : SupIx} {p : Supply}

/-! ### Supply samples (R58, R59) -/

theorem supplyPresence_absent (absent : (s.supply i).state = .absent) (present : Bool) : supplyPresence i present s =
    if 20 ≤ ((s.supply i).samplePresence present).presentRun then
      supplyInserted i (s.modSupply i (Supply.samplePresence present))
    else s.modSupply i (Supply.samplePresence present) := by
  unfold supplyPresence
  dsimp only
  rw [State.modSupply_supply_self]
  simp only [absent]
  rfl

theorem supplyPresence_seated (seated : (s.supply i).state ≠ .absent) (present : Bool) : supplyPresence i present s =
    if 2 ≤ ((s.supply i).samplePresence present).absentRun then
      supplyAbsence i (s.modSupply i (Supply.samplePresence present))
    else s.modSupply i (Supply.samplePresence present) := by
  unfold supplyPresence
  dsimp only
  rw [State.modSupply_supply_self]
  dsimp only
  cases was : (s.supply i).state
  case absent => exact absurd was seated
  all_goals rfl

/-- A DC-OK sample of the level held ends a run of others. -/
theorem dcOk_same (i : SupIx) (s : State) : dcOk i (s.supply i).dcOk s = s.modSupply i fun p => { p with dcOkRun := 0 } := by
  unfold dcOk
  rw [if_pos rfl]
  rfl

theorem dcOk_other {level : Bool} (other : level ≠ (s.supply i).dcOk) : dcOk i level s =
    if 2 ≤ (s.supply i).dcOkRun then dcOkChanged i (s.modSupply i fun p => { p with dcOk := level, dcOkRun := 0 })
    else s.modSupply i fun p => { p with dcOkRun := p.dcOkRun + 1 } := by
  unfold dcOk
  rw [if_neg other]
  dsimp only
  refine ite_congr_of_iff (by omega) rfl ?_
  unfold State.modSupply
  rfl

theorem abandonSupplyTxn_eq (i : SupIx) (s : State) : abandonSupplyTxn i s = { s with supplyLink := { s.supplyLink with
    identRequests := s.supplyLink.identRequests.set i none
    engine := if s.supplyLink.engine.inFlight.bind Txn.address = some i then Engine.quiet s.now
      else s.supplyLink.engine } } := by
  unfold abandonSupplyTxn placeRequest
  dsimp only
  by_cases addressed : s.supplyLink.engine.inFlight.bind Txn.address = some i
  · rw [if_pos addressed, if_pos addressed]
    rfl
  · rw [if_neg addressed, if_neg addressed]

/-! ### The state of a supply and its counted capacity (R61 to R63) -/

theorem State.modSupply_congr {f g : Supply → Supply} (h : f (s.supply i) = g (s.supply i)) :
    s.modSupply i f = s.modSupply i g := by
  unfold State.modSupply
  rw [h]

/-- The part with a supply in a new state, its capacity counted and SUPPLY_CHANGE raised. -/
def supplyMoved (i : SupIx) (st : SupplyState) (c : Nat) (s : State) : State :=
  raise .supplyChange (.supply i) st.code c (s.modSupply i fun p => { p with state := st, counted := c })

theorem changeSupply_moves (i : SupIx) (st : SupplyState) (s : State) : changeSupply i st s =
    let moved := supplyMoved i st (countedCapacity { s.supply i with state := st }) s
    recomputeBudget (if st = .failed then raiseCondition (.supplyFailed i) moved
      else if (s.supply i).state = .failed then endCondition (.supplyFailed i) moved else moved) := by
  have counts : recount i (s.modSupply i fun p => { p with state := st }) = s.modSupply i fun p =>
      { p with state := st, counted := countedCapacity { s.supply i with state := st } } := by
    rw [recount, State.modSupply_modSupply]
    exact State.modSupply_congr rfl
  unfold changeSupply
  rw [counts]
  dsimp only
  rw [State.modSupply_supply_self]
  rfl

/-- The capacity that a supply counts in a state (Table 4-4). -/
theorem countedCapacity_unread (p : Supply) : countedCapacity { p with state := .unread } =
    if p.override ≠ 0 ∧ p.dcOk = true then p.override else 0 :=
  ite_congr_of_iff (by simp) rfl rfl

/-- The capacity a supply counts in a state other than FAILED. -/
def stateCapacity (p : Supply) : SupplyState → Nat
  | .active => if p.override ≠ 0 then p.override else if p.lineLow then p.lowLine.getD 0 else p.highLine.getD 0
  | .unread => if p.override ≠ 0 ∧ p.dcOk = true then p.override else 0
  | .absent | .ident | .failed => 0

theorem countedCapacity_eq (p : Supply) (st : SupplyState) : countedCapacity { p with state := st } = stateCapacity p st := by
  cases st
  case unread => exact countedCapacity_unread p
  all_goals rfl

theorem supplyPolled_active (active : (s.supply i).state = .active) (ok low : Bool) : supplyPolled i ok low s =
    if ok = true then recomputeBudget (recount i (s.modSupply i fun p => { p with lineLow := low }))
    else changeSupply i .failed (s.modSupply i fun p => { p with lineLow := low }) := by
  unfold supplyPolled
  rw [active]

theorem supplyPolled_failed (failed : (s.supply i).state = .failed) (ok low : Bool) : supplyPolled i ok low s =
    if ok = true ∧ (s.supply i).dcOk = true then changeSupply i .active (s.modSupply i fun p => { p with lineLow := low })
    else recomputeBudget (recount i (s.modSupply i fun p => { p with lineLow := low })) := by
  unfold supplyPolled
  rw [failed]
  dsimp only
  rw [State.modSupply_supply_self]
  exact ite_congr_of_iff (Bool.and_eq_true ..▸ Iff.rfl) rfl rfl

theorem supplyPolled_else (notActive : (s.supply i).state ≠ .active) (notFailed : (s.supply i).state ≠ .failed)
    (ok low : Bool) : supplyPolled i ok low s = s := by
  unfold supplyPolled
  cases was : (s.supply i).state
  case active => exact absurd was notActive
  case failed => exact absurd was notFailed
  all_goals rfl

/-! ### The supply link's outcomes (R42) -/

theorem failSupplyTxn_poll (flight : s.supplyLink.engine.inFlight = some (.supplyStatus i)) (k : FailKind) (next : Engine) :
    failSupplyTxn k next s = (setSupplyEngine next s).modSupply i fun p => { p with sticky := p.sticky.set k } := by
  unfold failSupplyTxn
  simp only [flight, Option.bind_some, Txn.address]

theorem failSupplyTxn_block {n : Nat} (flight : s.supplyLink.engine.inFlight = some (.supplyReadBlock i n)) (k : FailKind)
    (next : Engine) : failSupplyTxn k next s = blockOutcome (.supply i) (.error k)
      ((setSupplyEngine next s).modSupply i fun p => { p with sticky := p.sticky.set k }) := by
  unfold failSupplyTxn
  simp only [flight, Option.bind_some, Txn.address]

/-! ### The budget (R64) -/

/-- What follows from B computed anew, by how it compares. -/
theorem recomputeBudget_moves (s : State) : recomputeBudget s =
    let b := (rebudget s).alloc.budget
    let told := raise .budgetChange .chassis s.alloc.mode.code b (rebudget s)
    if b = s.alloc.budget then rebudget s
    else if s.alloc.budget < b then admissionPass told
    else if b < nonShedding none s then shedPass told
    else told := by
  rw [recomputeBudget_eq]
  refine ite_congr_of_iff Iff.rfl rfl ?_
  have limit : limitOf none (raise .budgetChange .chassis s.alloc.mode.code (rebudget s).alloc.budget (rebudget s)) =
      (rebudget s).alloc.budget := congrArg Allocator.budget (raise_alloc ..)
  have held : nonShedding none (raise .budgetChange .chassis s.alloc.mode.code (rebudget s).alloc.budget (rebudget s)) =
      nonShedding none s := by
    unfold nonShedding allocSum
    simp only [raise_bay]
    rfl
  unfold afterLimit
  rw [limit, held]

/-- Settles O31. -/
theorem supplySamplesAct : Obligations.SupplySamplesAct := by
  refine ⟨fun i s high => ⟨fun absent => ⟨?_, fun few => ?_, fun many => ?_⟩, fun seated => ⟨?_, fun first => ?_, fun again => ?_⟩,
      fun level same => ?_, fun level other => ⟨fun few => ?_, fun many => ?_⟩⟩,
    fun i s => ⟨rfl, ?_, rfl, fun active low => ?_, fun kept => ?_⟩,
    fun i ok low s => ⟨fun active good => ?_, fun active bad => ?_, fun failed good dc => ?_, fun failed bad => ?_,
      fun notActive notFailed => supplyPolled_else notActive notFailed ok low⟩,
    fun x s flight => ⟨fun c p high done => ⟨fun i poll => ?_, fun i n read => ?_⟩, fun i k next => ⟨?_, fun n => ?_⟩⟩,
    fun i st s => ⟨fun failed => ?_, fun working was => ?_, fun working was => ?_⟩,
    fun s => ⟨fun same => ?_, fun rise => ?_, fun fall short => ?_, fun fall enough => ?_⟩⟩
  · exact answersWhole high ((supplyPresence_absent absent false).trans (if_neg (Nat.not_le.mpr (Nat.zero_lt_succ 19))))
  · exact answersWhole high ((supplyPresence_absent absent true).trans
      (if_neg (Nat.not_le.mpr (Nat.succ_lt_succ few))))
  · exact answersWhole high ((supplyPresence_absent absent true).trans (if_pos (Nat.succ_le_succ many)))
  · exact answersWhole high ((supplyPresence_seated seated true).trans (if_neg (Nat.not_le.mpr Nat.two_pos)))
  · refine answersWhole high ((supplyPresence_seated seated false).trans (if_neg (Nat.not_le.mpr ?_)))
    rw [show ((s.supply i).samplePresence false).absentRun = (s.supply i).absentRun + 1 from rfl, first]
    exact Nat.one_lt_two
  · exact answersWhole high ((supplyPresence_seated seated false).trans (if_pos (Nat.succ_le_succ again)))
  · subst same
    exact answersWhole high (dcOk_same i s)
  · exact answersWhole high ((dcOk_other other).trans (if_neg (Nat.not_le.mpr few)))
  · exact answersWhole high ((dcOk_other other).trans (if_pos many))
  · rw [abandonSupplyTxn_eq]
    rcases s.supplyLink.engine.inFlight with _ | x
    · rfl
    · cases x <;> simp [Txn.address]
  · refine if_pos ?_
    rw [active, low]
    rfl
  · refine if_neg ?_
    rw [Bool.and_eq_true, decide_eq_true_iff, Bool.not_eq_true']
    rintro ⟨active, low⟩
    rcases kept with inactive | level
    · exact inactive active
    · rw [low] at level
      cases level
  · exact (supplyPolled_active active ok low).trans (if_pos good)
  · exact (supplyPolled_active active ok low).trans (if_neg (by rw [bad]; exact nofun))
  · exact (supplyPolled_failed failed ok low).trans (if_pos ⟨good, dc⟩)
  · refine (supplyPolled_failed failed ok low).trans (if_neg ?_)
    rintro ⟨good, dc⟩
    rcases bad with out | down
    · rw [good] at out
      cases out
    · rw [dc] at down
      cases down
  · subst poll
    exact answersWhole high (character_done (l := .supply) done flight)
  · subst read
    exact answersWhole high (character_done (l := .supply) done flight)
  · rintro rfl
    exact failSupplyTxn_poll flight k next
  · rintro rfl
    exact failSupplyTxn_block flight k next
  · subst failed
    exact (changeSupply_moves i .failed s).trans (congrArg recomputeBudget (if_pos rfl))
  · refine (changeSupply_moves i st s).trans (congrArg recomputeBudget ((if_neg working).trans ((if_pos was).trans ?_)))
    exact congrArg (endCondition (.supplyFailed i)) (congrArg (supplyMoved i st · s) (countedCapacity_eq ..))
  · refine (changeSupply_moves i st s).trans (congrArg recomputeBudget ((if_neg working).trans ((if_neg was).trans ?_)))
    exact congrArg (supplyMoved i st · s) (countedCapacity_eq ..)
  · exact (recomputeBudget_moves s).trans (if_pos same)
  · exact (recomputeBudget_moves s).trans ((if_neg (Nat.ne_of_gt rise)).trans (if_pos rise))
  · exact (recomputeBudget_moves s).trans ((if_neg (Nat.ne_of_lt fall)).trans
      ((if_neg (Nat.not_lt.mpr (Nat.le_of_lt fall))).trans (if_pos short)))
  · exact (recomputeBudget_moves s).trans ((if_neg (Nat.ne_of_lt fall)).trans
      ((if_neg (Nat.not_lt.mpr (Nat.le_of_lt fall))).trans (if_neg (Nat.not_lt.mpr enough))))

end Sys2Proof.Machine

namespace Sys2Proof.Machine

variable {s t u : State} {f g : FanIx} {output : Nat}

/-! ### A change of a fan's health handed on (R123) -/

theorem State.modFan_modFan (s : State) (f : FanIx) (p q : Fan → Fan) :
    (s.modFan f p).modFan f q = s.modFan f fun x => q (p x) := by
  simp only [State.modFan, State.fan, Tab.get_set_self, Tab.set_set]

theorem State.modFan_congr {p q : Fan → Fan} (h : p (s.fan f) = q (s.fan f)) : s.modFan f p = s.modFan f q := by
  unfold State.modFan
  rw [h]

theorem healthChanged_frame (f : FanIx) (s : State) : (healthChanged f s).fans = s.fans ∧
    (healthChanged f s).conditions = s.conditions ∧ (healthChanged f s).tachWindow = s.tachWindow := by
  unfold healthChanged
  rw [updateZone_only]
  rcases recomputeLimit_step (fanZone f) s with same | pass
  · rw [same]
    exact ⟨rfl, rfl, rfl⟩
  · exact ⟨pass.fans, pass.conditions, pass.tachWindow⟩

theorem healthChanged_fan (f g : FanIx) (s : State) : (healthChanged f s).fan g = s.fan g :=
  congrArg (Tab.get · g) (healthChanged_frame f s).1

theorem healthChanged_grow (f : FanIx) (s : State) : EventsGrow s (healthChanged f s) := by
  unfold healthChanged
  rw [updateZone_only]
  exact recomputeLimit_grow ..

theorem healthChanged_limited (f : FanIx) (s : State) :
    ((healthChanged f s).zone (fanZone f)).Limited (healthyCount (fanZone f) (healthChanged f s)) := by
  have count : healthyCount (fanZone f) (healthChanged f s) = healthyCount (fanZone f) s :=
    healthyCount_congr (healthChanged_frame f s).1 _
  rw [count]
  exact updateZone_limited _ _ _ (limited_recomputeLimit ..)

/-- A fan that is not HEALTHY leaves its zone at most one that is. -/
theorem healthyCount_unhealthy (ill : (s.fan f).health ≠ .healthy) : healthyCount (fanZone f) s ≠ 2 := by
  have others : healthyCount (fanZone f) s ≤
      (allFans.filter fun g => g.val / 2 = (fanZone f).val && g ≠ f).length := by
    refine length_filter_mono fun g _ here => ?_
    obtain ⟨zone, well⟩ := Bool.and_eq_true_iff.mp here
    refine Bool.and_eq_true_iff.mpr ⟨zone, decide_eq_true fun same => ill ?_⟩
    rw [← same]
    exact of_decide_eq_true well
  have one : ∀ f : FanIx, (allFans.filter fun g => g.val / 2 = (fanZone f).val && g ≠ f).length = 1 := by decide
  rw [one f] at others
  omega

theorem healthChanged_output (ill : (s.fan f).health ≠ .healthy) :
    ((healthChanged f s).zone (fanZone f)).output = 1000 := by
  refine updateZone_unhealthy _ _ (decide_eq_true ?_)
  rw [healthyCount_recomputeLimit]
  exact healthyCount_unhealthy ill

/-! ### The judgement of a fan (R120, R121) -/

/-- A HEALTHY fan at its third low window. -/
def stalledFan (f : FanIx) (s : State) : State :=
  raise .fanFault (.fan f) 0 (s.fan f).rpm (s.modFan f fun y =>
    { y with health := .stalled, lowRun := (s.fan f).lowRun + 1, goodRun := 0, leftAs := some .stall })

/-- A fan at its third good window. -/
def provedFan (f : FanIx) (s : State) : State :=
  raise .fanRestored (.fan f) ((s.fan f).leftAs.elim 0 FanDetail.code) (s.fan f).rpm (s.modFan f fun y =>
    { y with health := .healthy, lowRun := 0, goodRun := (s.fan f).goodRun + 1, leftAs := none })

/-- The window was low for the fan. -/
def Slow (f : FanIx) (s : State) : Prop := (s.fan f).rpm < (s.zone (fanZone f)).settings.stall

theorem judgeFan_absent (absent : (s.fan f).health = .absent) : judgeFan output f s = s := by
  unfold judgeFan
  simp only [absent]

/-- A window that does not count against a HEALTHY fan. -/
theorem judgeFan_well (healthy : (s.fan f).health = .healthy) (well : output < 200 ∨ ¬ Slow f s) :
    judgeFan output f s = s.modFan f fun x => { x with lowRun := 0 } := by
  have run : (if output < 200 then 0 else if (s.fan f).rpm < (s.zone (fanZone f)).settings.stall then
      (s.fan f).lowRun + 1 else 0) = 0 := by
    split
    · rfl
    next fast => exact if_neg (well.resolve_left fast)
  unfold judgeFan
  simp only [healthy, run]
  rfl

/-- A low window of a HEALTHY fan whose output is driven. -/
theorem judgeFan_slow (healthy : (s.fan f).health = .healthy) (slow : Slow f s) (driven : 200 ≤ output) :
    judgeFan output f s = if 2 ≤ (s.fan f).lowRun then healthChanged f (raiseCondition (.fanFault f) (stalledFan f s))
      else s.modFan f fun x => { x with lowRun := (s.fan f).lowRun + 1 } := by
  unfold Slow at slow
  unfold judgeFan
  simp only [healthy, if_neg (Nat.not_lt.mpr driven), if_pos slow]
  refine ite_congr_of_iff (by omega) ?_ rfl
  unfold stallFan stalledFan
  dsimp only
  rw [State.modFan_modFan, State.modFan_fan_self]
  rfl

/-- A low window of a fan that is to be proved. -/
theorem judgeFan_unproved (ill : (s.fan f).health = .stalled ∨ (s.fan f).health = .returning) (slow : Slow f s) :
    judgeFan output f s = s.modFan f fun x => { x with goodRun := 0 } := by
  unfold Slow at slow
  unfold judgeFan
  rcases ill with ill | ill
  all_goals
    simp only [ill, if_pos slow]
    rfl

/-- A good window of a fan that is to be proved. -/
theorem judgeFan_good (ill : (s.fan f).health = .stalled ∨ (s.fan f).health = .returning) (good : ¬ Slow f s) :
    judgeFan output f s = if 2 ≤ (s.fan f).goodRun then healthChanged f (endCondition (.fanFault f) (provedFan f s))
      else s.modFan f fun x => { x with goodRun := (s.fan f).goodRun + 1 } := by
  unfold Slow at good
  have restored : ∀ n, restoreFan f (s.modFan f fun x => { x with goodRun := n }) =
      healthChanged f (endCondition (.fanFault f) (raise .fanRestored (.fan f)
        ((s.fan f).leftAs.elim 0 FanDetail.code) (s.fan f).rpm (s.modFan f fun y =>
        { y with health := .healthy, lowRun := 0, goodRun := n, leftAs := none }))) := fun n => by
    unfold restoreFan
    dsimp only
    rw [State.modFan_modFan, State.modFan_fan_self, State.modFan_fan_self]
  unfold judgeFan
  rcases ill with ill | ill
  all_goals
    simp only [ill, if_neg good]
    rw [restored]
    exact ite_congr_of_iff (by omega) rfl rfl

/-! ### What a judgement touches (R119) -/

/-- A judgement of `f` alone, which leaves the measurements and the window timer. -/
structure JudgesOnly (f : FanIx) (s t : State) : Prop where
  others : ∀ g, g ≠ f → t.fan g = s.fan g
  rpm : (t.fan f).rpm = (s.fan f).rpm
  pulses : (t.fan f).pulses = (s.fan f).pulses
  tachWindow : t.tachWindow = s.tachWindow

theorem JudgesOnly.refl (f : FanIx) (s : State) : JudgesOnly f s s := ⟨fun _ _ => rfl, rfl, rfl, rfl⟩

theorem JudgesOnly.modFan (p : Fan → Fan) (rpm : (p (s.fan f)).rpm = (s.fan f).rpm)
    (pulses : (p (s.fan f)).pulses = (s.fan f).pulses) (same : ∀ g, t.fan g = (s.modFan f p).fan g)
    (window : t.tachWindow = s.tachWindow) : JudgesOnly f s t := by
  refine ⟨fun g other => (same g).trans (State.modFan_fan_ne s other p), ?_, ?_, window⟩
  all_goals rw [same f, State.modFan_fan_self]
  · exact rpm
  · exact pulses

theorem stalled_fan (f g : FanIx) (s : State) :
    (healthChanged f (raiseCondition (.fanFault f) (stalledFan f s))).fan g = (s.modFan f fun y =>
      { y with health := .stalled, lowRun := (s.fan f).lowRun + 1, goodRun := 0, leftAs := some .stall }).fan g :=
  (healthChanged_fan ..).trans (raise_fan ..)

theorem proved_fan (f g : FanIx) (s : State) :
    (healthChanged f (endCondition (.fanFault f) (provedFan f s))).fan g = (s.modFan f fun y =>
      { y with health := .healthy, lowRun := 0, goodRun := (s.fan f).goodRun + 1, leftAs := none }).fan g :=
  (healthChanged_fan ..).trans (raise_fan ..)

theorem judgeFan_only (output : Nat) (f : FanIx) (s : State) : JudgesOnly f s (judgeFan output f s) := by
  have counted (p : Fan → Fan) (rpm) (pulses) : JudgesOnly f s (s.modFan f p) :=
    .modFan p rpm pulses (fun _ => rfl) rfl
  have ill (ill : (s.fan f).health = .stalled ∨ (s.fan f).health = .returning) :
      JudgesOnly f s (judgeFan output f s) := by
    by_cases slow : Slow f s
    · rw [judgeFan_unproved ill slow]
      exact counted _ rfl rfl
    · rw [judgeFan_good ill slow]
      split
      · exact .modFan _ rfl rfl (proved_fan f · s) ((healthChanged_frame ..).2.2.trans (raise_tachWindow ..))
      · exact counted _ rfl rfl
  cases health : (s.fan f).health with
  | absent => rw [judgeFan_absent health]; exact .refl f s
  | stalled => exact ill (.inl health)
  | returning => exact ill (.inr health)
  | healthy =>
    by_cases slow : Slow f s ∧ 200 ≤ output
    · rw [judgeFan_slow health slow.1 slow.2]
      split
      · exact .modFan _ rfl rfl (stalled_fan f · s) ((healthChanged_frame ..).2.2.trans (raise_tachWindow ..))
      · exact counted _ rfl rfl
    · rw [judgeFan_well health (by
        rcases Classical.not_and_iff_not_or_not.mp slow with quick | idle
        · exact .inr quick
        · exact .inl (Nat.not_le.mp idle))]
      exact counted _ rfl rfl

theorem JudgesOnly.measures (h : JudgesOnly f s t) (g : FanIx) :
    (t.fan g).rpm = (s.fan g).rpm ∧ (t.fan g).pulses = (s.fan g).pulses := by
  by_cases same : g = f
  · subst same
    exact ⟨h.rpm, h.pulses⟩
  · rw [h.others g same]
    exact ⟨rfl, rfl⟩

/-- The judgements of a window leave what it measured. -/
theorem judgements_keep (outputs : FanIx → Nat) (l : List FanIx) : ∀ s : State,
    let t := l.foldl (fun u f => judgeFan (outputs f) f u) s
    t.tachWindow = s.tachWindow ∧ ∀ g, (t.fan g).rpm = (s.fan g).rpm ∧ (t.fan g).pulses = (s.fan g).pulses := by
  induction l with
  | nil => exact fun s => ⟨rfl, fun _ => ⟨rfl, rfl⟩⟩
  | cons f l ih =>
    intro s
    have first := judgeFan_only (outputs f) f s
    obtain ⟨window, rest⟩ := ih (judgeFan (outputs f) f s)
    refine ⟨window.trans first.tachWindow, fun g => ?_⟩
    obtain ⟨rpm, pulses⟩ := first.measures g
    exact ⟨(rest g).1.trans rpm, (rest g).2.trans pulses⟩

/-! ### The window's end -/

/-- Every fan measured, before any is judged. -/
def measured (s : State) : State := { s.reach s.tachWindow with
  tachWindow := max s.now s.tachWindow + 1000
  fans := s.fans.map fun x => { x with rpm := x.pulses * 30, pulses := 0 } }

theorem windowEnd_eq (s : State) : windowEnd s = [0, 1, 2, 3, 4, 5].foldl
    (fun u f => judgeFan (s.zone (fanZone f)).output f u) (measured s) := by
  unfold windowEnd
  dsimp only
  simp only [Tab.get_map]
  rfl

theorem measured_fan (s : State) (f : FanIx) :
    ((measured s).fan f).rpm = (s.fan f).pulses * 30 ∧ ((measured s).fan f).pulses = 0 := by
  have fan : (measured s).fan f = { s.fan f with rpm := (s.fan f).pulses * 30, pulses := 0 } := Tab.get_map ..
  rw [fan]
  exact ⟨rfl, rfl⟩

theorem windowEnd_measures (s : State) : (windowEnd s).tachWindow = max s.now s.tachWindow + 1000 ∧
    ∀ f, ((windowEnd s).fan f).rpm = (s.fan f).pulses * 30 ∧ ((windowEnd s).fan f).pulses = 0 := by
  obtain ⟨window, fans⟩ := judgements_keep (fun f => (s.zone (fanZone f)).output) [0, 1, 2, 3, 4, 5] (measured s)
  rw [windowEnd_eq]
  refine ⟨window, fun f => ?_⟩
  obtain ⟨rpm, pulses⟩ := measured_fan s f
  exact ⟨(fans f).1.trans rpm, (fans f).2.trans pulses⟩

/-! ### Fan presence (R118, R122) -/

theorem fanPresence_same {p : Bool} (same : p = (s.fan f).present) :
    fanPresence f p s = s.modFan f fun y => { y with presenceRun := 0 } := by
  unfold fanPresence
  simp only [if_pos same]
  rfl

theorem fanPresence_counts {p : Bool} (other : p ≠ (s.fan f).present) (few : (s.fan f).presenceRun < 2) :
    fanPresence f p s = s.modFan f fun y => { y with presenceRun := y.presenceRun + 1 } := by
  unfold fanPresence
  simp only [if_neg other]
  rw [if_neg (by omega)]
  exact State.modFan_congr rfl

theorem fanPresence_changes {p : Bool} (other : p ≠ (s.fan f).present) (third : 2 ≤ (s.fan f).presenceRun) :
    fanPresence f p s = if p then fanSeated f (s.modFan f fun x => { x with present := p, presenceRun := 0 })
      else fanPulled f (s.modFan f fun x => { x with present := p, presenceRun := 0 }) := by
  unfold fanPresence
  simp only [if_neg other]
  exact if_pos (by omega)

theorem fanSeated_absent (absent : (s.fan f).health = .absent) :
    fanSeated f s = s.modFan f fun x => { x with health := .returning, goodRun := 0 } := if_pos absent

theorem fanPulled_ill (ill : (s.fan f).health = .stalled ∨ (s.fan f).health = .returning) :
    fanPulled f s = s.modFan f fun x => { x with health := .absent, lowRun := 0, goodRun := 0 } := by
  unfold fanPulled
  rcases ill with ill | ill
  all_goals simp only [ill]

theorem fanPulled_healthy (healthy : (s.fan f).health = .healthy) : fanPulled f s = healthChanged f (s.modFan f fun x =>
    { x with health := .absent, lowRun := 0, goodRun := 0, leftAs := some .absent }) := by
  unfold fanPulled
  simp only [healthy]

/-- A change of level reaches the health rules with the fan's health as it was. -/
theorem level_health (p : Bool) (f : FanIx) (s : State) :
    ((s.modFan f fun x => { x with present := p, presenceRun := 0 }).fan f).health = (s.fan f).health := by
  rw [State.modFan_fan_self]

/-! ### The clauses of O44 -/

theorem healthChanged_limit (f : FanIx) (s : State) :
    let u := healthChanged f s
    let z := u.zone (fanZone f)
    let h := ((List.finRange 6).filter fun g => decide (fanZone g = fanZone f ∧ (u.fan g).health = .healthy)).length
    let cooling := if h = 0 then z.settings.cooling0 else if h = 1 then z.settings.cooling1 else z.settings.cooling2
    z.limit = if z.thermal = .critical then min cooling z.settings.critLimit else cooling := by
  intro u z h cooling
  have limited := healthChanged_limited f s
  rw [healthyCount_eq] at limited
  have zones : ∀ g : FanIx, fanZone g = fanZone f ↔ g.val / 2 = (fanZone f).val := fun g => Fin.ext_iff
  simp only [← zones] at limited
  exact limited

/-- An event of the fan stands where it was raised, whatever the change of health brings after it. -/
theorem healthChanged_tells {kind : EventKind} {detail rpm : Nat} {p : Fan → Fan} {c : State → State}
    (same : ∀ u, (c u).events = u.events) (room : s.events.queue.length < s.events.limit) :
    ∃ rest, (healthChanged f (c (raise kind (.fan f) detail rpm (s.modFan f p)))).events.queue =
      s.events.queue ++ ⟨kind, .fan f, BitVec.ofNat 8 detail, s.seconds, BitVec.ofNat 32 rpm⟩ :: rest := by
  have grown := (EventsGrow.of_eq (same _)).trans
    (healthChanged_grow f (c (raise kind (.fan f) detail rpm (s.modFan f p))))
  obtain ⟨rest, queue⟩ := EventsGrow.after_raise (s := s.modFan f p) room grown
  rw [BitVec.ofInt_natCast] at queue
  exact ⟨rest, queue⟩

theorem leftAs_detail {left : FanDetail} (h : (s.fan f).leftAs = some left) :
    (s.fan f).leftAs.elim 0 FanDetail.code = if left = .absent then 1 else 0 := by
  rw [h]
  cases left with
  | stall => rfl
  | absent => rfl

/-- Settles O44: the window's end as a fold of judgements, the judgement by its cases, and the presence samples. -/
theorem fansAreJudgedAndDebounced : Obligations.FansAreJudgedAndDebounced := by
  refine ⟨⟨fun s high => ⟨fun f => gated_high high fun s => s.modFan f _, answersWhole high rfl,
    (windowEnd_measures s).2, (windowEnd_measures s).1, windowEnd_eq s⟩, fun output f s => ?_⟩, fun f p s high => ?_⟩
  · intro x t low handedOn limited told
    refine ⟨judgeFan_absent, fun healthy idle => ?_, fun healthy good => ?_, fun healthy slow driven few => ?_,
      fun healthy slow driven third => ?_, fun ill slow => ?_, fun ill good few => ?_, fun ill good third => ?_,
      (judgeFan_only output f s).others⟩
    · have after : t = _ := judgeFan_well healthy (.inl idle)
      rw [after, State.modFan_fan_self]
      exact ⟨healthy, rfl⟩
    · have after : t = _ := judgeFan_well healthy (.inr good)
      rw [after, State.modFan_fan_self]
      exact ⟨healthy, rfl⟩
    · have after : t = _ := (judgeFan_slow healthy slow driven).trans (if_neg (Nat.not_le.mpr few))
      rw [after, State.modFan_fan_self]
      exact ⟨healthy, rfl⟩
    · have after : t = _ := (judgeFan_slow healthy slow driven).trans (if_pos third)
      have fan : t.fan f = _ := (congrArg (State.fan · f) after).trans
        ((stalled_fan f f s).trans (State.modFan_fan_self ..))
      have ill : ((raiseCondition (.fanFault f) (stalledFan f s)).fan f).health ≠ .healthy := by
        rw [← healthChanged_fan f f, ← after, fan]
        exact nofun
      refine ⟨congrArg Fan.health fan, congrArg Fan.goodRun fan, ?_,
        ⟨⟨.fanFault f, true, false, (stalledFan f s).seconds⟩, ?_, rfl, rfl, rfl⟩, after, ?_, fun room => ?_⟩
      · rw [after]
        exact healthChanged_output ill
      · rw [after, (healthChanged_frame ..).2.1]
        exact (mem_raiseCondition ..).mpr (.inr rfl)
      · rw [after]
        exact healthChanged_limit ..
      · rw [after]
        exact healthChanged_tells (c := raiseCondition (.fanFault f)) (fun _ => rfl) room
    · have after : t = _ := judgeFan_unproved ill slow
      rw [after, State.modFan_fan_self]
      exact ⟨rfl, rfl⟩
    · have after : t = _ := (judgeFan_good ill good).trans (if_neg (Nat.not_le.mpr few))
      rw [after, State.modFan_fan_self]
      exact ⟨rfl, rfl⟩
    · have after : t = _ := (judgeFan_good ill good).trans (if_pos third)
      have fan : t.fan f = _ := (congrArg (State.fan · f) after).trans
        ((proved_fan f f s).trans (State.modFan_fan_self ..))
      refine ⟨congrArg Fan.health fan, congrArg Fan.lowRun fan, fun c here key => ?_, ?_, fun left was => ?_⟩
      · rw [after, (healthChanged_frame ..).2.1] at here
        exact endCondition_inactive here key
      · rw [after]
        exact healthChanged_limit ..
      · rw [provedFan, leftAs_detail was] at after
        refine ⟨after, fun room => ?_⟩
        rw [after]
        exact healthChanged_tells (c := endCondition (.fanFault f)) (fun _ => rfl) room
  · intro x
    refine ⟨fun same => answersWhole high (fanPresence_same same), fun other few =>
      answersWhole high (fanPresence_counts other few), fun other third up absent => answersWhole high ?_,
      fun other third down ill => answersWhole high ?_, fun other third down healthy => answersWhole high ?_⟩
    all_goals rw [fanPresence_changes other third]
    · subst up
      rw [if_pos rfl, fanSeated_absent ((level_health ..).trans absent), State.modFan_modFan]
    · subst down
      rw [if_neg Bool.false_ne_true, fanPulled_ill (by rwa [level_health]), State.modFan_modFan]
    · subst down
      rw [if_neg Bool.false_ne_true, fanPulled_healthy ((level_health ..).trans healthy), State.modFan_modFan]
      rfl

end Sys2Proof.Machine
